-- ==== Sys2Proof/Word.lean ====
section
/-! DEFINITION. The byte and word types of the model (R14, R18). -/
namespace Sys2Proof

/-- A byte. -/
abbrev Byte := BitVec 8

/-- A register word: every BAR0 register is 32 bits wide (R14). -/
abbrev Word := BitVec 32

/-- A sequence of bytes as it lies in memory or on a wire. -/
abbrev Bytes := List Byte

end Sys2Proof
end

