-- ==== Sys2Proof/Syntax.lean ====
section
/-! DEFINITION. The commands of the Oldoax: one constructor per row of spec/opcode_table.json, with the row's operands. -/
namespace Sys2Proof

/-- The way a word's access comes in: BAR0 from the host, the block windows of a Hawk core or of Chrysalis, BAR4, or the boot ROM, the
SRAM or a 4 MiB page of the private devices in Chrysalis's own map (R23, R29, R80, R498). -/
inductive Space where
  | bar0
  | hawk (core : Fin 8)
  | chy
  | bar4
  | chyRom
  | chySram
  | chyDevice (page : Fin 4)
  deriving DecidableEq, Repr

/-- What a PTP message's header carries that Antenna uses (R53): source port identity, domain and sequence. -/
structure PtpHeader where
  source : BitVec 80
  domain : BitVec 8
  seq : BitVec 16
  deriving DecidableEq, Repr

/-- An Announce message's data set, in the fields that the best master clock algorithm compares (R53). -/
structure Announce where
  hdr : PtpHeader
  priority1 : BitVec 8
  clockClass : BitVec 8
  accuracy : BitVec 8
  variance : BitVec 16
  priority2 : BitVec 8
  identity : BitVec 64
  steps : BitVec 16
  deriving DecidableEq, Repr

/-- What a request at an arbiter port asks for (R119, R142, R143): a read, a masked write, the start or end of a lock, the line of a cache
with its poisoned words (R157, R162), or an access of a command that waits for it (R133, R144). -/
inductive StoreOp where
  | read (beats : Fin 8)
  | write (data : List (Option Byte))
  | lockBegin (size : Fin 5)
  | lockEnd (recovered : Bool)
  | writeBack (data : Bytes) (poison : List Nat)
  | command
  deriving DecidableEq, Repr

/-- A store request of a requester (R119, R132). -/
structure StoreRequest where
  requester : Fin 57
  addr : BitVec 29
  op : StoreOp
  deriving DecidableEq, Repr

/-- What can happen while PWR_ENTER runs (R447, R457, R458): a write of a word, which may ring a doorbell; a lock of Chrysalis; a request
that Chrysalis takes up; the supply warnings and resets. -/
inductive EntryAct where
  | write (sp : Space) (off : BitVec 22) (val : Word)
  | lock (base : BitVec 29) (size : Fin 5)
  | request
  | sagWarn (level : BitVec 16)
  | sagReset (level : BitVec 16)
  | vcoreLow
  deriving DecidableEq, Repr

/-- A bit error that strikes a store word: a single-bit error, or one that SECDED cannot correct (R123, R124). -/
structure Strike where
  addr : BitVec 29
  double : Bool
  deriving DecidableEq, Repr

/-- What configuration space holds beside the fields that govern requests (R79): Device Control's payload and read request sizes as
2^(7 + n) bytes, at most 512 and 4,096, 10-bit tags, ECRC generation and checking, and the completion timeout range. -/
structure DevControl where
  maxPayload : Fin 3
  maxRead : Fin 6
  tags10 : Bool
  ecrcGen : Bool
  ecrcCheck : Bool
  timeout : BitVec 4
  deriving DecidableEq, Repr

/-- The rest of what a configuration request leaves: the power state of the function, what governs no request by itself, and the AER status
bits that it clears by a 1 (R79). -/
structure FunctionState where
  d3hot : Bool
  control : DevControl
  aerClear : BitVec 32
  deriving DecidableEq, Repr

/-- A request's withdrawal (R139): its requester, and whether it comes in the cycle after the grant. -/
structure Withdrawal where
  requester : Fin 57
  granted : Bool
  deriving DecidableEq, Repr

/-- What the store BIST of a cold start finds on a die (R126, R150): the spare rows in use, and whether every bank could be repaired. -/
structure BistDie where
  spares : BitVec 8
  repaired : Bool
  deriving DecidableEq, Repr

/-- What a start finds (R126, R442): whether VKEEP was absent, and the store BIST of a cold start, die by die. -/
structure StartTests where
  keepLost : Bool
  bist : List BistDie
  deriving DecidableEq, Repr

/-- A code group of a Wingbeat link: a data group, a K group by its byte, or a violation of the code or of its running disparity
(R286, R287). -/
inductive WireGroup where
  | d (b : Byte)
  | k (b : Byte)
  | error
  deriving DecidableEq, Repr

/-- The kinds of a Hawk core's reads: a load, a load-reserved, a fetch, and the read of a CSR by its number (R153, R155, R157). -/
inductive CoreRead where
  | load
  | lr
  | fetch
  | csr (num : BitVec 12)
  | fenceI
  deriving DecidableEq, Repr

/-- The kinds of a Hawk core's writes: a store, an AMO, a store-conditional, and the write of a CSR by its number (R153, R156, R157). -/
inductive CoreWrite where
  | store
  | amo
  | sc
  | csr (num : BitVec 12)
  deriving DecidableEq, Repr

/-- A read of a Hawk core: its kind, address and size as 2^size bytes, and an error that a cache finds in what it reads, uncorrectable or
corrected (R153, R162, R185). -/
structure CoreLoad where
  kind : CoreRead
  addr : BitVec 64
  size : Fin 4
  ecc : Option Bool
  deriving DecidableEq, Repr

/-- A write of a Hawk core: its kind, address and size as 2^size bytes, and an error that a cache finds in its line, uncorrectable or
corrected (R153, R162, R185). -/
structure CoreStore where
  kind : CoreWrite
  addr : BitVec 64
  size : Fin 4
  ecc : Option Bool
  deriving DecidableEq, Repr

/-- Where a packet of the emission engine is launched: on the network ports, or as DATA on a Wingbeat port (R252, R307). -/
inductive Outlet where
  | net
  | wing (port : Fin 16)
  deriving DecidableEq, Repr

/-- A valid RSP frame as a port takes it (R303, R305, R316): source address, KIND, TAG, payload words, the chain position of the
node that replied to an ENUM, and the measured round trip in tenths of a ns. -/
structure WingRsp where
  node : BitVec 8
  kind : BitVec 4
  tag : BitVec 8
  payload : List Word
  position : BitVec 8
  rt : BitVec 32
  deriving DecidableEq, Repr

/-- A sample row data header of an ST 2110-20 packet with its pixels: line, offset in pixels, and pairs of 5 bytes (R393). -/
structure RowData where
  line : BitVec 15
  offset : BitVec 15
  data : Bytes
  deriving DecidableEq, Repr

/-- The interface an SDI signal comes on: 1.5G, 3G Level A or Level B, 6G or 12G (R390). -/
inductive SdiLink where
  | g1_5
  | g3a
  | g3b
  | g6
  | g12
  deriving DecidableEq, Repr

/-- The format of an SDI signal, or the one its ST 352 payload identifier names (R390, R391): its picture, whether interlaced, its nominal
frames per second and whether 1/1.001 of them, its interface, and whether it is single-link YCbCr 4:2:2 at 10 bits. -/
structure SdiFormat where
  width : BitVec 13
  height : BitVec 13
  interlaced : Bool
  rate : BitVec 8
  divided : Bool
  link : SdiLink
  ycc422 : Bool
  deriving DecidableEq, Repr

/-- What an SDI frame's format is held against (R391): its ST 352 payload identifier where one is present, and whether SDIREF runs at
148.5/1.001 MHz. -/
structure SdiCheck where
  ident : Option SdiFormat
  refDivided : Bool
  deriving DecidableEq, Repr

/-- Where a packet of a media flow arrived, and what its UDP/IPv4 headers say (R392): the port, and the addresses that an entry matches. -/
structure FlowHead where
  port : Fin 8
  srcIp : Word
  dstIp : Word
  dport : BitVec 16
  deriving DecidableEq, Repr

/-- A Roost message as a member receives it (R410-R413): its path (0 and 1 the Silk ports 8 and 9, 2 the network), whether its tag
verifies, whether its TYPE is undefined, the fields of its header, its payload, and its receive timestamp. -/
structure RoostMsg where
  path : Fin 3
  tagOk : Bool
  undefinedType : Bool
  id : BitVec 16
  hopped : Bool
  state : BitVec 3
  rank : BitVec 2
  sender : BitVec 64
  dest : BitVec 64
  mseq : BitVec 64
  f : Word
  txtime : Word
  payload : Bytes
  time : BitVec 64
  deriving DecidableEq, Repr

/-- A signed token as Chrysalis takes it (R505): vendor's or owner's, the key slot, whether it names this unit's serial, the
challenge it carries, whether its signature verifies, and how many parameter bytes it takes. -/
structure Token where
  vendor : Bool
  slot : Fin 4
  serialOk : Bool
  challenge : Bytes
  sigOk : Bool
  length : Nat
  deriving DecidableEq, Repr

/-- A key blob as Chrysalis takes it (R507): slot 0 is the Roost's and 1 + p that of port p; whether it names this unit's serial,
whether its key is in plain text, whether the key could be unwrapped, its owner signature's key slot with whether the signature
verifies, and the key. -/
structure KeyBlob where
  slot : Fin 9
  serialOk : Bool
  plain : Bool
  unwrapOk : Bool
  signature : Option (Fin 4 × Bool)
  key : Bytes
  deriving DecidableEq, Repr



/-- The commands: every operation and event of spec/opcode_table.json, each one whole and indivisible step
(95_what_each_step_holds.md). -/
inductive Instr where
  /-- REGISTER_WRITE (R17): A BAR0 or Hawk write to a register field with no behaviour of its own loads the field, and a write of an
  undefined encoding is ignored for that field only. -/
  | registerWrite (sp : Space) (off : BitVec 22) (val : Word)
  /-- LO_READ_LATCH (R14): A read of a _LO register returns the low word and latches the matching _HI value. -/
  | loReadLatch (sp : Space) (off : BitVec 22)
  /-- BAR0_UNMAPPED_ACCESS (R27): An access at or above 0x0021_0000 reads 0, drops a write and sets UNMAPPED with block ID 0xFF. -/
  | bar0UnmappedAccess (sp : Space) (off : BitVec 22) (write : Bool)
  /-- BAR0_BAD_ACCESS (R28): A BAR0 request that is not one aligned 32-bit word reaches no register and sets BAD_ACCESS. -/
  | bar0BadAccess (sp : Space) (off : BitVec 22) (write : Bool)
  /-- ACCESS_OFF (R455): An access to a block that is off reads 0x0FF0_0FF0, drops a write and sets ACCESS_OFF. -/
  | accessOff (sp : Space) (off : BitVec 22) (write : Bool)
  /-- CAL_ADD (R63): CAL_ADD stores an event keyed by context and position, or completes with CAL_FULL or BAD_PARAM. -/
  | calAdd (ring : Fin 64)
  /-- CAL_CANCEL (R64): CAL_CANCEL removes pending events of a context by tag or all of them and returns the count. -/
  | calCancel (ring : Fin 64)
  /-- CAL_RELEASE (R67): An event's release instant or boundary arrives and the calendar offers it to its ready queue or to output timing.
  -/
  | calRelease
  /-- COMMAND_DOORBELL (R86): A doorbell write on a command ring moves its tail, or is dropped and counted. -/
  | commandDoorbell (ring : Fin 64) (val : Word) (aligned : Bool)
  /-- NOTICE_DOORBELL (R86): A doorbell write on a notice ring moves its consumed index, or is dropped and counted. -/
  | noticeDoorbell (ring : Fin 64) (val : Word) (aligned : Bool)
  /-- DESCRIPTOR_FETCH (R87): The Oldoax fetches announced descriptors of a command ring in round-robin and starts them in index order. -/
  | descriptorFetch (data : List (List Word))
  /-- DMA_TO_STORE (R113): DMA_TO_STORE copies host memory into the store within the DMA rate limit. -/
  | dmaToStore (ring : Fin 64) (data : Bytes) (hostError : Bool)
  /-- DMA_FROM_STORE (R113): DMA_FROM_STORE copies store content to host memory, stopping at poison. -/
  | dmaFromStore (ring : Fin 64)
  /-- DMA_DONE (R105): A DMA transfer finishes and its completion is written after its data is committed. -/
  | dmaDone (ring : Fin 64)
  /-- ARB_GRANT (R134): A die grants its next slot to the first eligible head request by lock, priority, age and ID. -/
  | arbGrant (die : Fin 8) (arrivals : List StoreRequest) (strikes : List Strike)
  /-- ECC_WRITEBACK (R123): In its next idle cycle the die writes back a corrected word unless a write has reached it. -/
  | eccWriteback (addr : BitVec 29)
  /-- POISON_STORE (R124): In its next idle cycle the die rewrites an uncorrectable word's check bits with a poison code. -/
  | poisonStore (addr : BitVec 29)
  /-- ARB_STARVED (R136): A requester's age reaches ARB_STARVE.CYCLES, so its flag is set and ARB_STARVED is raised. -/
  | arbStarved (r : Fin 57)
  /-- ARB_WITHDRAW (R139): A requester withdraws its head request, costing one idle slot if just granted. -/
  | arbWithdraw (w : Withdrawal)
  /-- ALIVE_FALL (R140): A requester's alive signal falls; its burst is cut, its requests discarded and its lock abandoned. -/
  | aliveFall (r : Fin 57)
  /-- ALIVE_RISE (R140): A requester's alive signal rises and its port starts empty with age 0. -/
  | aliveRise (r : Fin 57)
  /-- LOCK_BEGIN (R142): A LOCK_BEGIN load atomically takes a lock on a store region and returns the old lock word. -/
  | lockBegin (r : Fin 57) (base : BitVec 29) (size : Fin 5)
  /-- LOCK_END (R143): A LOCK_END load writes the lock word FREE or ABANDONED and releases the region. -/
  | lockEnd (r : Fin 57) (base : BitVec 29) (recovered : Bool)
  /-- SCRUB_READ (R126): The patrol scrubber reads its next granule of a die and corrects it. -/
  | scrubRead (die : Fin 8) (strikes : List Strike)
  /-- BAR2_WRITE (R130): A BAR2 write stores bytes, drops those in refused or sealed ranges and counts STO_WINDENY. -/
  | bar2Write (addr : Nat) (data : List (Option Byte))
  /-- BAR2_READ (R131): A BAR2 read returns store data, zeros for private ranges, or the off pattern while the store is down. -/
  | bar2Read (addr : Nat) (len : Nat)
  /-- NEXT (R165): A NEXT load ends the core's task and waits for a dispatched task word. -/
  | next (core : Fin 8)
  /-- CQ_RECORD_PUSH (R170): A completion record that waited for room in a full queue is pushed and the core becomes free. -/
  | cqRecordPush (q : Fin 32)
  /-- POSTRES (R154): A POSTRES load returns the result of the core's last post. -/
  | postres (core : Fin 8)
  /-- PORT_FENCE (R159): A FENCE store or I/O fence holds later stores until earlier ones are performed. -/
  | portFence (core : Fin 8)
  /-- CMO_BASE (R154): A store to CMO_BASE sets the base of the next cache operation. -/
  | cmoBase (core : Fin 8) (v : BitVec 64)
  /-- CLEAN (R154): A CLEAN store writes back dirty lines of the range and keeps them valid. -/
  | clean (core : Fin 8) (len : BitVec 64) (dirty : List (BitVec 29 × Bytes))
  /-- FLUSH (R154): A FLUSH store writes back and invalidates the lines of the range. -/
  | flush (core : Fin 8) (len : BitVec 64) (dirty : List (BitVec 29 × Bytes))
  /-- INVAL (R154): An INVAL store invalidates the lines of the range without writing back. -/
  | inval (core : Fin 8) (len : BitVec 64)
  /-- HWK_DISABLE (R173): Writing ENABLE = 0 stops dispatch to a core, which stops at its next NEXT load. -/
  | hwkDisable (core : Fin 8)
  /-- TSK_ENABLE (R174): Writing TSK_CTRL.ENABLE = 1 while quiescent enables the scheduler. -/
  | tskEnable
  /-- TSK_DISABLE (R174): Writing TSK_CTRL.ENABLE = 0 cancels new and waiting tasks of all ready queues. -/
  | tskDisable
  /-- TSK_Q_DISABLE (R174): Writing TSK_Q_k.CTRL.ENABLE = 0 cancels new and waiting tasks of that ready queue. -/
  | tskQDisable (k : Fin 16)
  /-- TSK_QUIESCENT (R174): Disabled queues empty and dispatched tasks end, so QUIESCENT is set and TSK_QUIESCENT raised. -/
  | tskQuiescent (k : Fin 17)
  /-- TSK_POST (R183): TSK_POST places a task word on a ready queue, waiting while it is full. -/
  | tskPost (ring : Fin 64)
  /-- QUEUE_PAGE_POP (R175): A core load pops a hardware queue, or returns the empty word. -/
  | queuePagePop (core : Fin 8) (load : CoreLoad)
  /-- QUEUE_PAGE_PUSH (R176): A core store pushes a word onto a hardware queue. -/
  | queuePagePush (core : Fin 8) (store : CoreStore) (word : BitVec 64)
  /-- QUE_HOST_POP (R176): A host read of QUE_q_POP_LO pops the queue and latches POP_HI. -/
  | queHostPop (q : Fin 32)
  /-- QUE_HOST_PUSH (R176): A host write of PUSH_HI pushes (PUSH_HI, PUSH_LO). -/
  | queHostPush (q : Fin 32) (hi : Word)
  /-- QUE_NOTICE_CLEAR (R179): Writing 1 to STAT.NOTICE clears NOTICE and XCNT together. -/
  | queNoticeClear (q : Fin 32)
  /-- QUE_ENABLE (R181): Writing ENABLE = 1 on a quiescent queue enables it. -/
  | queEnable (q : Fin 32)
  /-- QUE_DISABLE (R181): Writing ENABLE = 0 discards the queue's words and sets QUIESCENT. -/
  | queDisable (q : Fin 32)
  /-- SURF_COMMIT (R191): A write to S7 checks and commits all eight words of a surface descriptor. -/
  | surfCommit (d : BitVec 10) (v : Word)
  /-- PIX_LTAB_NEXT_WRITE (R201): A write of PIX_LTAB_NEXT sets the next layer table and PEND. -/
  | pixLtabNextWrite (v : Word)
  /-- PIX_ENABLE (R216): Writing PIX_CTRL.ENABLE = 1 while quiescent lets the pipelines composite frames. -/
  | pixEnable
  /-- PIX_DISABLE (R216): Writing PIX_CTRL.ENABLE = 0 stops further composites. -/
  | pixDisable
  /-- PIX_QUIESCENT (R216): The last composite finishes or stops at its deadline, QUIESCENT is set and PIX_QUIESCENT raised. -/
  | pixQuiescent
  /-- PIX_PIECE (R213): A free pipeline takes the next piece of up to 16 pixels of one endpoint and composites and converts it. -/
  | pixPiece (pipe : Fin 16) (stalls sclStalls : BitVec 16)
  /-- COMPOSITE_COMPLETE (R213): The pipelines complete a frame's composite in the back buffer before its deadline. -/
  | compositeComplete (t : BitVec 64)
  /-- SCL_FTAB_NEXT_WRITE (R221): A write of SCL_FTAB_NEXT sets the next fixture type table and PEND. -/
  | sclFtabNextWrite (v : Word)
  /-- SCL_LAMP_NEXT_WRITE (R221): A write of SCL_LAMP_NEXT sets the next lamp array and PEND. -/
  | sclLampNextWrite (v : Word)
  /-- SCL_IMAGO_WRITE (R235): A write of SCL_IMAGO0 or 1 sets an Imago base while the pipelines are quiescent. -/
  | sclImagoWrite (second : Bool) (v : Word)
  /-- SCL_XFADE_WRITE (R239): A write of SCL_CTRL.XFADE sets the crossfade length from the next composite start. -/
  | sclXfadeWrite (v : BitVec 8)
  /-- EPT_NEXT_WRITE (R244): A write of EPT_NEXT sets the next endpoint table and PEND. -/
  | eptNextWrite (v : Word)
  /-- OTU_ENABLE (R328): Writing OTU_CTRL.ENABLE = 1 while quiescent makes OTU_SEL.REC current and schedules the first latch. -/
  | otuEnable
  /-- LATCH (R326): At the latch of frame N the OTU fixes A_N and P_N, applies commits and switches, and starts the composite. -/
  | latch
  /-- DEADLINE_SWAP (R338): At the deadline the Imago buffers swap, or a missed frame is repeated, and packing of the frame starts. -/
  | deadlineSwap
  /-- FIRST_LAUNCH (R248): F_N arrives, EMI_FRAME increments and launches of frame N begin. -/
  | firstLaunch
  /-- PACKET_PACKED (R251): The packer finishes packing a packet of frame N into the packet buffer, launching it at once if its instant
  has passed; after the last packet, the frame's digest and the node thermal sums close. -/
  | packetPacked (t : BitVec 64)
  /-- PACKET_LAUNCH (R252): A data, change or sync packet is launched at its instant on its port. -/
  | packetLaunch (outlet : Outlet)
  /-- APEX (R327): The apex A_N arrives; the packer stops for frame N. -/
  | apex
  /-- OTU_DISABLE (R329): Writing OTU_CTRL.ENABLE = 0 stops further latches and discards commits. -/
  | otuDisable
  /-- OTU_SWITCH_GO (R334): A write of OTU_SWITCH with GO = 1 requests a timing switch as a commit arriving now. -/
  | otuSwitchGo (rec_ : BitVec 2)
  /-- SAFE_N_CHANGE (R343): The SAFE_N pin changes level and its filter starts timing. -/
  | safeNChange (lowLevel : Bool) (t : BitVec 64)
  /-- SAFE_FILTER_EXPIRY (R343): SAFE_N has held its level for OTU_SAFEFLT µs and is declared asserted or released. -/
  | safeFilterExpiry
  /-- SAFE_CLR (R345): A write of SAFE_CLR = 1 while the pin is released clears the latched safe request. -/
  | safeClr
  /-- SACN_UDISC (R255): Every 10 s each segment sends sACN universe discovery packets. -/
  | sacnUdisc (seg : Fin 64)
  /-- TERMINATE_PACKET (R257): A Stream_Terminated packet is sent for each universe concerned, 1 ms apart. -/
  | terminatePacket
  /-- EMI_DISABLE (R278): Writing EMI_CTRL.ENABLE = 0 stops further first launches, polls and echoes. -/
  | emiDisable
  /-- EMI_QUIESCENT (R278): The frame in emission completes, QUIESCENT is set and EMI_QUIESCENT raised. -/
  | emiQuiescent
  /-- SEG_DISABLE (R279): Writing a segment's ENABLE = 0 stops its data, polls and echoes from the next first launch. -/
  | segDisable (seg : Fin 64)
  /-- APT_POLL (R267): A segment sends POLL, ending the previous round and counting misses. -/
  | aptPoll (seg : Fin 64)
  /-- APT_REPLY_RX (R267): A REPLY is matched to a node entry and updates it. -/
  | aptReplyRx (seg : Fin 64) (ip : BitVec 32) (mac : BitVec 48) (data : Bytes)
  /-- APT_ECHO_REQ (R268): An ECHO_REQ is sent to each echo-enabled present node per EMI_ECHO ms. -/
  | aptEchoReq (node : BitVec 12)
  /-- APT_ECHO_RSP_RX (R269): A valid ECHO_RSP sample loads or filters MEAS and sets LAT_OK. -/
  | aptEchoRspRx (seg : Fin 64) (data : Bytes) (lanB : Bool) (t4 : BitVec 64)
  /-- DMX_BREAK (R271): A DMX port starts its break at b_N and sends frame N's packet. -/
  | dmxBreak (p : Fin 8) (idle : Option (BitVec 64))
  /-- DMX_RDM (R274): DMX_RDM queues an RDM request on a port. -/
  | dmxRdm (ring : Fin 64) (data : Bytes) (hostError : Bool)
  /-- RDM_TRANSACTION_START (R273): An RDM transaction or discovery branch starts when the line is idle and the gap is long enough. -/
  | rdmTransactionStart (p : Fin 8) (disc : Bool) (t : BitVec 64)
  /-- RDM_RESPONSE_RX (R274): An RDM response is received and written, completing DMX_RDM. -/
  | rdmResponseRx (p : Fin 8) (data : Bytes) (framing : Bool) (t : BitVec 64)
  /-- RDM_TIMEOUT (R274): No valid response arrives in 2,800 µs; the port retries or completes with NO_RESPONSE. -/
  | rdmTimeout (p : Fin 8)
  /-- RDMWAIT_EXPIRY (R273): A transaction waits RDMWAIT ms without a gap and the port skips its next packet. -/
  | rdmwaitExpiry (p : Fin 8)
  /-- DMX_DISCOVER (R276): DMX_DISCOVER runs a full RDM discovery pass into the UID table. -/
  | dmxDiscover (ring : Fin 64)
  /-- DMX_INCREMENTAL_DISCOVERY (R276): Every DISC s an incremental discovery pass runs when DISC_EN = 1. -/
  | dmxIncrementalDiscovery (p : Fin 8)
  /-- DMX_DISABLE (R280): Writing a DMX port's ENABLE = 0 starts no packet or transaction and cancels queued ones. -/
  | dmxDisable (p : Fin 8)
  /-- DMX_QUIESCENT (R280): The packet or transaction in progress finishes, the driver is released and DMX_QUIESCENT raised. -/
  | dmxQuiescent (p : Fin 8)
  /-- WB_TICK (R289): A port with nothing else to send starts a TICK frame within 4,125 symbol times. -/
  | wbTick (p : Fin 16)
  /-- WB_DATA_CUTOFF (R309): At A_N − Lmax_p − 24 µs unsent DATA frames are dropped. -/
  | wbDataCutoff (p : Fin 16)
  /-- WB_LATCH_SEND (R307): At A_N − Lmax_p each port sends LATCH with PARAM F, or with REPEAT or STALE. -/
  | wbLatchSend (p : Fin 16)
  /-- WB_SCAN_SEND (R311): A valid profile's SCAN frame is sent to its nodes after a change, on discovery and once per second. -/
  | wbScanSend (p : Fin 16) (n : BitVec 8)
  /-- WB_PROFILE_WRITE (R311): A scan profile write or a period change recomputes the profile's validity and row slot. -/
  | wbProfileWrite (p : Fin 16) (k : Fin 8) (write : Option (Fin 6 × Word))
  /-- WB_STATUS_POLL (R304): Every STATPER ms a port sends a STATUS REQ to each valid node record. -/
  | wbStatusPoll (p : Fin 16) (n : BitVec 8)
  /-- WB_ECHO (R305): Every ECHOPER ms a port echoes each present node to measure its delay. -/
  | wbEcho (p : Fin 16) (n : BitVec 8)
  /-- WB_ENUM_CHECK (R303): Every ENUMPER ms an end-A port with AUTOENUM sends an ENUM CHECK. -/
  | wbEnumCheck (p : Fin 16)
  /-- WB_RSP_RX (R316): A RSP from a node updates its record by KIND. -/
  | wbRspRx (p : Fin 16) (r : WingRsp)
  /-- WB_RSP_TIMEOUT (R316): A RSP does not arrive within RSPTO, counts in RSPMISS and the record's misses. -/
  | wbRspTimeout (p : Fin 16)
  /-- WB_PORT_RX (R296): A port checks a received frame, counting bad frames and frames from the other end. -/
  | wbPortRx (p : Fin 16) (first : WireGroup) (groups : List WireGroup)
  /-- WB_LINK (R323): A port's receive lock changes and WB_LINK is raised. -/
  | wbLink (p : Fin 16) (lock : Bool)
  /-- WNG_ENUM (R319): WNG_ENUM sends an ENUM ASSIGN, CHECK or SET and completes after RSPTO. -/
  | wngEnum (ring : Fin 64)
  /-- WNG_SEND (R319): WNG_SEND sends a CFG or VENDOR frame from a host buffer. -/
  | wngSend (ring : Fin 64) (data : Bytes) (hostError : Bool)
  /-- WNG_QUERY (R319): WNG_QUERY sends a REQ and writes the RSP payload to the host. -/
  | wngQuery (ring : Fin 64)
  /-- WB_DISABLE (R321): Writing a WNG port's ENABLE = 0 stops frame building and cancels queued descriptors. -/
  | wbDisable (p : Fin 16)
  /-- WB_QUIESCENT (R321): The port finishes its frame, sends IDLE only and raises WB_QUIESCENT. -/
  | wbQuiescent (p : Fin 16)
  /-- MAC_RX_FRAME (R348): A port receives a whole frame and runs its checks, MACsec, PRP, filters and claim. -/
  | macRxFrame (p : Fin 10) (data plain : Bytes) (mpacket : Fin 3) (codeOk fcsOk fragOk icvOk : Bool) (t : BitVec 64)
  /-- PAUSE_HOLD_EXPIRY (R364): A received pause hold of quanta × 512 bit times ends. -/
  | pauseHoldExpiry (p : Fin 10)
  /-- PAUSE_REFRESH (R365): While the FIFO stays at or above LOW, the PAUSE is resent every QUANTA / 2. -/
  | pauseRefresh (p : Fin 8)
  /-- MAC_RXBUF (R355): MAC_RXBUF posts a receive buffer on the port's receive ring. -/
  | macRxbuf (ring : Fin 64)
  /-- MAC_RX_DELIVER (R357): A claim-0 frame waiting for a buffer is written into available buffers, or truncated. -/
  | macRxDeliver (p : Fin 10)
  /-- MAC_TX (R355): MAC_TX queues a host frame for transmission on the port. -/
  | macTx (ring : Fin 64) (data : Bytes) (hostError : Bool)
  /-- MAC_TX_SELECT (R361): At a frame or fragment boundary the port picks its next frame by class and sends it. -/
  | macTxSelect (p : Fin 10)
  /-- MAC_LINK (R350): The PCS link state changes, STAT.LINK follows and MAC_LINK is raised. -/
  | macLink (p : Fin 10) (up : Bool)
  /-- PREEMPT_VERIFY (R362): An 802.3br verification attempt runs every VERIFY_TIME ms, up to three times. -/
  | preemptVerify (p : Fin 10)
  /-- PRP_SUPERVISION (R372): A PRP pair sends supervision frames on both LANs every LIFE s. -/
  | prpSupervision (k : Fin 4)
  /-- PRP_ENTRY_FORGET (R374): A duplicate-discard entry is forgotten FORGET ms after it was stored. -/
  | prpEntryForget (k : Fin 4)
  /-- MAC_DISABLE (R382): Writing MAC_CTRL.ENABLE = 0 takes no new frame and cancels queued descriptors. -/
  | macDisable (p : Fin 10)
  /-- MAC_QUIESCENT (R382): The frame on the wire finishes, QUIESCENT is set and MAC_QUIESCENT raised. -/
  | macQuiescent (p : Fin 10)
  /-- MAC_CNTCLR (R381): A write of MAC_CNTCLR = 1 clears every counter of the port and its MSC. -/
  | macCntclr (p : Fin 10)
  /-- MSC_CTRL_WRITE (R379): A write of MSC TX_EN or RX_EN takes effect at the next frame boundary of its direction. -/
  | mscCtrlWrite (p : Fin 8) (v : Word)
  /-- WAKE_PATTERN_MATCH (R380): In Dormant a frame on port 0 matches an enabled wake pattern and signals a wake. -/
  | wakePatternMatch (data : Bytes)
  /-- VIN_FRAME_START (R388): At an incoming frame's first active line the input picks a buffer or drops the frame. -/
  | vinFrameStart (input : Fin 16) (signal : SdiFormat) (against : SdiCheck) (t : BitVec 64)
  /-- VIN_FRAME_COMPLETE (R387): A video frame's last beat is performed and its buffer holds a complete frame. -/
  | vinFrameComplete (input : Fin 16) (t : BitVec 64) (data : List (BitVec 10)) (crc : BitVec 16)
  /-- VIN_LOCK (R391): An SDI input locks after 4 valid frames and raises VIN_LOCK. -/
  | vinLock (input : Fin 4)
  /-- VIN_LOCK_LOST (R389): An input loses lock, discards the frame being written and treats its last frame under LOSS. -/
  | vinLockLost (input : Fin 16) (silent : Bool)
  /-- VIN_DISABLE (R403): Disabling an SDI input or video flow finishes its frame and empties its buffers. -/
  | vinDisable (k : Fin 48)
  /-- VIN_QUIESCENT (R403): The input's buffers are emptied, QUIESCENT is set and VIN_QUIESCENT raised. -/
  | vinQuiescent (k : Fin 48)
  /-- FLOW_ENABLE (R393): Enabling a flow entry admits it, or refuses it on pixel rate or target. -/
  | flowEnable (f : Fin 32)
  /-- FLOW_VIDEO_PACKET (R393): An ST 2110-20 packet writes its pixels, completing the frame at the marker if no gap. -/
  | flowVideoPacket (head : FlowHead) (seq : BitVec 16) (marker : Bool) (segs : List RowData) (t : BitVec 64)
  /-- FLOW_AUDIO_PACKET (R394): An audio flow packet writes its samples to its channels with their sample times. -/
  | flowAudioPacket (head : FlowHead) (seq : BitVec 16) (ts : Word) (data : Bytes) (onset : Bool) (t : BitVec 64)
  /-- FLOW_ANC_PACKET (R395): An ancillary packet is written with its length word into the ancillary ring. -/
  | flowAncPacket (head : FlowHead) (data : Bytes) (t : BitVec 64)
  /-- AES3_SAMPLE (R396): An AES3 sample is written to its channel ring and WIDX and TS advance. -/
  | aes3Sample (k : Fin 4) (second : Bool) (sample : BitVec 24) (v err onset : Bool) (t : BitVec 64)
  /-- AES3_BLOCK_START (R48): An AES3 block start is measured as source 5. -/
  | aes3BlockStart (k : Fin 4) (t : BitVec 64)
  /-- AES_LOCK (R396): An AES3 input locks or loses lock and raises AES_LOCK. -/
  | aesLock (k : Fin 4) (rate : Fin 5)
  /-- AUD_DISABLE (R403): Disabling an AUD function finishes its sample or word and sets QUIESCENT. -/
  | audDisable (fn : Fin 79)
  /-- TRK_PREDICTED_BEAT (R397): A predicted beat is matched, CONF updated, and a beat emitted in TRACK or COAST. -/
  | trkPredictedBeat (after : Bool) (ms : Fin 64)
  /-- TRK_TAP (R399): A tap by TRK_TAP or GPI sets the period and next beat and enters TRACK. -/
  | trkTap
  /-- LTC_WORD_RX (R400): An LTC word is decoded, latched and counted toward lock. -/
  | ltcWordRx (tc ubits : Word) (flags : BitVec 4) (good : Bool) (t : BitVec 64)
  /-- LTC_LOSS (R400): Four LTC frames go missing and the input is lost. -/
  | ltcLoss
  /-- LTC_OUT_WORD (R401): At a boundary of LTCOUT.CTX the LTC output sends one timecode word. -/
  | ltcOutWord
  /-- HEARTBEAT_TX (R414): Every 1 ms a member sends HEARTBEAT on each Silk port and the network path. -/
  | heartbeatTx
  /-- HEARTBEAT_RX (R415): A valid HEARTBEAT updates the peer entry, θ, skew, ranks and digest comparison. -/
  | heartbeatRx (m : RoostMsg) (pref : BitVec 4) (peerRx : Word)
  /-- PEER_LOST (R416): Four heartbeat intervals pass without a HEARTBEAT, the peer is lost and ranks are re-chosen. -/
  | peerLost (n : Fin 2)
  /-- LEAVE_RX (R416): A LEAVE from a peer declares it lost at once. -/
  | leaveRx (m : RoostMsg)
  /-- CUELOG_RX (R420): A standby holds the cue-log entries of a CUELOG. -/
  | cuelogRx (m : RoostMsg)
  /-- CHUNK_RX (R425): A CHUNK of epoch data is staged by the receiving member. -/
  | chunkRx (m : RoostMsg)
  /-- EPOCH_RX (R423): An EPOCH close is verified, acknowledged and held for its latch, or resync is requested. -/
  | epochRx (m : RoostMsg)
  /-- ACK_RX (R425): Rank 0 records a peer's ACK and completes ROO_SYNC when all epochs are acknowledged. -/
  | ackRx (m : RoostMsg)
  /-- RESYNC_RX (R426): Rank 0 answers RESYNC with missing entries or bulk regions, a FULL epoch and cue epochs. -/
  | resyncRx (m : RoostMsg)
  /-- ROO_SYNC (R425): ROO_SYNC copies a bulk range to every member as bulk epochs. -/
  | rooSync (ring : Fin 64)
  /-- LEASE_REQ_TX (R432): With peer witness, rank 0 sends LEASE_REQ every 2 ms. -/
  | leaseReqTx
  /-- LEASE_REQ_RX (R432): A standby answers rank 0's LEASE_REQ with LEASE_GRANT. -/
  | leaseReqRx (m : RoostMsg)
  /-- LEASE_GRANT_RX (R432): A LEASE_GRANT runs the lease to 6,000 µs after the request. -/
  | leaseGrantRx (m : RoostMsg)
  /-- LEASE_GRANT_WRITE (R432): A host write of ROO_LEASE.GRANT on rank 0 sets the lease to 6,000 µs. -/
  | leaseGrantWrite
  /-- LEASE_EXPIRY (R431): The lease runs out and the member drops its exclusive roles. -/
  | leaseExpiry
  /-- ROO_ENABLE (R418): Writing ROO_CTRL.ENABLE = 1 with a key enters JOIN. -/
  | rooEnable
  /-- ROO_DISABLE (R436): Writing ROO_CTRL.ENABLE = 0 sends LEAVE and stops Roost cue intake. -/
  | rooDisable
  /-- ROO_QUIESCENT (R436): The member reaches OFF, unmutes, sets QUIESCENT and raises ROO_QUIESCENT. -/
  | rooQuiescent
  /-- ROO_DEMOTE (R430): A write of ROO_CTRL.DEMOTE = 1 demotes the member with cause 5. -/
  | rooDemote
  /-- ROO_REJOIN (R430): A write of ROO_CTRL.REJOIN = 1 moves a demoted member to JOIN for a permitted cause. -/
  | rooRejoin
  /-- AUTOREJOIN_TIMER (R430): 100 ms after a permitted demotion with AUTOREJOIN the member enters JOIN. -/
  | autorejoinTimer
  /-- JOINWAIT_EXPIRY (R418): No MEMBER peer appears for JOINWAIT ms and a JOIN member becomes rank 0. -/
  | joinwaitExpiry
  /-- LAGGING_TIMEOUT (R430): A member LAGGING for more than 1 s without a resync demotes with cause 4. -/
  | laggingTimeout
  /-- UPDATE_RX (R523): A peer acts on an UPDATE message from rank 0 in a Silk staging session and answers RESULT. -/
  | updateRx (m : RoostMsg) (flashOk : Bool)
  /-- PWR_ENTER_RUN (R451): PWR_ENTER with TARGET 0 wakes the device from Idle. -/
  | pwrEnterRun (ring : Fin 64)
  /-- PWR_ENTER_IDLE (R446): PWR_ENTER with TARGET 1 votes and stops the blocks of PWR_IDLEMASK. -/
  | pwrEnterIdle (ring : Fin 64) (during : List (Fin 24 × EntryAct)) (wake : Option (Fin 3))
  /-- PWR_ENTER_DORMANT (R446): PWR_ENTER with TARGET 2 stops every block, completes, latches pads and powers down all but KEEP and wake. -/
  | pwrEnterDormant (ring : Fin 64) (during : List (Fin 24 × EntryAct)) (wake : Option (Fin 3))
  /-- PWR_ENTER_COCOON (R446): PWR_ENTER with TARGET 3 stops every block, latches pads and drives SUPPLY_OFF high. -/
  | pwrEnterCocoon (ring : Fin 64) (during : List (Fin 24 × EntryAct)) (wake : Option (Fin 3))
  /-- COCOON_VCORE_FALL (R446): VCORE falls below its monitor level and Cocoon pending becomes Cocoon. -/
  | cocoonVcoreFall
  /-- WAKE_N_ASSERT (R450): WAKE_N low for 1 µs wakes the device from Idle, Dormant or Cocoon pending. -/
  | wakeNAssert
  /-- RTC_ALARM (R450): The RTC reaches PWR_ALARM and wakes the device when enabled. -/
  | rtcAlarm
  /-- PADREL (R454): A write of PWR_CTRL.PADREL = 1 releases every latched pad at once. -/
  | padrel
  /-- SAG_WARN (R457): VMON falls below the warning level, SAG_WARN is raised, the unit leaves its Roost and the log is saved. -/
  | sagWarn (level : BitVec 16)
  /-- SAG_CLEAR (R456): VMON stays above 11.2 V for 10 ms, the condition ends and SAG_CLEAR is raised. -/
  | sagClear (level : BitVec 16)
  /-- SAG_RESET (R458): VMON falls below the reset level and every domain but KEEP is held in reset. -/
  | sagReset (level : BitVec 16)
  /-- VCORE_LOW (R459): VCORE below 0.68 V for 1 µs causes a reset as for a sag. -/
  | vcoreLow
  /-- VSTORE_LOW (R459): VSTORE below 0.74 V for 1 µs declares every die LOST. -/
  | vstoreLow
  /-- RAIL_FAULT (R459): A SerDes or I/O rail below 90 % sets its PWR_RAIL bit and raises RAIL_FAULT. -/
  | railFault (rail : Fin 4)
  /-- VKEEP_LOW (R459): VKEEP below 1.70 V sets KEEP_LOW and raises RAIL_FAULT. -/
  | vkeepLow
  /-- THM_UPDATE (R464): Every 1 ms the thermal model reads sensors and rail power and updates estimates, throttle and node models. -/
  | thmUpdate (sens : List (BitVec 16 × Bool)) (power : List Word)
  /-- THERMAL_TRIP_RELEASE (R470): Five seconds after a trip the reset ends and a start runs. -/
  | thermalTripRelease
  /-- SENSOR_CLR (R467): A write of STAT.CLR = 1 re-admits a failed sensor that has passed for 1,000 updates. -/
  | sensorClr (r : Fin 8)
  /-- NODE_EN_SET (R477): Setting NODE_EN starts every node model from ambient and checks the classes. -/
  | nodeEnSet
  /-- NODE_EN_CLEAR (R481): Clearing NODE_EN stops node model updates. -/
  | nodeEnClear
  /-- RTC_SECOND (R482): The RTC counts a second, corrected by the oscillator compensation c. -/
  | rtcSecond
  /-- AUTO_OSC_TIMER (R483): Every 600 s while LOCKED with AUTO_OSC, an OSC calibration runs. -/
  | autoOscTimer
  /-- CAL_RUN_TIME (R486): CAL_RUN with KIND TIME measures delay corrections and applies them at a boundary or gradually. -/
  | calRunTime (ring : Fin 64)
  /-- CAL_RUN_SERDES (R487): CAL_RUN with KIND SERDES adapts or trains the target's SerDes. -/
  | calRunSerdes (ring : Fin 64)
  /-- CAL_RUN_OSC (R489): CAL_RUN with KIND OSC measures the crystal error over 16 s and sets C0. -/
  | calRunOsc (ring : Fin 64)
  /-- CAL_RUN_COMPLETE (R485): A running CAL_RUN finishes and completes with OK, CAL_FAILED or CAL_NOT_READY. -/
  | calRunComplete (deltas : List Int) (reply : Bool) (errs : List Nat) (e : Int)
  /-- CHY_REQUEST (R501): Chrysalis pops a mailbox request, reads its block, executes it and writes the reply, DONE and reply word. -/
  | chyRequest
  /-- INFO (R503): INFO returns Chrysalis status, instars, candidate state, floor, key map and log SEQ. -/
  | info
  /-- LOG_READ (R525): LOG_READ returns up to MAX log entries from FROM. -/
  | logRead (crcBad : List Word)
  /-- LOG_WRITE (R525): LOG_WRITE logs a host entry of class 7, within the host rate. -/
  | logWrite
  /-- IDENTITY (R506): IDENTITY returns the vendor, DEVKEY and ALIAS certificates. -/
  | identity
  /-- ATTEST (R510): ATTEST returns a report signed by ALIAS over the nonce. -/
  | attest
  /-- CHALLENGE (R505): CHALLENGE returns a fresh challenge for one signed token. -/
  | challenge
  /-- SHOW_VERIFY (R511): SHOW_VERIFY checks a show manifest and its regions and sets SHOWDIG. -/
  | showVerify (sigOk : Bool)
  /-- KEY_INSTALL (R507): KEY_INSTALL unwraps a key blob into its slot and raises KEY_CHANGED. -/
  | keyInstall (blob : KeyBlob)
  /-- KEY_DELETE (R507): KEY_DELETE clears a key slot and raises KEY_CHANGED. -/
  | keyDelete
  /-- ROO_KEY_ACTIVATE (R509): ROO_KEY_ACTIVATE makes the PENDING Roost key ACTIVE, keeping the old key for 10 s. -/
  | rooKeyActivate
  /-- ROO_KEY_GRACE_EXPIRY (R509): Ten seconds after activation the old Roost key is no longer accepted. -/
  | rooKeyGraceExpiry
  /-- STAGE_OPEN (R521): STAGE_OPEN opens a staging session on the staging slot. -/
  | stageOpen
  /-- STAGE_WRITE (R522): STAGE_WRITE erases, programs and verifies the next image bytes. -/
  | stageWrite (flashOk : Bool)
  /-- STAGE_COMMIT (R522): STAGE_COMMIT checks the staged image and marks the slot STAGED or FAILED. -/
  | stageCommit
  /-- STAGE_ABORT (R522): STAGE_ABORT ends the session and makes the slot FAILED. -/
  | stageAbort
  /-- STAGE_EXPIRED (R521): A session idle for 60 s ends, the slot becomes FAILED and STAGE_EXPIRED is raised. -/
  | stageExpired
  /-- ECLOSE (R519): ECLOSE makes the probation candidate the eclosed image, raises the floor and erases old settings. -/
  | eclose
  /-- ECLOSION_TIMEOUT (R519): The eclosion window lapses and ECLOSION_TIMEOUT is raised. -/
  | eclosionTimeout
  /-- AUTO_ECLOSE_TIMER (R523): A candidate staged with AUTO_ECLOSE ecloses itself after 60 s in MEMBER showing READY. -/
  | autoEcloseTimer
  /-- PUSH (R523): PUSH sends the staged or running image to Roost peers by UPDATE messages. -/
  | push
  /-- SET_GET (R520): SET_GET returns a settings record. -/
  | setGet
  /-- SET_PUT (R520): SET_PUT writes a settings record, with a token for security IDs when OWNED. -/
  | setPut (token : Option Token)
  /-- OWN (R505): OWN writes or revokes an owner key hash, moving OPEN to OWNED. -/
  | own (token : Option Token) (slot : Fin 4) (hash : Bytes) (revoke : Bool)
  /-- SEAL (R505): SEAL sets the SEALED fuse with an owner token. -/
  | seal (token : Option Token)
  /-- RETIRE (R505): RETIRE moves OWNED to RETIRED and clears every key slot. -/
  | retire (token : Option Token)
  /-- DEBUG_UNLOCK (R513): DEBUG_UNLOCK raises the debug level when its tokens suffice. -/
  | debugUnlock (owner : Option Token) (vendor : Option Token)
  /-- DEBUG_LOCK (R514): DEBUG_LOCK returns the debug level to 0. -/
  | debugLock
  /-- USB_REQUEST (R524): A service-port transfer carries a request that joins the Chrysalis order. -/
  | usbRequest (op : BitVec 8) (tag : BitVec 8) (rpCap : Word) (params : Bytes)
  /-- CHY_VOTER_MISMATCH (R496): The 2-of-3 voter finds a disagreement and Chrysalis restarts alone. -/
  | chyVoterMismatch
  /-- CHY_SRAM_UE (R496): An uncorrectable Chrysalis SRAM error restarts Chrysalis. -/
  | chySramUe
  /-- CHY_WATCHDOG (R496): The firmware watchdog finds 100 ms without service and restarts Chrysalis. -/
  | chyWatchdog
  /-- CHY_RESTART_WRITE (R496): A write of CHY_CTRL.RESTART = 1 restarts Chrysalis. -/
  | chyRestartWrite
  /-- CHY_RESTART (R496): The Chrysalis restart completes, RUN is set and CHY_RESTART is raised, or Chrysalis halts after three. -/
  | chyRestart (reload : Bool)
  /-- TAMPER (R526): A tamper event is logged, acted on and raises TAMPER. -/
  | tamper (clock : Bool)
  /-- MKA_FRAME_RX (R508): Chrysalis takes a claimed EAPOL MKA frame and updates the session. -/
  | mkaFrameRx (p : Fin 8) (sci : BitVec 64) (prio : BitVec 8) (icvOk : Bool) (sak : Option (BitVec 2))
  /-- MKA_HELLO (R508): Every MKA Hello Time Chrysalis sends an MKA frame on each MKA port. -/
  | mkaHello (p : Fin 8)
  /-- LOG_FLUSH (R525): Retained log entries reach the flash log ring within 1 s. -/
  | logFlush
  /-- RESET_N_ASSERT (R536): RESET_N low for 1 µs or longer causes a reset and a start. -/
  | resetNAssert (long : Bool)
  /-- TESTMODE_HIGH (R536): TESTMODE high holds every domain but KEEP in reset. -/
  | testmodeHigh (level : Bool)
  /-- REFCLK_LOSS (R543): A reference clock is declared lost and its blocks stop or the unit resets. -/
  | refclkLoss (clock : Fin 7)
  /-- REFCLK_RETURN (R543): A lost clock is stable again for 1 ms and its blocks restart. -/
  | refclkReturn (clock : Fin 7)
  /-- AVS_STEP (R538): Chrysalis commands the next VCORE step and reads back READ_VOUT. -/
  | avsStep (ack : Bool) (vout : BitVec 16)
  /-- EXTEST (R550): The JTAG EXTEST instruction drives pins from the boundary register. -/
  | extest (capture : BitVec 100) (shift : BitVec 100)
  /-- IDCODE (R550): The JTAG IDCODE instruction selects the identification register. -/
  | idcode
  /-- SAMPLE_PRELOAD (R550): The JTAG SAMPLE/PRELOAD instruction samples and preloads the boundary register. -/
  | samplePreload (capture : BitVec 100) (shift : BitVec 100)
  /-- HIGHZ (R550): The JTAG HIGHZ instruction places outputs in high impedance. -/
  | highz
  /-- CLAMP (R550): The JTAG CLAMP instruction holds outputs from the boundary register with bypass selected. -/
  | clamp
  /-- BYPASS (R550): The JTAG BYPASS instruction selects the one-bit bypass register. -/
  | bypass (code : BitVec 8)
  /-- DEBUG_TRANSPORT (R550): JTAG codes 0x10 and 0x11 reach the RISC-V debug transport at debug level 1 or 2. -/
  | debugTransport (dmi : Bool)
  /-- START (R554): At reset release the keep domain classifies the start and Chrysalis runs BIST or restore, calibration and image
  selection. -/
  | start (rails : Bool) (tests : StartTests) (staged : Fin 9) (eclosed : Fin 9)
  /-- READY (R555): The start's steps complete, RUN is set, blocks are released and START is logged. -/
  | ready
  /-- BOOT_WATCHDOG_EXPIRY (R561): A start not ready within 2 s is a failed boot and causes a start with cause 8. -/
  | bootWatchdogExpiry
  /-- MKA_LIFE_TIME (R508): A live MKA peer's Life Time of 6 s runs out without an MKPDU, changing the live peers, distributing a new SAK
  and raising MKA_STATE. -/
  | mkaLifeTime (p : Fin 8)
  /-- MAC_ENABLE (R350): Writing MAC_CTRL.ENABLE = 1 starts a port with the speed and FEC of MAC_CFG and, on a PRP pair, restarts the
  sequence number at 0. -/
  | macEnable (p : Fin 10)
  /-- CONFIGURATION_REQUEST (R79): A PCIe configuration write sets fields such as Bus Master Enable, MSI-X Enable or Device Control that
  govern DMA, notices and vector messages. -/
  | configurationRequest (bme msixEnable functionMask relaxed : Bool) (rest : FunctionState)
  /-- GRADUAL_STEP (R486): While OTU_STAT.RUNNING = 0, every 1 ms each unapplied GRADUAL TIME correction moves by at most STEP ns. -/
  | gradualStep
  /-- USB_CONFIGURED (R524): A USB host enumerates and configures the service port, setting CHY_STAT.SVC, or VBUS goes absent and clears
  it. -/
  | usbConfigured (on : Bool)
  /-- GLB_ERRSTAT_CLEAR (R32): A W1C write to GLB_ERRSTAT clears error bits and may reopen the capture. -/
  | glbErrstatClear (val : Word)
  /-- DEVICE_TIME_WRAP (R41): Device time wraps to 0 and the wrap counter increments. -/
  | deviceTimeWrap
  /-- ANT_FORCE_HOLD_WRITE (R45): A write of ANT_CTRL.FORCE_HOLD forces HOLDOVER or releases it to the best valid source or FREERUN. -/
  | antForceHoldWrite (v : Bool) (ptp : BitVec 64)
  /-- ANT_SRCSEL_WRITE (R49): A write of ANT_SRCSEL that changes the active source enters HOLDOVER and acquires the new source at its
  first valid measurement. -/
  | antSrcselWrite (v : BitVec 16) (ptp : BitVec 64)
  /-- ANT_SOURCE_VALID (R45): A listed source becomes valid and the discipline enters ACQUIRE from FREERUN or HOLDOVER. -/
  | antSourceValid (src : Fin 8) (ptp : BitVec 64)
  /-- ANT_SOURCE_LOST (R48): A source's loss condition is met, TIME_SOURCE_LOST is raised and the discipline enters HOLDOVER. -/
  | antSourceLost (src : Fin 8)
  /-- ANT_HOLDDWELL_EXPIRY (R49): The holdover dwell ends and Antenna moves to the highest-priority valid source. -/
  | antHolddwellExpiry (ptp : BitVec 64)
  /-- ANT_REVERT_TIMER (R49): A higher-priority source valid for 1 s becomes active when REVERT = 1. -/
  | antRevertTimer (src : Fin 8) (ptp : BitVec 64)
  /-- GENLOCK_PULSE (R48): A genlock frame-pulse edge is timed against its expected edge and fed to the discipline. -/
  | genlockPulse (t : BitVec 64)
  /-- PTP_SYNC_RX (R48): A claimed PTP Sync is received and timestamped for the offset measurement. -/
  | ptpSyncRx (h : PtpHeader) (twoStep lanB : Bool) (origin : BitVec 64) (corr : BitVec 64) (t : BitVec 64)
  /-- PTP_FOLLOW_UP_RX (R53): A claimed Follow_Up supplies the precise origin time of a two-step Sync. -/
  | ptpFollowUpRx (h : PtpHeader) (lanB : Bool) (origin : BitVec 64) (corr : BitVec 64)
  /-- PTP_DELAY_RESP_RX (R48): A claimed Delay_Resp completes an offset measurement. -/
  | ptpDelayRespRx (h : PtpHeader) (lanB : Bool) (received : BitVec 64) (corr : BitVec 64)
  /-- PTP_ANNOUNCE_RX (R53): A claimed Announce feeds master selection and resets the announce receipt timeout. -/
  | ptpAnnounceRx (a : Announce) (t : BitVec 64)
  /-- PTP_ANNOUNCE_TIMEOUT (R48): Three announce intervals pass without an Announce, and PTP is lost. -/
  | ptpAnnounceTimeout
  /-- PTP_DELAY_REQ_TX (R53): Antenna sends an end-to-end Delay_Req and takes its transmit timestamp. -/
  | ptpDelayReqTx
  /-- PTP_DELAY_REQ_RX (R53): In the master state, Antenna takes a claimed Delay_Req and answers with a Delay_Resp. -/
  | ptpDelayReqRx (h : PtpHeader) (corr : BitVec 64) (t : BitVec 64)
  /-- PTP_SYNC_TX (R53): In the master state, Antenna sends a Sync at its interval. -/
  | ptpSyncTx
  /-- PTP_ANNOUNCE_TX (R53): In the master state, Antenna sends an Announce at its interval. -/
  | ptpAnnounceTx
  /-- PTP_MASTER_ENTER (R53): Master selection puts Antenna in the master state, sets MASTER and treats PTP as lost. -/
  | ptpMasterEnter
  /-- PTP_MASTER_LEAVE (R53): Antenna leaves the master state and source code 1 may be valid again. -/
  | ptpMasterLeave
  /-- CTX_FRAME_BOUNDARY (R57): A show context reaches a frame boundary, acts its pending command, chases its source and moves its anchor.
  -/
  | ctxFrameBoundary (n : Fin 128)
  /-- CTX_RUN (R58): A RUN command is recorded for the context's next boundary. -/
  | ctxRun (n : Fin 128)
  /-- CTX_HOLD (R58): A HOLD command is recorded to freeze the position at the next boundary. -/
  | ctxHold (n : Fin 128)
  /-- CTX_STOP (R58): A STOP command is recorded to move the context to IDLE at the next boundary. -/
  | ctxStop (n : Fin 128)
  /-- CTX_LOCATE (R58): A LOCATE command is recorded to set the position to ANT_CTX_LOC at the next boundary. -/
  | ctxLocate (n : Fin 128)
  /-- CTX_CTRL_WRITE (R56): A write of CTRL.SOURCE or PARENT is checked for LINK cycles and ignored with BADLINK if it would close one. -/
  | ctxCtrlWrite (n : Fin 128) (v : Word)
  /-- CTX_RATE_WRITE (R55): A write of NUM, DEN or SPEED takes effect at the next boundary, or is ignored if the period would exceed its
  limit. -/
  | ctxRateWrite (n : Fin 128) (which : Fin 3) (v : Word)
  /-- CTX_SOURCE_LOST (R59): A sourced context's source is lost; it enters FREEWHEEL and raises CTX_SOURCE_LOST. -/
  | ctxSourceLost (n : Fin 128)
  /-- CTX_SOURCE_RETURN (R59): The source of a FREEWHEEL context returns and the context enters CHASE. -/
  | ctxSourceReturn (n : Fin 128)
  /-- CAL_RELEASE_ACCEPTED (R67): The receiver accepts a held event and release resumes in order. -/
  | calReleaseAccepted
  /-- CAL_ENABLE_WRITE (R70): A write of CAL_CTRL.ENABLE stops or resumes releases, releasing passed events late at their next boundary. -/
  | calEnableWrite (v : Bool)
  /-- CAL_LEAD_WRITE (R65): A write of LEAD_TASK or LEAD_COMMIT moves the release instant of every pending event of its class. -/
  | calLeadWrite (commit : Bool) (v : BitVec 4)
  /-- TP_ARM (R71): ANT_TP_ARM arms a TIMEPULSE output's schedule, refusing a short PERIOD. -/
  | tpArm (k : Fin 8)
  /-- TP_DISARM (R73): A disarm ends the TIMEPULSE schedule after any pulse in progress. -/
  | tpDisarm (k : Fin 8)
  /-- TP_EDGE (R71): A TIMEPULSE output begins or ends a pulse at its scheduled TIME cycle. -/
  | tpEdge (k : Fin 8)
  /-- GPI_TRANSITION (R402): An enabled GPI input changes level and the debounce records t_first. -/
  | gpiTransition (n : Fin 16) (level : Bool) (t : BitVec 64)
  /-- GPI_DEBOUNCE_EXPIRY (R402): A GPI input has held a level for the debounce time, so an edge is accepted or a glitch rejected. -/
  | gpiDebounceExpiry (n : Fin 16)
  /-- GPI_POP (R78): A write of POP discards the head entry of a GPI FIFO. -/
  | gpiPop (n : Fin 16)
  /-- GPI_ENABLE (R402): Enabling a GPI input takes its accepted level after the debounce time, with no edge recorded. -/
  | gpiEnable (n : Fin 16)
  /-- FUNCTION_LEVEL_RESET (R81): A function level reset resets only the host interface, disabling rings and stopping DMA. -/
  | functionLevelReset
  /-- HOT_RESET (R81): A hot reset resets the host interface until the link trains again. -/
  | hotReset
  /-- PCIE_LINK_DOWN (R81): The PCIe link goes down and the host interface is held in reset. -/
  | pcieLinkDown
  /-- PCIE_LINK_UP (R81): The PCIe link completes training and the function accepts configuration requests. -/
  | pcieLinkUp (speed : BitVec 3) (width : BitVec 4)
  /-- DESCRIPTOR_FETCH_ERROR (R111): A descriptor fetch gets an error or times out, so the ring stops and drains as though disabled. -/
  | descriptorFetchError (ring : Fin 64)
  /-- RING_ENABLE (R110): Setting ENABLE on a quiescent ring restarts it at index 0 with PHASE 1. -/
  | ringEnable (ring : Fin 64)
  /-- RING_DISABLE (R109): Clearing ENABLE stops fetching and cancels unstarted descriptors up to the tail. -/
  | ringDisable (ring : Fin 64)
  /-- RING_QUIESCENT (R108): A disabled ring's started work completes and QUIESCENT is set. -/
  | ringQuiescent (ring : Fin 64)
  /-- MSIX_MOD_TIMER (R103): The oldest unsignalled entry of a ring reaches MOD.TIME and the ring's vector is sent. -/
  | msixModTimer (ring : Fin 64)
  /-- MSIX_UNMASK (R102): Unmasking a vector with its pending bit set sends one message. -/
  | msixUnmask (vec : Fin 64)
  /-- NOP (R112): NOP completes with OK and does nothing. -/
  | nop (ring : Fin 64)
  /-- LOCK_WATCHDOG_EXPIRY (R145): A lock reaches STO_LOCKMAX cycles and is abandoned. -/
  | lockWatchdogExpiry (owner : Fin 57)
  /-- DIE_NO_RESPONSE (R127): A die fails to return a beat within 256 cycles and is declared LOST. -/
  | dieNoResponse (die : Fin 8)
  /-- DIE_LINK_CHECK_FAIL (R127): Sixteen consecutive beats fail the stack link check and the die is declared LOST. -/
  | dieLinkCheckFail (die : Fin 8)
  /-- SCRUB_DISABLE (R147): A write of SCRUB_EN = 0 stops the scrubber after its current granule. -/
  | scrubDisable
  /-- SCRUB_QUIESCENT (R147): The scrubber finishes its granule and SCRUB_QUIESCENT is set. -/
  | scrubQuiescent
  /-- IPI (R156): An IPI store sets MSIP on each core of its mask. -/
  | ipi (core : Fin 8) (mask : BitVec 8)
  /-- MTIMECMP_WRITE (R154): A store to MTIMECMP sets the timer compare value. -/
  | mtimecmpWrite (core : Fin 8) (v : BitVec 64)
  /-- MTIP_EXPIRY (R155): Extended device time reaches MTIMECMP and MTIP is set. -/
  | mtipExpiry (core : Fin 8)
  /-- POST_K (R164): A POST_k store queues a task word on ready queue k, or is refused or cancelled. -/
  | postK (core : Fin 8) (k : Fin 16) (word : BitVec 64)
  /-- TASK_DISPATCH (R166): The scheduler dispatches one queue head to a permitted free core, honouring affinity. -/
  | taskDispatch
  /-- AFFINITY_WINDOW_EXPIRY (R166): A held head's affinity window expires and it goes to the lowest free permitted core. -/
  | affinityWindowExpiry (k : Fin 16)
  /-- TASK_OVERRUN (R171): A task runs beyond its budget, raising TASK_OVERRUN and setting OVERRUN in its record. -/
  | taskOverrun (core : Fin 8)
  /-- HWK_WDOG (R171): A task runs for HWK_n_WDOG µs, its core is reset, its record is KILLED and HWK_WDOG is raised. -/
  | hwkWdog (core : Fin 8)
  /-- HWK_RESET (R172): A write of CTRL.RESET stops the core, discards its L1, kills its task and restarts it if enabled. -/
  | hwkReset (core : Fin 8)
  /-- HWK_STOPMAX_EXPIRY (R173): A disabled core does not reach NEXT within STOPMAX and is reset. -/
  | hwkStopmaxExpiry (core : Fin 8)
  /-- HWK_ENABLE (R173): Writing ENABLE = 1 on a quiescent core starts it at HWK_n_BOOT. -/
  | hwkEnable (core : Fin 8)
  deriving DecidableEq, Repr

end Sys2Proof
end

