-- ==== Sys2Proof/Decode.lean ====
section
/-! DEFINITION. The command a word of the command table spells. No row of spec/opcode_table.json gives a word or bits, so none
spells one. -/
namespace Sys2Proof

/-- The command that a table word spells: none, since the table gives no row bits. -/
def decodeTableWord (_nbits _w : Nat) : Option Instr := none

end Sys2Proof
end

