-- ==== Sys2Proof/Config.lean ====
section
/-! DEFINITION. What the spec leaves open and every device fixes for itself: free values, without a body. -/
namespace Sys2Proof

/-- The `n`-th value that the spec leaves open (log 2). Nothing is known of it. -/
opaque Config.freeValue : Nat → BitVec 64

/-- Which of the results within 2^-24 turn of the exact angle the part's atan2 gives for its arguments (R206): the same on
every Oldoax, and stated no further (log 18). -/
opaque Config.atan2Choice : Int → Int → Int

/-- The natural frequency of the discipline's loop for a bandwidth in 10 mHz, in 2^-32 rad/s: the spec states the bandwidth and the damping,
and not the frequency that gives that bandwidth (R48; log 16). -/
opaque Config.loopOmega : Nat → BitVec 64

/-- How far a delay that TIME calibration measures is from what the part compensates, in ns: of a domain's replica of device time, or of a
port (R35, R370, R486; log 73). -/
opaque Config.delayDrift : Nat → Int

/-- What CAL_OSC_NOW shows of a correction outside its 16 bits, for which the spec states no result (R482; log 2). -/
opaque Config.oscShown : Int → BitVec 16

/-- The UDP source port of sACN packets, which the spec does not state (R255; log 22). -/
opaque Config.sacnSourcePort : BitVec 16

/-- The source address, DSCP and TTL of Antenna's PTP messages, which the spec does not state (R53; log 32). -/
opaque Config.ptpIp : BitVec 32
opaque Config.ptpDscp : BitVec 6
opaque Config.ptpTtl : BitVec 8

/-- The body of the `n`-th MKPDU that Chrysalis sends, which the spec leaves to IEEE 802.1X (R508; log 42). -/
opaque Config.mkaBody : Nat → List (BitVec 8)

/-- The words of Chrysalis's boot ROM, and of the firmware that an image's digest names, in its SRAM; and what its SRAM holds after power-on,
by the count of starts: the spec states none of them (R495; log 177). -/
opaque Config.bootRomWord : Nat → BitVec 32
opaque Config.firmwareWord : Nat → Nat → BitVec 32
opaque Config.sramPowerOn : Nat → Nat → BitVec 32

/-- The certificate chain of IDENTITY, from the running image's digest, LIFE, SEALED, the debug level and the count of starts
(R506; log 43). -/
opaque Config.identityChain : Nat → Nat → Bool → Nat → Nat → List (BitVec 8)

/-- Bervon's fused manufacturer identity in IDCODE, which the spec does not state (R550). -/
opaque Config.jtagMaker : BitVec 11

/-- The log codes of Chrysalis's own events, which the spec does not state (R525; log 38): 0 a host entry, 1 a failed store read,
2 a supply fault, 3 an image event, 4 a change of an owner key. -/
opaque Config.chyEventCode : Nat → BitVec 16

/-- The UID under which a DMX port sends discovery messages, which the spec does not state (R276; log 25). -/
opaque Config.rdmUid : BitVec 48

end Sys2Proof
end

