-- ==== Sys2Proof/Machine/Regs.lean ====
section
/-! DEFINITION. The registers of BAR0 as the register tables of the spec give them: one name per field (R14, R29), and one
row per register with its access, reset value and the encodings the table defines (R15, R16, R17). -/
namespace Sys2Proof.Machine

/-- A field of a BAR0 register: the register's BAR0 offset, the field's lowest bit and its width. -/
structure Fld where
  off : Nat
  lsb : Nat
  width : Nat
  deriving DecidableEq, Repr

/-- The access types of R15. -/
inductive Acc where
  | ro | rw | w1c | wo | rws
  deriving DecidableEq, Repr

/-- The encodings a field defines; a write of another is ignored for that field only (R17). -/
inductive Legal where
  | any
  | range (lo hi : Nat)
  | zeroOr (lo hi : Nat)
  | mult (k : Nat)
  | codes (l : List Nat)
  deriving DecidableEq, Repr

/-- A row's field: lowest bit, width, access, reset value, defined encodings, and how many low bits read 0 (R15-R17). -/
structure FieldInfo where
  lsb : Nat
  width : Nat
  acc : Acc
  reset : Nat
  legal : Legal
  lowZero : Nat
  deriving DecidableEq, Repr

/-- A register row: base offset, array strides with their counts (outermost first), and fields. -/
structure RegRow where
  base : Nat
  dims : List (Nat × Nat)
  fields : List FieldInfo
  deriving DecidableEq, Repr

namespace Reg


-- Block GLB.
def GLB_ID_PART : Fld := ⟨0x0, 0, 16⟩
def GLB_ID_MINOR : Fld := ⟨0x0, 16, 4⟩
def GLB_ID_MAJOR : Fld := ⟨0x0, 20, 4⟩
def GLB_ID_GRADE : Fld := ⟨0x0, 24, 1⟩
def GLB_SERIAL_LO : Fld := ⟨0x4, 0, 32⟩
def GLB_SERIAL_HI : Fld := ⟨0x8, 0, 32⟩
def GLB_ERRSTAT_ACCESS_OFF : Fld := ⟨0x10, 0, 1⟩
def GLB_ERRSTAT_UNMAPPED : Fld := ⟨0x10, 1, 1⟩
def GLB_ERRSTAT_BAD_ACCESS : Fld := ⟨0x10, 2, 1⟩
def GLB_ERRSTAT_MULTI : Fld := ⟨0x10, 3, 1⟩
def GLB_ERRSTAT_BLOCK : Fld := ⟨0x10, 8, 8⟩
def GLB_ERRSTAT_INST : Fld := ⟨0x10, 16, 8⟩
def GLB_ERRADDR_OFFSET : Fld := ⟨0x14, 0, 22⟩
def GLB_ERRADDR_WRITE : Fld := ⟨0x14, 31, 1⟩
def GLB_ERRCNT : Fld := ⟨0x18, 0, 32⟩
def GLB_SCRATCH : Fld := ⟨0x1C, 0, 32⟩

-- Block HST.
def HST_CTRL : Fld := ⟨0x10000, 0, 1⟩
def HST_STAT_LINK_UP : Fld := ⟨0x10004, 0, 1⟩
def HST_STAT_SPEED : Fld := ⟨0x10004, 1, 3⟩
def HST_STAT_WIDTH : Fld := ⟨0x10004, 4, 4⟩
def HST_STAT_FLR_SEEN : Fld := ⟨0x10004, 8, 1⟩
def HST_PCIID_VENDOR : Fld := ⟨0x10008, 0, 16⟩
def HST_PCIID_DEVICE : Fld := ⟨0x10008, 16, 16⟩
def HST_DMA_RATE : Fld := ⟨0x1000C, 0, 8⟩
def HST_NDROP : Fld := ⟨0x10010, 0, 32⟩
def HST_NROUTE_RING (i : Nat) : Fld := ⟨0x10100 + 0x4 * i, 0, 6⟩
def HST_NROUTE_EN (i : Nat) : Fld := ⟨0x10100 + 0x4 * i, 7, 1⟩
def HST_RING_BASE_LO (i : Nat) : Fld := ⟨0x11000 + 0x40 * i, 0, 32⟩
def HST_RING_BASE_HI (i : Nat) : Fld := ⟨0x11004 + 0x40 * i, 0, 32⟩
def HST_RING_CBASE_LO (i : Nat) : Fld := ⟨0x11008 + 0x40 * i, 0, 32⟩
def HST_RING_CBASE_HI (i : Nat) : Fld := ⟨0x1100C + 0x40 * i, 0, 32⟩
def HST_RING_WB_LO (i : Nat) : Fld := ⟨0x11010 + 0x40 * i, 0, 32⟩
def HST_RING_WB_HI (i : Nat) : Fld := ⟨0x11014 + 0x40 * i, 0, 32⟩
def HST_RING_CFG_TYPE (i : Nat) : Fld := ⟨0x11018 + 0x40 * i, 0, 1⟩
def HST_RING_CFG_LOG2SIZE (i : Nat) : Fld := ⟨0x11018 + 0x40 * i, 4, 4⟩
def HST_RING_CFG_BLOCK (i : Nat) : Fld := ⟨0x11018 + 0x40 * i, 8, 8⟩
def HST_RING_CFG_INST (i : Nat) : Fld := ⟨0x11018 + 0x40 * i, 16, 8⟩
def HST_RING_CFG_VEC (i : Nat) : Fld := ⟨0x11018 + 0x40 * i, 24, 6⟩
def HST_RING_CFG_VEC_EN (i : Nat) : Fld := ⟨0x11018 + 0x40 * i, 30, 1⟩
def HST_RING_CTRL (i : Nat) : Fld := ⟨0x1101C + 0x40 * i, 0, 1⟩
def HST_RING_STAT_COMPLETED (i : Nat) : Fld := ⟨0x11020 + 0x40 * i, 0, 16⟩
def HST_RING_STAT_QUIESCENT (i : Nat) : Fld := ⟨0x11020 + 0x40 * i, 16, 1⟩
def HST_RING_STAT_ERROR (i : Nat) : Fld := ⟨0x11020 + 0x40 * i, 17, 1⟩
def HST_RING_TAIL (i : Nat) : Fld := ⟨0x11024 + 0x40 * i, 0, 16⟩
def HST_RING_MOD_COUNT (i : Nat) : Fld := ⟨0x11028 + 0x40 * i, 0, 8⟩
def HST_RING_MOD_TIME (i : Nat) : Fld := ⟨0x11028 + 0x40 * i, 8, 16⟩
def HST_RING_DBDROP (i : Nat) : Fld := ⟨0x1102C + 0x40 * i, 0, 32⟩
def HST_RING_NLOST (i : Nat) : Fld := ⟨0x11030 + 0x40 * i, 0, 32⟩

-- Block STO.
def STO_CTRL : Fld := ⟨0x20000, 0, 1⟩
def STO_STAT_SCRUB_QUIESCENT : Fld := ⟨0x20004, 0, 1⟩
def STO_STAT_BIST_OK : Fld := ⟨0x20004, 1, 1⟩
def STO_STAT_DIE_LOST : Fld := ⟨0x20004, 8, 8⟩
def STO_LOCKMAX : Fld := ⟨0x20010, 0, 16⟩
def STO_LOCKFAULT_ABANDONED : Fld := ⟨0x20014, 0, 1⟩
def STO_LOCKFAULT_CAUSE : Fld := ⟨0x20014, 1, 2⟩
def STO_LOCKFAULT_MULTI : Fld := ⟨0x20014, 3, 1⟩
def STO_LOCKFAULT_OWNER : Fld := ⟨0x20014, 8, 6⟩
def STO_LOCKFAULT_COUNT : Fld := ⟨0x20014, 24, 8⟩
def STO_LOCKFAULT_BASE : Fld := ⟨0x20018, 0, 29⟩
def STO_SCRUB : Fld := ⟨0x20020, 0, 16⟩
def STO_SCRUB_PASS : Fld := ⟨0x20024, 0, 32⟩
def STO_UE_FATAL : Fld := ⟨0x20028, 0, 8⟩
def STO_CE_LEVEL : Fld := ⟨0x2002C, 0, 16⟩
def STO_UEADDR : Fld := ⟨0x20030, 0, 29⟩
def STO_UEINFO_REQ : Fld := ⟨0x20034, 0, 6⟩
def STO_UEINFO_DIE : Fld := ⟨0x20034, 8, 3⟩
def STO_UEINFO_BANK : Fld := ⟨0x20034, 12, 4⟩
def STO_UEINFO_VALID : Fld := ⟨0x20034, 31, 1⟩
def STO_WINDENY : Fld := ⟨0x20038, 0, 32⟩
def STO_DIE_STAT_STATE (i : Nat) : Fld := ⟨0x21000 + 0x100 * i, 0, 2⟩
def STO_DIE_STAT_SPARES (i : Nat) : Fld := ⟨0x21000 + 0x100 * i, 8, 8⟩
def STO_DIE_CE_COUNT (i : Nat) : Fld := ⟨0x21004 + 0x100 * i, 0, 32⟩
def STO_DIE_UE_COUNT (i : Nat) : Fld := ⟨0x21008 + 0x100 * i, 0, 32⟩
def STO_DIE_SCRUB_POS (i : Nat) : Fld := ⟨0x2100C + 0x100 * i, 0, 18⟩
def STO_DIE_BUSY (i : Nat) : Fld := ⟨0x21010 + 0x100 * i, 0, 32⟩

-- Block ARB.
def ARB_PRIO (i : Nat) : Fld := ⟨0x30000 + 0x4 * i, 0, 3⟩
def ARB_STARVE : Fld := ⟨0x30100, 0, 16⟩
def ARB_STARVED0 : Fld := ⟨0x30104, 0, 32⟩
def ARB_STARVED1 : Fld := ⟨0x30108, 0, 25⟩
def ARB_ALIVE0 : Fld := ⟨0x3010C, 0, 32⟩
def ARB_ALIVE1 : Fld := ⟨0x30110, 0, 25⟩
def ARB_LOCKS : Fld := ⟨0x30114, 0, 5⟩
def ARB_DEAD : Fld := ⟨0x30118, 0, 32⟩
def ARB_DISCARD : Fld := ⟨0x3011C, 0, 32⟩
def ARB_STARVECNT : Fld := ⟨0x30120, 0, 32⟩
def ARB_REQ_STAT_AGE (i : Nat) : Fld := ⟨0x30400 + 0x10 * i, 0, 16⟩
def ARB_REQ_STAT_HINT (i : Nat) : Fld := ⟨0x30400 + 0x10 * i, 16, 8⟩
def ARB_REQ_GRANTS (i : Nat) : Fld := ⟨0x30404 + 0x10 * i, 0, 32⟩
def ARB_REQ_WAIT (i : Nat) : Fld := ⟨0x30408 + 0x10 * i, 0, 32⟩

-- Block HWK.
def HWK_CTRL_ENABLE (i : Nat) : Fld := ⟨0x40000 + 0x1000 * i, 0, 1⟩
def HWK_CTRL_RESET (i : Nat) : Fld := ⟨0x40000 + 0x1000 * i, 1, 1⟩
def HWK_STAT_STATE (i : Nat) : Fld := ⟨0x40004 + 0x1000 * i, 0, 2⟩
def HWK_STAT_QUIESCENT (i : Nat) : Fld := ⟨0x40004 + 0x1000 * i, 4, 1⟩
def HWK_STAT_FAULTED (i : Nat) : Fld := ⟨0x40004 + 0x1000 * i, 5, 1⟩
def HWK_BOOT_LO (i : Nat) : Fld := ⟨0x40008 + 0x1000 * i, 0, 32⟩
def HWK_BOOT_HI (i : Nat) : Fld := ⟨0x4000C + 0x1000 * i, 0, 32⟩
def HWK_WDOG (i : Nat) : Fld := ⟨0x40010 + 0x1000 * i, 0, 24⟩
def HWK_STOPMAX (i : Nat) : Fld := ⟨0x40014 + 0x1000 * i, 0, 16⟩
def HWK_TASK_LO (i : Nat) : Fld := ⟨0x40018 + 0x1000 * i, 0, 32⟩
def HWK_TASK_HI (i : Nat) : Fld := ⟨0x4001C + 0x1000 * i, 0, 32⟩
def HWK_MCAUSE (i : Nat) : Fld := ⟨0x40020 + 0x1000 * i, 0, 8⟩
def HWK_MTVAL_LO (i : Nat) : Fld := ⟨0x40024 + 0x1000 * i, 0, 32⟩
def HWK_MTVAL_HI (i : Nat) : Fld := ⟨0x40028 + 0x1000 * i, 0, 32⟩
def HWK_TASKS (i : Nat) : Fld := ⟨0x4002C + 0x1000 * i, 0, 32⟩
def HWK_QIRQ (i : Nat) : Fld := ⟨0x40030 + 0x1000 * i, 0, 32⟩
def HWK_FAULTS (i : Nat) : Fld := ⟨0x40034 + 0x1000 * i, 0, 32⟩
def HWK_L2_CE : Fld := ⟨0x48000, 0, 32⟩

-- Block TSK.
def TSK_CTRL_ENABLE : Fld := ⟨0x50000, 0, 1⟩
def TSK_CTRL_AFF_WIN : Fld := ⟨0x50000, 16, 16⟩
def TSK_STAT_QUIESCENT : Fld := ⟨0x50004, 0, 1⟩
def TSK_STAT_HELD : Fld := ⟨0x50004, 1, 1⟩
def TSK_CANCEL : Fld := ⟨0x50008, 0, 32⟩
def TSK_INVALID : Fld := ⟨0x5000C, 0, 32⟩
def TSK_REFUSED : Fld := ⟨0x50010, 0, 32⟩
def TSK_OVERRUN : Fld := ⟨0x50014, 0, 32⟩
def TSK_Q_CTRL (i : Nat) : Fld := ⟨0x50100 + 0x10 * i, 0, 1⟩
def TSK_Q_STAT_FILL (i : Nat) : Fld := ⟨0x50104 + 0x10 * i, 0, 11⟩
def TSK_Q_STAT_QUIESCENT (i : Nat) : Fld := ⟨0x50104 + 0x10 * i, 16, 1⟩
def TSK_Q_DISPATCHED (i : Nat) : Fld := ⟨0x50108 + 0x10 * i, 0, 32⟩
def TSK_Q_HELD (i : Nat) : Fld := ⟨0x5010C + 0x10 * i, 0, 32⟩

-- Block QUE.
def QUE_CTRL (i : Nat) : Fld := ⟨0x60000 + 0x40 * i, 0, 1⟩
def QUE_LEVEL_THRESH (i : Nat) : Fld := ⟨0x60004 + 0x40 * i, 0, 9⟩
def QUE_LEVEL_FILL (i : Nat) : Fld := ⟨0x60004 + 0x40 * i, 16, 9⟩
def QUE_CFG (i : Nat) : Fld := ⟨0x60008 + 0x40 * i, 0, 9⟩
def QUE_STAT_NOTICE (i : Nat) : Fld := ⟨0x6000C + 0x40 * i, 0, 1⟩
def QUE_STAT_XCNT (i : Nat) : Fld := ⟨0x6000C + 0x40 * i, 8, 8⟩
def QUE_STAT_READY (i : Nat) : Fld := ⟨0x6000C + 0x40 * i, 16, 1⟩
def QUE_STAT_OVERFLOW (i : Nat) : Fld := ⟨0x6000C + 0x40 * i, 17, 1⟩
def QUE_STAT_QUIESCENT (i : Nat) : Fld := ⟨0x6000C + 0x40 * i, 18, 1⟩
def QUE_POP_LO (i : Nat) : Fld := ⟨0x60010 + 0x40 * i, 0, 32⟩
def QUE_POP_HI (i : Nat) : Fld := ⟨0x60014 + 0x40 * i, 0, 32⟩
def QUE_PUSH_LO (i : Nat) : Fld := ⟨0x60018 + 0x40 * i, 0, 32⟩
def QUE_PUSH_HI (i : Nat) : Fld := ⟨0x6001C + 0x40 * i, 0, 32⟩
def QUE_OVFCNT (i : Nat) : Fld := ⟨0x60020 + 0x40 * i, 0, 32⟩
def QUE_DISCARD (i : Nat) : Fld := ⟨0x60024 + 0x40 * i, 0, 32⟩

-- Block ANT.
def ANT_NOW_LO : Fld := ⟨0x70000, 0, 32⟩
def ANT_NOW_HI : Fld := ⟨0x70004, 0, 32⟩
def ANT_CTRL_STEP_EN : Fld := ⟨0x70008, 0, 1⟩
def ANT_CTRL_REVERT : Fld := ⟨0x70008, 1, 1⟩
def ANT_CTRL_FORCE_HOLD : Fld := ⟨0x70008, 2, 1⟩
def ANT_SRCSEL_SRC0 : Fld := ⟨0x7000C, 0, 4⟩
def ANT_SRCSEL_SRC1 : Fld := ⟨0x7000C, 4, 4⟩
def ANT_SRCSEL_SRC2 : Fld := ⟨0x7000C, 8, 4⟩
def ANT_SRCSEL_SRC3 : Fld := ⟨0x7000C, 12, 4⟩
def ANT_STAT_STATE : Fld := ⟨0x70010, 0, 2⟩
def ANT_STAT_ACTIVE : Fld := ⟨0x70010, 4, 4⟩
def ANT_STAT_STEP_BLOCKED : Fld := ⟨0x70010, 8, 1⟩
def ANT_STAT_MASTER : Fld := ⟨0x70010, 9, 1⟩
def ANT_STAT_VALID : Fld := ⟨0x70010, 17, 7⟩
def ANT_STAT_RANGE : Fld := ⟨0x70010, 24, 1⟩
def ANT_RATE : Fld := ⟨0x70014, 0, 32⟩
def ANT_PHASE : Fld := ⟨0x70018, 0, 32⟩
def ANT_SLEW : Fld := ⟨0x7001C, 0, 7⟩
def ANT_STEPTHR : Fld := ⟨0x70020, 0, 32⟩
def ANT_LOCKTHR : Fld := ⟨0x70024, 0, 32⟩
def ANT_HOLDDWELL : Fld := ⟨0x70028, 0, 16⟩
def ANT_OFFSET_LO : Fld := ⟨0x7002C, 0, 32⟩
def ANT_OFFSET_HI : Fld := ⟨0x70030, 0, 32⟩
def ANT_REF_CFG_GEN_MODE : Fld := ⟨0x70040, 0, 2⟩
def ANT_REF_CFG_SDI_SEL : Fld := ⟨0x70040, 4, 2⟩
def ANT_REF_CFG_AUD_SEL : Fld := ⟨0x70040, 8, 3⟩
def ANT_REF_NUM : Fld := ⟨0x70044, 0, 32⟩
def ANT_REF_DEN : Fld := ⟨0x70048, 0, 32⟩
def ANT_PTP_CFG_PORT : Fld := ⟨0x70050, 0, 4⟩
def ANT_PTP_CFG_DOMAIN : Fld := ⟨0x70050, 8, 8⟩
def ANT_PTP_CFG_SYNC_LOG : Fld := ⟨0x70050, 16, 4⟩
def ANT_PTP_CFG_ANN_LOG : Fld := ⟨0x70050, 20, 4⟩
def ANT_PTP_CFG_ROLE : Fld := ⟨0x70050, 24, 1⟩
def ANT_PTP_CFG_TX_TWO_STEP : Fld := ⟨0x70050, 25, 1⟩
def ANT_PTP_PRIO_PRIORITY1 : Fld := ⟨0x70054, 0, 8⟩
def ANT_PTP_PRIO_PRIORITY2 : Fld := ⟨0x70054, 8, 8⟩
def ANT_PTP_PRIO_CLASS : Fld := ⟨0x70054, 16, 8⟩
def ANT_BEAT_CFG : Fld := ⟨0x70058, 0, 8⟩
def ANT_TP_CFG_MODE (i : Nat) : Fld := ⟨0x70100 + 0x20 * i, 0, 2⟩
def ANT_TP_CFG_POL (i : Nat) : Fld := ⟨0x70100 + 0x20 * i, 2, 1⟩
def ANT_TP_CFG_WIDTH (i : Nat) : Fld := ⟨0x70100 + 0x20 * i, 8, 24⟩
def ANT_TP_START (i : Nat) : Fld := ⟨0x70104 + 0x20 * i, 0, 32⟩
def ANT_TP_PERIOD (i : Nat) : Fld := ⟨0x70108 + 0x20 * i, 0, 32⟩
def ANT_TP_PFRAC (i : Nat) : Fld := ⟨0x7010C + 0x20 * i, 0, 32⟩
def ANT_TP_ARM (i : Nat) : Fld := ⟨0x70110 + 0x20 * i, 0, 2⟩
def ANT_TP_STAT_ARMED (i : Nat) : Fld := ⟨0x70114 + 0x20 * i, 0, 1⟩
def ANT_TP_STAT_LATE (i : Nat) : Fld := ⟨0x70114 + 0x20 * i, 1, 1⟩
def ANT_TP_STAT_BAD (i : Nat) : Fld := ⟨0x70114 + 0x20 * i, 2, 1⟩
def ANT_TP_STAT_COUNT (i : Nat) : Fld := ⟨0x70114 + 0x20 * i, 16, 16⟩
def ANT_CTX_CTRL_SOURCE (i : Nat) : Fld := ⟨0x71000 + 0x40 * i, 0, 3⟩
def ANT_CTX_CTRL_PARENT (i : Nat) : Fld := ⟨0x71000 + 0x40 * i, 8, 7⟩
def ANT_CTX_CTRL_VREF (i : Nat) : Fld := ⟨0x71000 + 0x40 * i, 16, 3⟩
def ANT_CTX_NUM (i : Nat) : Fld := ⟨0x71004 + 0x40 * i, 0, 32⟩
def ANT_CTX_DEN (i : Nat) : Fld := ⟨0x71008 + 0x40 * i, 0, 32⟩
def ANT_CTX_SPEED (i : Nat) : Fld := ⟨0x7100C + 0x40 * i, 0, 32⟩
def ANT_CTX_POS_LO (i : Nat) : Fld := ⟨0x71010 + 0x40 * i, 0, 32⟩
def ANT_CTX_POS_HI (i : Nat) : Fld := ⟨0x71014 + 0x40 * i, 0, 32⟩
def ANT_CTX_LOC_LO (i : Nat) : Fld := ⟨0x71018 + 0x40 * i, 0, 32⟩
def ANT_CTX_LOC_HI (i : Nat) : Fld := ⟨0x7101C + 0x40 * i, 0, 32⟩
def ANT_CTX_CMD (i : Nat) : Fld := ⟨0x71020 + 0x40 * i, 0, 3⟩
def ANT_CTX_STAT_STATE (i : Nat) : Fld := ⟨0x71024 + 0x40 * i, 0, 3⟩
def ANT_CTX_STAT_SRC_OK (i : Nat) : Fld := ⟨0x71024 + 0x40 * i, 3, 1⟩
def ANT_CTX_STAT_BADRATE (i : Nat) : Fld := ⟨0x71024 + 0x40 * i, 4, 1⟩
def ANT_CTX_STAT_BADLINK (i : Nat) : Fld := ⟨0x71024 + 0x40 * i, 5, 1⟩
def ANT_CTX_STAT_JUMPS (i : Nat) : Fld := ⟨0x71024 + 0x40 * i, 8, 8⟩
def ANT_CTX_OFS_LO (i : Nat) : Fld := ⟨0x71028 + 0x40 * i, 0, 32⟩
def ANT_CTX_OFS_HI (i : Nat) : Fld := ⟨0x7102C + 0x40 * i, 0, 32⟩
def ANT_CTX_CHASE_WIN (i : Nat) : Fld := ⟨0x71030 + 0x40 * i, 0, 16⟩
def ANT_CTX_CHASE_VARI (i : Nat) : Fld := ⟨0x71030 + 0x40 * i, 16, 8⟩
def ANT_CTX_BEAT (i : Nat) : Fld := ⟨0x71034 + 0x40 * i, 0, 7⟩
def ANT_CTX_PERIOD_LO (i : Nat) : Fld := ⟨0x71038 + 0x40 * i, 0, 32⟩
def ANT_CTX_PERIOD_HI (i : Nat) : Fld := ⟨0x7103C + 0x40 * i, 0, 32⟩

-- Block CAL.
def CAL_CTRL_ENABLE : Fld := ⟨0x80000, 0, 1⟩
def CAL_CTRL_LEAD_TASK : Fld := ⟨0x80000, 8, 4⟩
def CAL_CTRL_LEAD_COMMIT : Fld := ⟨0x80000, 12, 4⟩
def CAL_COUNT : Fld := ⟨0x80004, 0, 17⟩
def CAL_LEVEL : Fld := ⟨0x80008, 0, 17⟩
def CAL_STAT : Fld := ⟨0x8000C, 0, 1⟩
def CAL_LATE : Fld := ⟨0x80010, 0, 32⟩
def CAL_SKIP : Fld := ⟨0x80014, 0, 32⟩
def CAL_HELD : Fld := ⟨0x80018, 0, 32⟩
def CAL_SC_CTRL_STEP : Fld := ⟨0x88000, 0, 4⟩
def CAL_SC_CTRL_AUTO_OSC : Fld := ⟨0x88000, 8, 1⟩
def CAL_SC_STAT_BUSY : Fld := ⟨0x88004, 0, 1⟩
def CAL_SC_STAT_KIND : Fld := ⟨0x88004, 4, 4⟩
def CAL_SC_STAT_GRADUAL : Fld := ⟨0x88004, 8, 1⟩
def CAL_SC_REMAIN : Fld := ⟨0x88008, 0, 8⟩
def CAL_SC_RESULT : Fld := ⟨0x8800C, 0, 32⟩
def CAL_OSC_C_C0 : Fld := ⟨0x88010, 0, 16⟩
def CAL_OSC_C_C2 : Fld := ⟨0x88010, 16, 16⟩
def CAL_OSC_T_T0 : Fld := ⟨0x88014, 0, 16⟩
def CAL_OSC_T_TOFS : Fld := ⟨0x88014, 16, 16⟩
def CAL_OSC_NOW : Fld := ⟨0x88018, 0, 16⟩
def CAL_SC_RUNS : Fld := ⟨0x8801C, 0, 32⟩

-- Block GPI.
def GPI_CFG_ENABLE (i : Nat) : Fld := ⟨0x90000 + 0x40 * i, 0, 1⟩
def GPI_CFG_EDGE (i : Nat) : Fld := ⟨0x90000 + 0x40 * i, 1, 2⟩
def GPI_CFG_DEBOUNCE (i : Nat) : Fld := ⟨0x90000 + 0x40 * i, 8, 8⟩
def GPI_CFG_CTX (i : Nat) : Fld := ⟨0x90000 + 0x40 * i, 16, 7⟩
def GPI_CFG_CAPTURE (i : Nat) : Fld := ⟨0x90000 + 0x40 * i, 23, 1⟩
def GPI_TIME (i : Nat) : Fld := ⟨0x90004 + 0x40 * i, 0, 32⟩
def GPI_WRAP (i : Nat) : Fld := ⟨0x90008 + 0x40 * i, 0, 32⟩
def GPI_POS_LO (i : Nat) : Fld := ⟨0x9000C + 0x40 * i, 0, 32⟩
def GPI_POS_HI (i : Nat) : Fld := ⟨0x90010 + 0x40 * i, 0, 32⟩
def GPI_INFO_RISE (i : Nat) : Fld := ⟨0x90014 + 0x40 * i, 0, 1⟩
def GPI_INFO_FILL (i : Nat) : Fld := ⟨0x90014 + 0x40 * i, 8, 5⟩
def GPI_INFO_VALID (i : Nat) : Fld := ⟨0x90014 + 0x40 * i, 31, 1⟩
def GPI_POP (i : Nat) : Fld := ⟨0x90018 + 0x40 * i, 0, 1⟩
def GPI_OVF (i : Nat) : Fld := ⟨0x9001C + 0x40 * i, 0, 32⟩

-- Block PIX.
def PIX_CTRL : Fld := ⟨0xA0000, 0, 1⟩
def PIX_STAT_QUIESCENT : Fld := ⟨0xA0004, 0, 1⟩
def PIX_STAT_BUSY : Fld := ⟨0xA0004, 1, 1⟩
def PIX_STAT_BUF : Fld := ⟨0xA0004, 2, 1⟩
def PIX_LTAB : Fld := ⟨0xA0008, 0, 29⟩
def PIX_LTAB_NEXT_NEXT : Fld := ⟨0xA000C, 0, 29⟩
def PIX_LTAB_NEXT_PEND : Fld := ⟨0xA000C, 31, 1⟩
def PIX_FRAMES : Fld := ⟨0xA0010, 0, 32⟩
def PIX_LASTCYC : Fld := ⟨0xA0014, 0, 32⟩
def PIX_LASTSTALL : Fld := ⟨0xA0018, 0, 32⟩
def PIX_OVERRUN : Fld := ⟨0xA001C, 0, 32⟩
def PIX_SURFERR_INDEX : Fld := ⟨0xA0020, 0, 10⟩
def PIX_SURFERR_CAUSE : Fld := ⟨0xA0020, 12, 3⟩
def PIX_SURFERR_VALID : Fld := ⟨0xA0020, 31, 1⟩
def PIX_EPTERR_EINDEX : Fld := ⟨0xA0024, 0, 18⟩
def PIX_EPTERR_EVALID : Fld := ⟨0xA0024, 31, 1⟩
def PIX_TILEERR : Fld := ⟨0xA0028, 0, 32⟩
def PIX_LAYER_MISMATCH (i : Nat) : Fld := ⟨0xA0100 + 0x10 * i, 0, 32⟩
def PIX_LAYER_FALLBACK (i : Nat) : Fld := ⟨0xA0104 + 0x10 * i, 0, 32⟩
def PIX_LAYER_LAST_EXPECT (i : Nat) : Fld := ⟨0xA0108 + 0x10 * i, 0, 16⟩
def PIX_LAYER_LAST_FOUND (i : Nat) : Fld := ⟨0xA0108 + 0x10 * i, 16, 16⟩
def PIX_LAYER_STAT (i : Nat) : Fld := ⟨0xA010C + 0x10 * i, 0, 1⟩
def PIX_PP_STAT (i : Nat) : Fld := ⟨0xA1000 + 0x100 * i, 0, 1⟩
def PIX_PP_SAMPLES (i : Nat) : Fld := ⟨0xA1004 + 0x100 * i, 0, 32⟩
def PIX_PP_STALLS (i : Nat) : Fld := ⟨0xA1008 + 0x100 * i, 0, 32⟩
def PIX_PP_MISSES (i : Nat) : Fld := ⟨0xA100C + 0x100 * i, 0, 32⟩
def PIX_PP_PIXELS (i : Nat) : Fld := ⟨0xA1010 + 0x100 * i, 0, 32⟩
def PIX_SURF_W (i j : Nat) : Fld := ⟨0xB0000 + 0x20 * i + 0x4 * j, 0, 32⟩
def PIX_SURF_S7_GEN (i : Nat) : Fld := ⟨0xB001C + 0x20 * i, 0, 16⟩
def PIX_SURF_S7_VALID (i : Nat) : Fld := ⟨0xB001C + 0x20 * i, 31, 1⟩

-- Block SCL.
def SCL_CTRL_DITHER_EN : Fld := ⟨0xC0000, 0, 1⟩
def SCL_CTRL_BANDS_EN : Fld := ⟨0xC0000, 1, 1⟩
def SCL_CTRL_XFADE : Fld := ⟨0xC0000, 8, 8⟩
def SCL_FTAB : Fld := ⟨0xC0004, 0, 29⟩
def SCL_FTAB_NEXT_NEXT : Fld := ⟨0xC0008, 0, 29⟩
def SCL_FTAB_NEXT_PEND : Fld := ⟨0xC0008, 31, 1⟩
def SCL_LAMP : Fld := ⟨0xC000C, 0, 29⟩
def SCL_LAMP_NEXT_NEXT : Fld := ⟨0xC0010, 0, 29⟩
def SCL_LAMP_NEXT_PEND : Fld := ⟨0xC0010, 31, 1⟩
def SCL_IMAGO0 : Fld := ⟨0xC0014, 0, 29⟩
def SCL_IMAGO1 : Fld := ⟨0xC0018, 0, 29⟩
def SCL_BINERR : Fld := ⟨0xC0020, 0, 32⟩
def SCL_POISON : Fld := ⟨0xC0024, 0, 32⟩
def SCL_OVER : Fld := ⟨0xC0028, 0, 32⟩
def SCL_STALLS : Fld := ⟨0xC002C, 0, 32⟩
def SCL_FTERR_TYPE : Fld := ⟨0xC0030, 0, 8⟩
def SCL_FTERR_CAUSE : Fld := ⟨0xC0030, 8, 3⟩
def SCL_FTERR_VALID : Fld := ⟨0xC0030, 31, 1⟩
def SCL_FTSTAT (i : Nat) : Fld := ⟨0xC0040 + 0x4 * i, 0, 32⟩

-- Block EPT.
def EPT_BASE : Fld := ⟨0xD0000, 0, 29⟩
def EPT_COUNT : Fld := ⟨0xD0004, 0, 19⟩
def EPT_NEXT_NEXT : Fld := ⟨0xD0008, 0, 29⟩
def EPT_NEXT_PEND : Fld := ⟨0xD0008, 31, 1⟩
def EPT_COUNT_NEXT : Fld := ⟨0xD000C, 0, 19⟩
def EPT_IMAGOLEN : Fld := ⟨0xD0010, 0, 29⟩
def EPT_ERR_INDEX : Fld := ⟨0xD0014, 0, 18⟩
def EPT_ERR_CAUSE : Fld := ⟨0xD0014, 20, 3⟩
def EPT_ERR_VALID : Fld := ⟨0xD0014, 31, 1⟩
def EPT_PATHERR : Fld := ⟨0xD0018, 0, 32⟩

-- Block EMI.
def EMI_CTRL_ENABLE : Fld := ⟨0xE0000, 0, 1⟩
def EMI_CTRL_TERMINATE : Fld := ⟨0xE0000, 1, 1⟩
def EMI_CTRL_UDISC : Fld := ⟨0xE0000, 2, 1⟩
def EMI_CTRL_NEW_EN : Fld := ⟨0xE0000, 3, 1⟩
def EMI_STAT : Fld := ⟨0xE0004, 0, 1⟩
def EMI_GUARD : Fld := ⟨0xE0008, 0, 16⟩
def EMI_FRAME : Fld := ⟨0xE000C, 0, 32⟩
def EMI_PKT_BASE : Fld := ⟨0xE0010, 0, 29⟩
def EMI_PKT_LEN : Fld := ⟨0xE0014, 0, 29⟩
def EMI_NODE_BASE : Fld := ⟨0xE0018, 0, 29⟩
def EMI_ECHO : Fld := ⟨0xE001C, 0, 16⟩
def EMI_CID (i : Nat) : Fld := ⟨0xE0020 + 0x4 * i, 0, 32⟩
def EMI_APTPORT : Fld := ⟨0xE0030, 0, 16⟩
def EMI_NAME (i : Nat) : Fld := ⟨0xE0040 + 0x4 * i, 0, 32⟩
def EMI_LATCLAMP : Fld := ⟨0xE0080, 0, 32⟩
def EMI_PACKLATE : Fld := ⟨0xE0084, 0, 32⟩
def EMI_PKTDROP : Fld := ⟨0xE0088, 0, 32⟩
def EMI_SKEW : Fld := ⟨0xE008C, 0, 32⟩
def EMI_APT_RXBAD : Fld := ⟨0xE0090, 0, 32⟩
def EMI_SENT : Fld := ⟨0xE0094, 0, 32⟩
def EMI_SEG_CTRL_ENABLE (i : Nat) : Fld := ⟨0xE1000 + 0x40 * i, 0, 1⟩
def EMI_SEG_CTRL_PORT (i : Nat) : Fld := ⟨0xE1000 + 0x40 * i, 4, 4⟩
def EMI_SEG_CTRL_TAG (i : Nat) : Fld := ⟨0xE1000 + 0x40 * i, 8, 1⟩
def EMI_SEG_CTRL_DEST (i : Nat) : Fld := ⟨0xE1000 + 0x40 * i, 9, 1⟩
def EMI_SEG_CTRL_PRIO (i : Nat) : Fld := ⟨0xE1000 + 0x40 * i, 16, 8⟩
def EMI_SEG_VLAN_VID (i : Nat) : Fld := ⟨0xE1004 + 0x40 * i, 0, 12⟩
def EMI_SEG_VLAN_PCP (i : Nat) : Fld := ⟨0xE1004 + 0x40 * i, 12, 3⟩
def EMI_SEG_VLAN_DSCP (i : Nat) : Fld := ⟨0xE1004 + 0x40 * i, 16, 6⟩
def EMI_SEG_VLAN_TTL (i : Nat) : Fld := ⟨0xE1004 + 0x40 * i, 24, 8⟩
def EMI_SEG_SRC_IP (i : Nat) : Fld := ⟨0xE1008 + 0x40 * i, 0, 32⟩
def EMI_SEG_UNI_IP (i : Nat) : Fld := ⟨0xE100C + 0x40 * i, 0, 32⟩
def EMI_SEG_APT_GROUP (i : Nat) : Fld := ⟨0xE1010 + 0x40 * i, 0, 32⟩
def EMI_SEG_SUNIV (i : Nat) : Fld := ⟨0xE1014 + 0x40 * i, 0, 16⟩
def EMI_SEG_SLAT (i : Nat) : Fld := ⟨0xE1018 + 0x40 * i, 0, 26⟩
def EMI_SEG_PAYMAX (i : Nat) : Fld := ⟨0xE101C + 0x40 * i, 0, 11⟩
def EMI_SEG_POLL (i : Nat) : Fld := ⟨0xE1020 + 0x40 * i, 0, 16⟩
def EMI_SEG_UNI_MAC_LO (i : Nat) : Fld := ⟨0xE1024 + 0x40 * i, 0, 32⟩
def EMI_SEG_UNI_MAC_HI (i : Nat) : Fld := ⟨0xE1028 + 0x40 * i, 0, 16⟩
def EMI_SEG_STAT (i : Nat) : Fld := ⟨0xE102C + 0x40 * i, 0, 16⟩

-- Block OTU.
def OTU_CTRL_ENABLE : Fld := ⟨0xF0000, 0, 1⟩
def OTU_CTRL_DEMOTE_EN : Fld := ⟨0xF0000, 1, 1⟩
def OTU_CTRL_SAFE_FORCE : Fld := ⟨0xF0000, 2, 1⟩
def OTU_CTRL_SAFE_LATCH : Fld := ⟨0xF0000, 3, 1⟩
def OTU_CTRL_SAFE_CLR : Fld := ⟨0xF0000, 4, 1⟩
def OTU_STAT_RUNNING : Fld := ⟨0xF0004, 0, 1⟩
def OTU_STAT_QUIESCENT : Fld := ⟨0xF0004, 1, 1⟩
def OTU_STAT_MODE : Fld := ⟨0xF0004, 2, 2⟩
def OTU_STAT_SAFE : Fld := ⟨0xF0004, 4, 1⟩
def OTU_STAT_SAFE_REQ : Fld := ⟨0xF0004, 5, 1⟩
def OTU_STAT_TRANSITION : Fld := ⟨0xF0004, 6, 1⟩
def OTU_STAT_RANGE : Fld := ⟨0xF0004, 7, 1⟩
def OTU_STAT_MISSRUN : Fld := ⟨0xF0004, 8, 8⟩
def OTU_SEL : Fld := ⟨0xF0008, 0, 2⟩
def OTU_SWITCH_SWREC : Fld := ⟨0xF000C, 0, 2⟩
def OTU_SWITCH_GO : Fld := ⟨0xF000C, 31, 1⟩
def OTU_SAFE : Fld := ⟨0xF0010, 0, 29⟩
def OTU_SAFEFLT : Fld := ⟨0xF0014, 0, 10⟩
def OTU_APEX : Fld := ⟨0xF0018, 0, 32⟩
def OTU_APEXPOS_LO : Fld := ⟨0xF001C, 0, 32⟩
def OTU_APEXPOS_HI : Fld := ⟨0xF0020, 0, 32⟩
def OTU_PERIOD : Fld := ⟨0xF0024, 0, 32⟩
def OTU_MISSED : Fld := ⟨0xF0030, 0, 32⟩
def OTU_CLATE : Fld := ⟨0xF0034, 0, 32⟩
def OTU_CDISC : Fld := ⟨0xF0038, 0, 32⟩
def OTU_APPLIED : Fld := ⟨0xF003C, 0, 32⟩
def OTU_SWITCHES : Fld := ⟨0xF0040, 0, 32⟩
def OTU_MODE_CTX (i : Nat) : Fld := ⟨0xF0100 + 0x10 * i, 0, 7⟩
def OTU_MODE_PHASE (i : Nat) : Fld := ⟨0xF0104 + 0x10 * i, 0, 32⟩

-- Block WNG.
def WNG_CTRL_ENABLE (i : Nat) : Fld := ⟨0x100000 + 0x4000 * i, 0, 1⟩
def WNG_CTRL_END (i : Nat) : Fld := ⟨0x100000 + 0x4000 * i, 1, 1⟩
def WNG_CTRL_MIRROR_EN (i : Nat) : Fld := ⟨0x100000 + 0x4000 * i, 2, 1⟩
def WNG_CTRL_MIRROR (i : Nat) : Fld := ⟨0x100000 + 0x4000 * i, 4, 4⟩
def WNG_CTRL_DIAG_EN (i : Nat) : Fld := ⟨0x100000 + 0x4000 * i, 8, 1⟩
def WNG_CTRL_DIAG_DARK (i : Nat) : Fld := ⟨0x100000 + 0x4000 * i, 9, 1⟩
def WNG_CTRL_AUTOENUM (i : Nat) : Fld := ⟨0x100000 + 0x4000 * i, 10, 1⟩
def WNG_CTRL_ECHO_EN (i : Nat) : Fld := ⟨0x100000 + 0x4000 * i, 11, 1⟩
def WNG_CTRL_POLL_EN (i : Nat) : Fld := ⟨0x100000 + 0x4000 * i, 12, 1⟩
def WNG_STAT_QUIESCENT (i : Nat) : Fld := ⟨0x100004 + 0x4000 * i, 0, 1⟩
def WNG_STAT_RXLOCK (i : Nat) : Fld := ⟨0x100004 + 0x4000 * i, 1, 1⟩
def WNG_STAT_LOOP (i : Nat) : Fld := ⟨0x100004 + 0x4000 * i, 2, 1⟩
def WNG_STAT_NODES (i : Nat) : Fld := ⟨0x100004 + 0x4000 * i, 8, 9⟩
def WNG_STAT_CHAIN (i : Nat) : Fld := ⟨0x100004 + 0x4000 * i, 23, 9⟩
def WNG_NODEBASE (i : Nat) : Fld := ⟨0x100008 + 0x4000 * i, 0, 29⟩
def WNG_LMAX (i : Nat) : Fld := ⟨0x10000C + 0x4000 * i, 0, 18⟩
def WNG_TMO_RSPTO (i : Nat) : Fld := ⟨0x100010 + 0x4000 * i, 0, 16⟩
def WNG_TMO_ENUMPER (i : Nat) : Fld := ⟨0x100010 + 0x4000 * i, 16, 16⟩
def WNG_PER_STATPER (i : Nat) : Fld := ⟨0x100014 + 0x4000 * i, 0, 16⟩
def WNG_PER_ECHOPER (i : Nat) : Fld := ⟨0x100014 + 0x4000 * i, 16, 16⟩
def WNG_TXFRAMES (i : Nat) : Fld := ⟨0x100020 + 0x4000 * i, 0, 32⟩
def WNG_RXFRAMES (i : Nat) : Fld := ⟨0x100024 + 0x4000 * i, 0, 32⟩
def WNG_RXBAD (i : Nat) : Fld := ⟨0x100028 + 0x4000 * i, 0, 32⟩
def WNG_LATEDATA (i : Nat) : Fld := ⟨0x10002C + 0x4000 * i, 0, 32⟩
def WNG_RSPMISS (i : Nat) : Fld := ⟨0x100030 + 0x4000 * i, 0, 32⟩
def WNG_ADDRERR (i : Nat) : Fld := ⟨0x100034 + 0x4000 * i, 0, 32⟩
def WNG_LATCHES (i : Nat) : Fld := ⟨0x100038 + 0x4000 * i, 0, 32⟩
def WNG_PROF_CFG_ROWS (i j : Nat) : Fld := ⟨0x100100 + 0x4000 * i + 0x20 * j, 0, 7⟩
def WNG_PROF_CFG_SEG (i j : Nat) : Fld := ⟨0x100100 + 0x4000 * i + 0x20 * j, 8, 4⟩
def WNG_PROF_CFG_MULT (i j : Nat) : Fld := ⟨0x100100 + 0x4000 * i + 0x20 * j, 12, 4⟩
def WNG_PROF_CFG_GDIV (i j : Nat) : Fld := ⟨0x100100 + 0x4000 * i + 0x20 * j, 16, 4⟩
def WNG_PROF_CFG_VALID (i j : Nat) : Fld := ⟨0x100100 + 0x4000 * i + 0x20 * j, 31, 1⟩
def WNG_PROF_SLOT_RS (i j : Nat) : Fld := ⟨0x100104 + 0x4000 * i + 0x20 * j, 0, 16⟩
def WNG_PROF_SLOT_WMIN (i j : Nat) : Fld := ⟨0x100104 + 0x4000 * i + 0x20 * j, 16, 16⟩
def WNG_PROF_BAND_BLANK (i j k : Nat) : Fld := ⟨0x100108 + 0x4000 * i + 0x20 * j + 0x4 * k, 0, 8⟩
def WNG_PROF_BAND_PRE (i j k : Nat) : Fld := ⟨0x100108 + 0x4000 * i + 0x20 * j + 0x4 * k, 8, 10⟩
def WNG_PROF_BAND_VPRE (i j k : Nat) : Fld := ⟨0x100108 + 0x4000 * i + 0x20 * j + 0x4 * k, 18, 6⟩
def WNG_PROF_BAND_ISET (i j k : Nat) : Fld := ⟨0x100108 + 0x4000 * i + 0x20 * j + 0x4 * k, 24, 8⟩

-- Block MAC.
def MAC_CTRL_ENABLE (i : Nat) : Fld := ⟨0x140000 + 0x4000 * i, 0, 1⟩
def MAC_CTRL_PAUSE_TX (i : Nat) : Fld := ⟨0x140000 + 0x4000 * i, 1, 1⟩
def MAC_CTRL_PAUSE_RX (i : Nat) : Fld := ⟨0x140000 + 0x4000 * i, 2, 1⟩
def MAC_CTRL_STRIP (i : Nat) : Fld := ⟨0x140000 + 0x4000 * i, 3, 1⟩
def MAC_CTRL_VFILT (i : Nat) : Fld := ⟨0x140000 + 0x4000 * i, 4, 1⟩
def MAC_CTRL_UNTAG_OK (i : Nat) : Fld := ⟨0x140000 + 0x4000 * i, 5, 1⟩
def MAC_CTRL_PROMISC (i : Nat) : Fld := ⟨0x140000 + 0x4000 * i, 6, 1⟩
def MAC_CTRL_MC_ALL (i : Nat) : Fld := ⟨0x140000 + 0x4000 * i, 7, 1⟩
def MAC_CTRL_BC_EN (i : Nat) : Fld := ⟨0x140000 + 0x4000 * i, 8, 1⟩
def MAC_CTRL_PRP_EN (i : Nat) : Fld := ⟨0x140000 + 0x4000 * i, 9, 1⟩
def MAC_CTRL_RXRING (i : Nat) : Fld := ⟨0x140000 + 0x4000 * i, 16, 6⟩
def MAC_STAT_QUIESCENT (i : Nat) : Fld := ⟨0x140004 + 0x4000 * i, 0, 1⟩
def MAC_STAT_LINK (i : Nat) : Fld := ⟨0x140004 + 0x4000 * i, 1, 1⟩
def MAC_STAT_PREEMPT (i : Nat) : Fld := ⟨0x140004 + 0x4000 * i, 2, 1⟩
def MAC_STAT_AN_DONE (i : Nat) : Fld := ⟨0x140004 + 0x4000 * i, 3, 1⟩
def MAC_CFG_SPEED (i : Nat) : Fld := ⟨0x140008 + 0x4000 * i, 0, 2⟩
def MAC_CFG_FEC (i : Nat) : Fld := ⟨0x140008 + 0x4000 * i, 2, 2⟩
def MAC_CFG_AN37 (i : Nat) : Fld := ⟨0x140008 + 0x4000 * i, 4, 1⟩
def MAC_MAXFRAME (i : Nat) : Fld := ⟨0x14000C + 0x4000 * i, 0, 14⟩
def MAC_ADDR_LO (i : Nat) : Fld := ⟨0x140010 + 0x4000 * i, 0, 32⟩
def MAC_ADDR_HI (i : Nat) : Fld := ⟨0x140014 + 0x4000 * i, 0, 16⟩
def MAC_FIFO_HIGH (i : Nat) : Fld := ⟨0x140018 + 0x4000 * i, 0, 9⟩
def MAC_FIFO_LOW (i : Nat) : Fld := ⟨0x140018 + 0x4000 * i, 16, 9⟩
def MAC_PAUSE (i : Nat) : Fld := ⟨0x14001C + 0x4000 * i, 0, 16⟩
def MAC_PREEMPT_EN (i : Nat) : Fld := ⟨0x140020 + 0x4000 * i, 0, 1⟩
def MAC_PREEMPT_VERIFY_DIS (i : Nat) : Fld := ⟨0x140020 + 0x4000 * i, 1, 1⟩
def MAC_PREEMPT_ADDFRAG (i : Nat) : Fld := ⟨0x140020 + 0x4000 * i, 2, 2⟩
def MAC_PREEMPT_VERIFY_TIME (i : Nat) : Fld := ⟨0x140020 + 0x4000 * i, 8, 8⟩
def MAC_TSADJ_TX (i : Nat) : Fld := ⟨0x140024 + 0x4000 * i, 0, 16⟩
def MAC_TSADJ_RX (i : Nat) : Fld := ⟨0x140024 + 0x4000 * i, 16, 16⟩
def MAC_PRP_SUPER_EN (i : Nat) : Fld := ⟨0x140028 + 0x4000 * i, 0, 1⟩
def MAC_PRP_LIFE (i : Nat) : Fld := ⟨0x140028 + 0x4000 * i, 8, 8⟩
def MAC_PRP_FORGET (i : Nat) : Fld := ⟨0x140028 + 0x4000 * i, 16, 16⟩
def MAC_CNTCLR (i : Nat) : Fld := ⟨0x14002C + 0x4000 * i, 0, 1⟩
def MAC_FILL (i : Nat) : Fld := ⟨0x140030 + 0x4000 * i, 0, 18⟩
def MAC_MCAST_LO (i j : Nat) : Fld := ⟨0x140100 + 0x4000 * i + 0x8 * j, 0, 32⟩
def MAC_MCAST_HI_ADDR (i j : Nat) : Fld := ⟨0x140104 + 0x4000 * i + 0x8 * j, 0, 16⟩
def MAC_MCAST_HI_VALID (i j : Nat) : Fld := ⟨0x140104 + 0x4000 * i + 0x8 * j, 31, 1⟩
def MAC_VLAN_VID (i j : Nat) : Fld := ⟨0x140200 + 0x4000 * i + 0x4 * j, 0, 12⟩
def MAC_VLAN_VALID (i j : Nat) : Fld := ⟨0x140200 + 0x4000 * i + 0x4 * j, 31, 1⟩
def MAC_WAKE_WAKE_EN : Fld := ⟨0x140400, 0, 4⟩
def MAC_WAKE_WAKE_LAST : Fld := ⟨0x140400, 4, 2⟩
def MAC_CNT_LO (i j : Nat) : Fld := ⟨0x140800 + 0x4000 * i + 0x8 * j, 0, 32⟩
def MAC_CNT_HI (i j : Nat) : Fld := ⟨0x140804 + 0x4000 * i + 0x8 * j, 0, 16⟩
def MAC_WPAT (i j : Nat) : Fld := ⟨0x141000 + 0x100 * i + 0x4 * j, 0, 32⟩
def MAC_WMASK (i j : Nat) : Fld := ⟨0x141080 + 0x100 * i + 0x4 * j, 0, 32⟩

-- Block MSC.
def MSC_CTRL_TX_EN (i : Nat) : Fld := ⟨0x180000 + 0x4000 * i, 0, 1⟩
def MSC_CTRL_RX_EN (i : Nat) : Fld := ⟨0x180000 + 0x4000 * i, 1, 1⟩
def MSC_CTRL_VALIDATE (i : Nat) : Fld := ⟨0x180000 + 0x4000 * i, 2, 2⟩
def MSC_CTRL_REPLAY (i : Nat) : Fld := ⟨0x180000 + 0x4000 * i, 4, 1⟩
def MSC_CTRL_SCI_TX (i : Nat) : Fld := ⟨0x180000 + 0x4000 * i, 5, 1⟩
def MSC_STAT_QUIESCENT (i : Nat) : Fld := ⟨0x180004 + 0x4000 * i, 0, 1⟩
def MSC_STAT_TX_AN (i : Nat) : Fld := ⟨0x180004 + 0x4000 * i, 2, 2⟩
def MSC_STAT_TX_SA (i : Nat) : Fld := ⟨0x180004 + 0x4000 * i, 4, 1⟩
def MSC_STAT_RX_SCS (i : Nat) : Fld := ⟨0x180004 + 0x4000 * i, 8, 4⟩
def MSC_STAT_MKA_UP (i : Nat) : Fld := ⟨0x180004 + 0x4000 * i, 12, 1⟩
def MSC_REPLAY_WIN (i : Nat) : Fld := ⟨0x180008 + 0x4000 * i, 0, 30⟩
def MSC_PNHIGH_LO (i : Nat) : Fld := ⟨0x18000C + 0x4000 * i, 0, 32⟩
def MSC_PNHIGH_HI (i : Nat) : Fld := ⟨0x180010 + 0x4000 * i, 0, 32⟩
def MSC_NEXTPN_LO (i : Nat) : Fld := ⟨0x180014 + 0x4000 * i, 0, 32⟩
def MSC_NEXTPN_HI (i : Nat) : Fld := ⟨0x180018 + 0x4000 * i, 0, 32⟩
def MSC_SCI_LO (i : Nat) : Fld := ⟨0x18001C + 0x4000 * i, 0, 32⟩
def MSC_SCI_HI (i : Nat) : Fld := ⟨0x180020 + 0x4000 * i, 0, 32⟩
def MSC_CNT_LO (i j : Nat) : Fld := ⟨0x180100 + 0x4000 * i + 0x8 * j, 0, 32⟩
def MSC_CNT_HI (i j : Nat) : Fld := ⟨0x180104 + 0x4000 * i + 0x8 * j, 0, 16⟩

-- Block VIN.
def VIN_CTRL_ENABLE (i : Nat) : Fld := ⟨0x1A0000 + 0x100 * i, 0, 1⟩
def VIN_CTRL_LOSS (i : Nat) : Fld := ⟨0x1A0000 + 0x100 * i, 1, 1⟩
def VIN_CFG_TRANSFER (i : Nat) : Fld := ⟨0x1A0004 + 0x100 * i, 0, 3⟩
def VIN_CFG_YCCMAT (i : Nat) : Fld := ⟨0x1A0004 + 0x100 * i, 3, 1⟩
def VIN_CFG_WIDTH (i : Nat) : Fld := ⟨0x1A0004 + 0x100 * i, 4, 12⟩
def VIN_CFG_HEIGHT (i : Nat) : Fld := ⟨0x1A0004 + 0x100 * i, 16, 12⟩
def VIN_STAT_LOCK (i : Nat) : Fld := ⟨0x1A0008 + 0x100 * i, 0, 1⟩
def VIN_STAT_FMT (i : Nat) : Fld := ⟨0x1A0008 + 0x100 * i, 4, 4⟩
def VIN_STAT_FAMILY (i : Nat) : Fld := ⟨0x1A0008 + 0x100 * i, 8, 1⟩
def VIN_STAT_QUIESCENT (i : Nat) : Fld := ⟨0x1A0008 + 0x100 * i, 9, 1⟩
def VIN_STAT_NEWEST (i : Nat) : Fld := ⟨0x1A0008 + 0x100 * i, 10, 1⟩
def VIN_STAT_HAVE (i : Nat) : Fld := ⟨0x1A0008 + 0x100 * i, 11, 1⟩
def VIN_BASE0 (i : Nat) : Fld := ⟨0x1A000C + 0x100 * i, 0, 29⟩
def VIN_BASE1 (i : Nat) : Fld := ⟨0x1A0010 + 0x100 * i, 0, 29⟩
def VIN_FRAMES (i : Nat) : Fld := ⟨0x1A0014 + 0x100 * i, 0, 32⟩
def VIN_DROP (i : Nat) : Fld := ⟨0x1A0018 + 0x100 * i, 0, 32⟩
def VIN_MISS (i : Nat) : Fld := ⟨0x1A001C + 0x100 * i, 0, 32⟩
def VIN_CRCERR (i : Nat) : Fld := ⟨0x1A0020 + 0x100 * i, 0, 32⟩
def VIN_SOFTIME (i : Nat) : Fld := ⟨0x1A0024 + 0x100 * i, 0, 32⟩
def VIN_PERIOD (i : Nat) : Fld := ⟨0x1A0028 + 0x100 * i, 0, 32⟩
def VIN_RATE (i : Nat) : Fld := ⟨0x1A002C + 0x100 * i, 0, 16⟩
def VIN_FLOW_CTRL_ENABLE (i : Nat) : Fld := ⟨0x1A2000 + 0x20 * i, 0, 1⟩
def VIN_FLOW_CTRL_KIND (i : Nat) : Fld := ⟨0x1A2000 + 0x20 * i, 1, 2⟩
def VIN_FLOW_CTRL_SRCCHK (i : Nat) : Fld := ⟨0x1A2000 + 0x20 * i, 3, 1⟩
def VIN_FLOW_CTRL_PORT (i : Nat) : Fld := ⟨0x1A2000 + 0x20 * i, 4, 4⟩
def VIN_FLOW_CTRL_TARGET (i : Nat) : Fld := ⟨0x1A2000 + 0x20 * i, 8, 4⟩
def VIN_FLOW_CTRL_CHANS (i : Nat) : Fld := ⟨0x1A2000 + 0x20 * i, 12, 4⟩
def VIN_FLOW_CTRL_L24 (i : Nat) : Fld := ⟨0x1A2000 + 0x20 * i, 16, 1⟩
def VIN_FLOW_CTRL_QUIESCENT (i : Nat) : Fld := ⟨0x1A2000 + 0x20 * i, 31, 1⟩
def VIN_FLOW_DST_IP (i : Nat) : Fld := ⟨0x1A2004 + 0x20 * i, 0, 32⟩
def VIN_FLOW_DST_PORT (i : Nat) : Fld := ⟨0x1A2008 + 0x20 * i, 0, 16⟩
def VIN_FLOW_SRC_IP (i : Nat) : Fld := ⟨0x1A200C + 0x20 * i, 0, 32⟩
def VIN_FLOW_PACKETS (i : Nat) : Fld := ⟨0x1A2010 + 0x20 * i, 0, 32⟩
def VIN_FLOW_LOST (i : Nat) : Fld := ⟨0x1A2014 + 0x20 * i, 0, 32⟩
def VIN_ANC_BASE : Fld := ⟨0x1A3000, 0, 29⟩
def VIN_ANC_LOG2 : Fld := ⟨0x1A3004, 0, 5⟩
def VIN_ANC_WIDX : Fld := ⟨0x1A3008, 0, 32⟩

-- Block AUD.
def AUD_CTRL_AES_EN : Fld := ⟨0x1B0000, 0, 4⟩
def AUD_CTRL_TRK_EN : Fld := ⟨0x1B0000, 4, 1⟩
def AUD_CTRL_LTCIN_EN : Fld := ⟨0x1B0000, 5, 1⟩
def AUD_CTRL_LTCOUT_EN : Fld := ⟨0x1B0000, 6, 1⟩
def AUD_CTRL_CLKSTREAM : Fld := ⟨0x1B0000, 8, 3⟩
def AUD_STAT : Fld := ⟨0x1B0004, 0, 7⟩
def AUD_CHQ (i : Nat) : Fld := ⟨0x1B0008 + 0x4 * i, 0, 32⟩
def AUD_AES_STAT_LOCK (i : Nat) : Fld := ⟨0x1B0100 + 0x10 * i, 0, 1⟩
def AUD_AES_STAT_RATE (i : Nat) : Fld := ⟨0x1B0100 + 0x10 * i, 1, 3⟩
def AUD_AES_ERR (i : Nat) : Fld := ⟨0x1B0104 + 0x10 * i, 0, 32⟩
def AUD_TRK_SRC : Fld := ⟨0x1B0200, 0, 32⟩
def AUD_TRK_RANGE_TMIN : Fld := ⟨0x1B0204, 0, 9⟩
def AUD_TRK_RANGE_TMAX : Fld := ⟨0x1B0204, 16, 9⟩
def AUD_TRK_CFG_BEATWIN : Fld := ⟨0x1B0208, 0, 6⟩
def AUD_TRK_CFG_GATE : Fld := ⟨0x1B0208, 8, 8⟩
def AUD_TRK_CFG_COASTMAX : Fld := ⟨0x1B0208, 16, 8⟩
def AUD_TRK_CFG_TAPGPI : Fld := ⟨0x1B0208, 24, 4⟩
def AUD_TRK_CFG_TAP_EN : Fld := ⟨0x1B0208, 28, 1⟩
def AUD_TRK_TAP : Fld := ⟨0x1B020C, 0, 1⟩
def AUD_TRK_STAT_STATE : Fld := ⟨0x1B0210, 0, 2⟩
def AUD_TRK_STAT_CONF : Fld := ⟨0x1B0210, 8, 8⟩
def AUD_TRK_PERIOD : Fld := ⟨0x1B0214, 0, 32⟩
def AUD_TRK_BEATS : Fld := ⟨0x1B0218, 0, 32⟩
def AUD_TRK_BEAT_TIME : Fld := ⟨0x1B021C, 0, 32⟩
def AUD_LTCIN_RATE : Fld := ⟨0x1B0300, 0, 2⟩
def AUD_LTCIN_LOCK : Fld := ⟨0x1B0300, 8, 1⟩
def AUD_LTCIN_TC : Fld := ⟨0x1B0304, 0, 32⟩
def AUD_LTCIN_UBITS : Fld := ⟨0x1B0308, 0, 32⟩
def AUD_LTCIN_FLAGS : Fld := ⟨0x1B030C, 0, 4⟩
def AUD_LTCOUT_CTX : Fld := ⟨0x1B0310, 0, 7⟩
def AUD_LTCOUT_RATE : Fld := ⟨0x1B0310, 8, 2⟩
def AUD_LTCOUT_HOLDSEND : Fld := ⟨0x1B0310, 10, 1⟩
def AUD_LTCOUT_OFS : Fld := ⟨0x1B0314, 0, 32⟩
def AUD_CH_BASE (i : Nat) : Fld := ⟨0x1B1000 + 0x10 * i, 0, 29⟩
def AUD_CH_CFG_LOG2LEN (i : Nat) : Fld := ⟨0x1B1004 + 0x10 * i, 0, 5⟩
def AUD_CH_CFG_QUIESCENT (i : Nat) : Fld := ⟨0x1B1004 + 0x10 * i, 8, 1⟩
def AUD_CH_CFG_ENABLE (i : Nat) : Fld := ⟨0x1B1004 + 0x10 * i, 31, 1⟩
def AUD_CH_WIDX (i : Nat) : Fld := ⟨0x1B1008 + 0x10 * i, 0, 32⟩
def AUD_CH_TS (i : Nat) : Fld := ⟨0x1B100C + 0x10 * i, 0, 32⟩

-- Block DMX.
def DMX_CTRL_ENABLE (i : Nat) : Fld := ⟨0x1C0000 + 0x100 * i, 0, 1⟩
def DMX_CTRL_DISC_EN (i : Nat) : Fld := ⟨0x1C0000 + 0x100 * i, 2, 1⟩
def DMX_STAT_QUIESCENT (i : Nat) : Fld := ⟨0x1C0004 + 0x100 * i, 0, 1⟩
def DMX_STAT_UIDFULL (i : Nat) : Fld := ⟨0x1C0004 + 0x100 * i, 1, 1⟩
def DMX_STAT_SLOTS (i : Nat) : Fld := ⟨0x1C0004 + 0x100 * i, 16, 10⟩
def DMX_TIMING_BREAK (i : Nat) : Fld := ⟨0x1C0008 + 0x100 * i, 0, 10⟩
def DMX_TIMING_MAB (i : Nat) : Fld := ⟨0x1C0008 + 0x100 * i, 16, 10⟩
def DMX_FIXLAT (i : Nat) : Fld := ⟨0x1C000C + 0x100 * i, 0, 16⟩
def DMX_RDMT_RDMWIN (i : Nat) : Fld := ⟨0x1C0010 + 0x100 * i, 0, 16⟩
def DMX_RDMT_RDMWAIT (i : Nat) : Fld := ⟨0x1C0010 + 0x100 * i, 16, 16⟩
def DMX_DISC (i : Nat) : Fld := ⟨0x1C0014 + 0x100 * i, 0, 16⟩
def DMX_UIDBASE (i : Nat) : Fld := ⟨0x1C0018 + 0x100 * i, 0, 29⟩
def DMX_UIDCOUNT (i : Nat) : Fld := ⟨0x1C001C + 0x100 * i, 0, 11⟩
def DMX_SKIP (i : Nat) : Fld := ⟨0x1C0020 + 0x100 * i, 0, 32⟩
def DMX_LATEBRK (i : Nat) : Fld := ⟨0x1C0024 + 0x100 * i, 0, 32⟩
def DMX_RDMTO (i : Nat) : Fld := ⟨0x1C0028 + 0x100 * i, 0, 32⟩

-- Block ROO.
def ROO_CTRL_ENABLE : Fld := ⟨0x1D0000, 0, 1⟩
def ROO_CTRL_AUTOREJOIN : Fld := ⟨0x1D0000, 1, 1⟩
def ROO_CTRL_DEMOTE : Fld := ⟨0x1D0000, 2, 1⟩
def ROO_CTRL_REJOIN : Fld := ⟨0x1D0000, 3, 1⟩
def ROO_CFG_SIZE : Fld := ⟨0x1D0004, 0, 2⟩
def ROO_CFG_PREF : Fld := ⟨0x1D0004, 4, 4⟩
def ROO_CFG_WITNESS : Fld := ⟨0x1D0004, 8, 2⟩
def ROO_CFG_NETPORT : Fld := ⟨0x1D0004, 12, 4⟩
def ROO_CFG_NET_EN : Fld := ⟨0x1D0004, 16, 1⟩
def ROO_ID : Fld := ⟨0x1D0008, 0, 16⟩
def ROO_STAT_STATE : Fld := ⟨0x1D000C, 0, 3⟩
def ROO_STAT_RANK : Fld := ⟨0x1D000C, 4, 2⟩
def ROO_STAT_ROLES : Fld := ⟨0x1D000C, 8, 3⟩
def ROO_STAT_MUTED : Fld := ⟨0x1D000C, 11, 1⟩
def ROO_STAT_KEY : Fld := ⟨0x1D000C, 12, 1⟩
def ROO_STAT_PEERS : Fld := ⟨0x1D000C, 13, 2⟩
def ROO_STAT_QUIESCENT : Fld := ⟨0x1D000C, 15, 1⟩
def ROO_LEASE_GRANT : Fld := ⟨0x1D0010, 0, 1⟩
def ROO_LEASE_REMAIN : Fld := ⟨0x1D0010, 16, 13⟩
def ROO_GROUP : Fld := ⟨0x1D0014, 0, 32⟩
def ROO_SRCIP : Fld := ⟨0x1D0018, 0, 32⟩
def ROO_UDPPORT : Fld := ⟨0x1D001C, 0, 16⟩
def ROO_DIGMAX : Fld := ⟨0x1D0020, 0, 8⟩
def ROO_SKEWMAX : Fld := ⟨0x1D0024, 0, 32⟩
def ROO_BULKRATE : Fld := ⟨0x1D0028, 0, 16⟩
def ROO_JOINWAIT : Fld := ⟨0x1D002C, 0, 16⟩
def ROO_EPOCH : Fld := ⟨0x1D0030, 0, 32⟩
def ROO_LSN : Fld := ⟨0x1D0034, 0, 32⟩
def ROO_DEMCAUSE : Fld := ⟨0x1D0038, 0, 3⟩
def ROO_AUTHFAIL : Fld := ⟨0x1D0040, 0, 32⟩
def ROO_EPOCHLATE : Fld := ⟨0x1D0044, 0, 32⟩
def ROO_DIGMIS : Fld := ⟨0x1D0048, 0, 32⟩
def ROO_SUPPRESS : Fld := ⟨0x1D004C, 0, 32⟩
def ROO_REPLAY : Fld := ⟨0x1D0050, 0, 32⟩
def ROO_NOTACT : Fld := ⟨0x1D0054, 0, 32⟩
def ROO_REG_BASE (i : Nat) : Fld := ⟨0x1D0100 + 0x10 * i, 0, 29⟩
def ROO_REG_LEN_LEN (i : Nat) : Fld := ⟨0x1D0104 + 0x10 * i, 0, 29⟩
def ROO_REG_LEN_VALID (i : Nat) : Fld := ⟨0x1D0104 + 0x10 * i, 31, 1⟩
def ROO_PEER_SERIAL_LO (i : Nat) : Fld := ⟨0x1D1000 + 0x40 * i, 0, 32⟩
def ROO_PEER_SERIAL_HI (i : Nat) : Fld := ⟨0x1D1004 + 0x40 * i, 0, 32⟩
def ROO_PEER_STAT_STATE (i : Nat) : Fld := ⟨0x1D1008 + 0x40 * i, 0, 3⟩
def ROO_PEER_STAT_RANK (i : Nat) : Fld := ⟨0x1D1008 + 0x40 * i, 4, 2⟩
def ROO_PEER_STAT_SEEN8 (i : Nat) : Fld := ⟨0x1D1008 + 0x40 * i, 8, 1⟩
def ROO_PEER_STAT_SEEN9 (i : Nat) : Fld := ⟨0x1D1008 + 0x40 * i, 9, 1⟩
def ROO_PEER_STAT_SEENNET (i : Nat) : Fld := ⟨0x1D1008 + 0x40 * i, 10, 1⟩
def ROO_PEER_STAT_VALID (i : Nat) : Fld := ⟨0x1D1008 + 0x40 * i, 31, 1⟩
def ROO_PEER_HEALTH (i : Nat) : Fld := ⟨0x1D100C + 0x40 * i, 0, 32⟩
def ROO_PEER_THETA_LO (i : Nat) : Fld := ⟨0x1D1010 + 0x40 * i, 0, 32⟩
def ROO_PEER_THETA_HI (i : Nat) : Fld := ⟨0x1D1014 + 0x40 * i, 0, 32⟩
def ROO_PEER_SKEW (i : Nat) : Fld := ⟨0x1D1018 + 0x40 * i, 0, 32⟩
def ROO_PEER_LASTF (i : Nat) : Fld := ⟨0x1D101C + 0x40 * i, 0, 32⟩
def ROO_PEER_DIG_LO (i : Nat) : Fld := ⟨0x1D1020 + 0x40 * i, 0, 32⟩
def ROO_PEER_DIG_HI (i : Nat) : Fld := ⟨0x1D1024 + 0x40 * i, 0, 32⟩
def ROO_PEER_MISMATCH (i : Nat) : Fld := ⟨0x1D1028 + 0x40 * i, 0, 8⟩
def ROO_PEER_RX (i : Nat) : Fld := ⟨0x1D102C + 0x40 * i, 0, 32⟩
def ROO_PEER_SEEN (i : Nat) : Fld := ⟨0x1D1030 + 0x40 * i, 0, 32⟩

-- Block PWR.
def PWR_CTRL : Fld := ⟨0x1E0000, 0, 1⟩
def PWR_STAT_STATE : Fld := ⟨0x1E0004, 0, 3⟩
def PWR_STAT_TARGET : Fld := ⟨0x1E0004, 4, 2⟩
def PWR_STAT_PADLATCH : Fld := ⟨0x1E0004, 8, 1⟩
def PWR_STAT_WAKEPEND : Fld := ⟨0x1E0004, 9, 1⟩
def PWR_STAT_SAG : Fld := ⟨0x1E0004, 10, 1⟩
def PWR_STAT_KEEP_LOW : Fld := ⟨0x1E0004, 11, 1⟩
def PWR_IDLEMASK : Fld := ⟨0x1E0008, 0, 25⟩
def PWR_WAKE_EN_PIN : Fld := ⟨0x1E000C, 0, 1⟩
def PWR_WAKE_EN_RTC : Fld := ⟨0x1E000C, 1, 1⟩
def PWR_WAKE_EN_PATTERN : Fld := ⟨0x1E000C, 2, 1⟩
def PWR_WAKE_EN_GPI : Fld := ⟨0x1E000C, 3, 1⟩
def PWR_WAKE_EN_GPISEL : Fld := ⟨0x1E000C, 8, 4⟩
def PWR_ALARM : Fld := ⟨0x1E0010, 0, 32⟩
def PWR_RTC : Fld := ⟨0x1E0014, 0, 32⟩
def PWR_LASTWAKE_SRC : Fld := ⟨0x1E0018, 0, 3⟩
def PWR_LASTWAKE_FROM : Fld := ⟨0x1E0018, 4, 2⟩
def PWR_LASTWAKE_PAT : Fld := ⟨0x1E0018, 8, 2⟩
def PWR_LASTWAKE_DURING : Fld := ⟨0x1E0018, 12, 1⟩
def PWR_REFUSE_BLOCK : Fld := ⟨0x1E001C, 0, 8⟩
def PWR_REFUSE_INST : Fld := ⟨0x1E001C, 8, 8⟩
def PWR_REFUSE_PHASE : Fld := ⟨0x1E001C, 16, 1⟩
def PWR_REFUSE_COUNT : Fld := ⟨0x1E001C, 24, 8⟩
def PWR_VMON : Fld := ⟨0x1E0020, 0, 16⟩
def PWR_VMIN : Fld := ⟨0x1E0024, 0, 16⟩
def PWR_RAIL : Fld := ⟨0x1E0028, 0, 7⟩
def PWR_SAGCNT : Fld := ⟨0x1E002C, 0, 16⟩

-- Block THM.
def THM_CTRL_NODE_EN : Fld := ⟨0x1F0000, 0, 1⟩
def THM_CTRL_THSHIFT : Fld := ⟨0x1F0000, 8, 4⟩
def THM_STAT_QUIESCENT : Fld := ⟨0x1F0004, 0, 1⟩
def THM_STAT_LIMIT : Fld := ⟨0x1F0004, 1, 1⟩
def THM_STAT_FAULTS : Fld := ⟨0x1F0004, 8, 8⟩
def THM_STAT_HOTREG : Fld := ⟨0x1F0004, 16, 3⟩
def THM_STAT_BADCLS : Fld := ⟨0x1F0004, 24, 7⟩
def THM_DIE_DLIM : Fld := ⟨0x1F0008, 0, 16⟩
def THM_DIE_KD : Fld := ⟨0x1F0008, 16, 16⟩
def THM_TRIP_TRIP : Fld := ⟨0x1F000C, 0, 16⟩
def THM_TRIP_DMIN : Fld := ⟨0x1F000C, 16, 16⟩
def THM_DTH_DTH : Fld := ⟨0x1F0010, 0, 16⟩
def THM_DTH_HOT : Fld := ⟨0x1F0010, 16, 16⟩
def THM_PTAB : Fld := ⟨0x1F0014, 0, 29⟩
def THM_MTAB : Fld := ⟨0x1F0018, 0, 29⟩
def THM_AMB (i : Nat) : Fld := ⟨0x1F0020 + 0x4 * i, 0, 16⟩
def THM_TRIPCNT : Fld := ⟨0x1F0040, 0, 16⟩
def THM_PWR (i : Nat) : Fld := ⟨0x1F0080 + 0x4 * i, 0, 32⟩
def THM_SENS_TEMP_READ (i : Nat) : Fld := ⟨0x1F0100 + 0x20 * i, 0, 16⟩
def THM_SENS_TEMP_EST (i : Nat) : Fld := ⟨0x1F0100 + 0x20 * i, 16, 16⟩
def THM_SENS_MODEL (i : Nat) : Fld := ⟨0x1F0104 + 0x20 * i, 0, 16⟩
def THM_SENS_STAT_FAULT (i : Nat) : Fld := ⟨0x1F0108 + 0x20 * i, 0, 1⟩
def THM_SENS_STAT_CAUSE (i : Nat) : Fld := ⟨0x1F0108 + 0x20 * i, 1, 2⟩
def THM_SENS_STAT_CLR (i : Nat) : Fld := ⟨0x1F0108 + 0x20 * i, 8, 1⟩
def THM_SENS_STAT_PASS1S (i : Nat) : Fld := ⟨0x1F0108 + 0x20 * i, 9, 1⟩
def THM_SENS_THETA0 (i : Nat) : Fld := ⟨0x1F010C + 0x20 * i, 0, 32⟩
def THM_SENS_THETA1 (i : Nat) : Fld := ⟨0x1F0110 + 0x20 * i, 0, 16⟩

-- Block CHY.
def CHY_STAT_RUN : Fld := ⟨0x200000, 0, 1⟩
def CHY_STAT_HALTED : Fld := ⟨0x200000, 1, 1⟩
def CHY_STAT_LIFE : Fld := ⟨0x200000, 2, 2⟩
def CHY_STAT_SEALED : Fld := ⟨0x200000, 4, 1⟩
def CHY_STAT_DEBUG : Fld := ⟨0x200000, 5, 2⟩
def CHY_STAT_SLOT : Fld := ⟨0x200000, 7, 1⟩
def CHY_STAT_CAND : Fld := ⟨0x200000, 8, 3⟩
def CHY_STAT_SRC : Fld := ⟨0x200000, 12, 2⟩
def CHY_STAT_SVC : Fld := ⟨0x200000, 14, 1⟩
def CHY_INSTAR : Fld := ⟨0x200004, 0, 32⟩
def CHY_CAND : Fld := ⟨0x200008, 0, 32⟩
def CHY_FLOOR : Fld := ⟨0x20000C, 0, 7⟩
def CHY_KEYS : Fld := ⟨0x200010, 0, 10⟩
def CHY_ECLWIN : Fld := ⟨0x200014, 0, 16⟩
def CHY_CTRL : Fld := ⟨0x200018, 0, 1⟩
def CHY_RESTARTS_RESTARTS : Fld := ⟨0x20001C, 0, 16⟩
def CHY_RESTARTS_LASTCAUSE : Fld := ⟨0x20001C, 16, 4⟩
def CHY_LOGSEQ : Fld := ⟨0x200020, 0, 32⟩
def CHY_RPDROP : Fld := ⟨0x200024, 0, 32⟩
def CHY_REQS : Fld := ⟨0x200028, 0, 32⟩
def CHY_TAMPER_ACT : Fld := ⟨0x20002C, 0, 2⟩
def CHY_TAMPER_COUNT : Fld := ⟨0x20002C, 8, 8⟩
def CHY_TAMPER_LAST : Fld := ⟨0x20002C, 16, 4⟩
def CHY_SHOWDIG (i : Nat) : Fld := ⟨0x200040 + 0x4 * i, 0, 32⟩
def CHY_INSTARDIG (i : Nat) : Fld := ⟨0x200080 + 0x4 * i, 0, 32⟩

end Reg

/-- The register rows of the BAR0 page 0x00000. -/
def regRows0 : List RegRow := [
  ⟨0x0, [], [⟨0, 16, .ro, 0x7640, .any, 0⟩, ⟨16, 4, .ro, 0, .any, 0⟩, ⟨20, 4, .ro, 1, .any, 0⟩, ⟨24, 1, .ro, 0, .any, 0⟩]⟩,
  ⟨0x4, [], [⟨0, 32, .ro, 0, .any, 0⟩]⟩,
  ⟨0x8, [], [⟨0, 32, .ro, 0, .any, 0⟩]⟩,
  ⟨0x10, [], [⟨0, 1, .w1c, 0, .any, 0⟩, ⟨1, 1, .w1c, 0, .any, 0⟩, ⟨2, 1, .w1c, 0, .any, 0⟩, ⟨3, 1, .w1c, 0, .any, 0⟩, ⟨8, 8, .ro, 0, .any, 0⟩, ⟨16, 8, .ro, 0, .any, 0⟩]⟩,
  ⟨0x14, [], [⟨0, 22, .ro, 0, .any, 0⟩, ⟨31, 1, .ro, 0, .any, 0⟩]⟩,
  ⟨0x18, [], [⟨0, 32, .rw, 0, .any, 0⟩]⟩,
  ⟨0x1C, [], [⟨0, 32, .rw, 0, .any, 0⟩]⟩]

/-- The register rows of the BAR0 page 0x10000. The low bits of BASE_LO, CBASE_LO and WB_LO that are ignored read as written (log 135). -/
def regRows1 : List RegRow := [
  ⟨0x10000, [], [⟨0, 1, .rw, 0, .any, 0⟩]⟩,
  ⟨0x10004, [], [⟨0, 1, .ro, 0, .any, 0⟩, ⟨1, 3, .ro, 0, .any, 0⟩, ⟨4, 4, .ro, 0, .any, 0⟩, ⟨8, 1, .w1c, 0, .any, 0⟩]⟩,
  ⟨0x10008, [], [⟨0, 16, .ro, 0, .any, 0⟩, ⟨16, 16, .ro, 0x7640, .any, 0⟩]⟩,
  ⟨0x1000C, [], [⟨0, 8, .rw, 0x32, .any, 0⟩]⟩,
  ⟨0x10010, [], [⟨0, 32, .rw, 0, .any, 0⟩]⟩,
  ⟨0x10100, [(0x4, 25)], [⟨0, 6, .rw, 0, .any, 0⟩, ⟨7, 1, .rw, 0, .any, 0⟩]⟩,
  ⟨0x11000, [(0x40, 64)], [⟨0, 32, .rw, 0, .any, 0⟩]⟩,
  ⟨0x11004, [(0x40, 64)], [⟨0, 32, .rw, 0, .any, 0⟩]⟩,
  ⟨0x11008, [(0x40, 64)], [⟨0, 32, .rw, 0, .any, 0⟩]⟩,
  ⟨0x1100C, [(0x40, 64)], [⟨0, 32, .rw, 0, .any, 0⟩]⟩,
  ⟨0x11010, [(0x40, 64)], [⟨0, 32, .rw, 0, .any, 0⟩]⟩,
  ⟨0x11014, [(0x40, 64)], [⟨0, 32, .rw, 0, .any, 0⟩]⟩,
  ⟨0x11018, [(0x40, 64)], [⟨0, 1, .rw, 0, .any, 0⟩, ⟨4, 4, .rw, 4, .range 4 15, 0⟩, ⟨8, 8, .rw, 1, .range 0 24, 0⟩, ⟨16, 8, .rw, 0, .any, 0⟩, ⟨24, 6, .rw, 8, .range 8 63, 0⟩, ⟨30, 1, .rw, 0, .any, 0⟩]⟩,
  ⟨0x1101C, [(0x40, 64)], [⟨0, 1, .rw, 0, .any, 0⟩]⟩,
  ⟨0x11020, [(0x40, 64)], [⟨0, 16, .ro, 0, .any, 0⟩, ⟨16, 1, .ro, 1, .any, 0⟩, ⟨17, 1, .w1c, 0, .any, 0⟩]⟩,
  ⟨0x11024, [(0x40, 64)], [⟨0, 16, .ro, 0, .any, 0⟩]⟩,
  ⟨0x11028, [(0x40, 64)], [⟨0, 8, .rw, 0, .any, 0⟩, ⟨8, 16, .rw, 0, .any, 0⟩]⟩,
  ⟨0x1102C, [(0x40, 64)], [⟨0, 32, .rw, 0, .any, 0⟩]⟩,
  ⟨0x11030, [(0x40, 64)], [⟨0, 32, .rw, 0, .any, 0⟩]⟩]

/-- The register rows of the BAR0 page 0x20000. -/
def regRows2 : List RegRow := [
  ⟨0x20000, [], [⟨0, 1, .rw, 1, .any, 0⟩]⟩,
  ⟨0x20004, [], [⟨0, 1, .ro, 0, .any, 0⟩, ⟨1, 1, .ro, 1, .any, 0⟩, ⟨8, 8, .ro, 0, .any, 0⟩]⟩,
  ⟨0x20010, [], [⟨0, 16, .rw, 0x1000, .range 256 65535, 0⟩]⟩,
  ⟨0x20014, [], [⟨0, 1, .w1c, 0, .any, 0⟩, ⟨1, 2, .ro, 0, .any, 0⟩, ⟨3, 1, .w1c, 0, .any, 0⟩, ⟨8, 6, .ro, 0, .any, 0⟩, ⟨24, 8, .ro, 0, .any, 0⟩]⟩,
  ⟨0x20018, [], [⟨0, 29, .ro, 0, .any, 0⟩]⟩,
  ⟨0x20020, [], [⟨0, 16, .rw, 0x400, .range 64 65535, 0⟩]⟩,
  ⟨0x20024, [], [⟨0, 32, .ro, 0, .any, 0⟩]⟩,
  ⟨0x20028, [], [⟨0, 8, .rw, 0x10, .any, 0⟩]⟩,
  ⟨0x2002C, [], [⟨0, 16, .rw, 0x100, .any, 0⟩]⟩,
  ⟨0x20030, [], [⟨0, 29, .ro, 0, .any, 0⟩]⟩,
  ⟨0x20034, [], [⟨0, 6, .ro, 0, .any, 0⟩, ⟨8, 3, .ro, 0, .any, 0⟩, ⟨12, 4, .ro, 0, .any, 0⟩, ⟨31, 1, .w1c, 0, .any, 0⟩]⟩,
  ⟨0x20038, [], [⟨0, 32, .rw, 0, .any, 0⟩]⟩,
  ⟨0x21000, [(0x100, 8)], [⟨0, 2, .ro, 0, .any, 0⟩, ⟨8, 8, .ro, 0, .any, 0⟩]⟩,
  ⟨0x21004, [(0x100, 8)], [⟨0, 32, .rw, 0, .any, 0⟩]⟩,
  ⟨0x21008, [(0x100, 8)], [⟨0, 32, .rw, 0, .any, 0⟩]⟩,
  ⟨0x2100C, [(0x100, 8)], [⟨0, 18, .ro, 0, .any, 0⟩]⟩,
  ⟨0x21010, [(0x100, 8)], [⟨0, 32, .rw, 0, .any, 0⟩]⟩]

/-- The register rows of the BAR0 page 0x30000. -/
def regRows3 : List RegRow := [
  ⟨0x30000, [(0x4, 57)], [⟨0, 3, .rw, 6, .any, 0⟩]⟩,
  ⟨0x30100, [], [⟨0, 16, .rw, 0x4000, .any, 0⟩]⟩,
  ⟨0x30104, [], [⟨0, 32, .w1c, 0, .any, 0⟩]⟩,
  ⟨0x30108, [], [⟨0, 25, .w1c, 0, .any, 0⟩]⟩,
  ⟨0x3010C, [], [⟨0, 32, .ro, 0, .any, 0⟩]⟩,
  ⟨0x30110, [], [⟨0, 25, .ro, 0, .any, 0⟩]⟩,
  ⟨0x30114, [], [⟨0, 5, .ro, 0, .any, 0⟩]⟩,
  ⟨0x30118, [], [⟨0, 32, .rw, 0, .any, 0⟩]⟩,
  ⟨0x3011C, [], [⟨0, 32, .rw, 0, .any, 0⟩]⟩,
  ⟨0x30120, [], [⟨0, 32, .rw, 0, .any, 0⟩]⟩,
  ⟨0x30400, [(0x10, 57)], [⟨0, 16, .ro, 0, .any, 0⟩, ⟨16, 8, .ro, 0, .any, 0⟩]⟩,
  ⟨0x30404, [(0x10, 57)], [⟨0, 32, .rw, 0, .any, 0⟩]⟩,
  ⟨0x30408, [(0x10, 57)], [⟨0, 32, .rw, 0, .any, 0⟩]⟩]

/-- The register rows of the BAR0 page 0x40000. -/
def regRows4 : List RegRow := [
  ⟨0x40000, [(0x1000, 8)], [⟨0, 1, .rw, 0, .any, 0⟩, ⟨1, 1, .wo, 0, .any, 0⟩]⟩,
  ⟨0x40004, [(0x1000, 8)], [⟨0, 2, .ro, 0, .any, 0⟩, ⟨4, 1, .ro, 1, .any, 0⟩, ⟨5, 1, .w1c, 0, .any, 0⟩]⟩,
  ⟨0x40008, [(0x1000, 8)], [⟨0, 32, .rw, 0, .any, 0⟩]⟩,
  ⟨0x4000C, [(0x1000, 8)], [⟨0, 32, .rw, 0, .any, 0⟩]⟩,
  ⟨0x40010, [(0x1000, 8)], [⟨0, 24, .rw, 0, .any, 0⟩]⟩,
  ⟨0x40014, [(0x1000, 8)], [⟨0, 16, .rw, 0x3e8, .range 1 65535, 0⟩]⟩,
  ⟨0x40018, [(0x1000, 8)], [⟨0, 32, .ro, 0, .any, 0⟩]⟩,
  ⟨0x4001C, [(0x1000, 8)], [⟨0, 32, .ro, 0, .any, 0⟩]⟩,
  ⟨0x40020, [(0x1000, 8)], [⟨0, 8, .ro, 0, .any, 0⟩]⟩,
  ⟨0x40024, [(0x1000, 8)], [⟨0, 32, .ro, 0, .any, 0⟩]⟩,
  ⟨0x40028, [(0x1000, 8)], [⟨0, 32, .ro, 0, .any, 0⟩]⟩,
  ⟨0x4002C, [(0x1000, 8)], [⟨0, 32, .rw, 0, .any, 0⟩]⟩,
  ⟨0x40030, [(0x1000, 8)], [⟨0, 32, .rw, 0, .any, 0⟩]⟩,
  ⟨0x40034, [(0x1000, 8)], [⟨0, 32, .rw, 0, .any, 0⟩]⟩,
  ⟨0x48000, [], [⟨0, 32, .rw, 0, .any, 0⟩]⟩]

/-- The register rows of the BAR0 page 0x50000. -/
def regRows5 : List RegRow := [
  ⟨0x50000, [], [⟨0, 1, .rw, 0, .any, 0⟩, ⟨16, 16, .rw, 0x7d0, .any, 0⟩]⟩,
  ⟨0x50004, [], [⟨0, 1, .ro, 1, .any, 0⟩, ⟨1, 1, .ro, 0, .any, 0⟩]⟩,
  ⟨0x50008, [], [⟨0, 32, .rw, 0, .any, 0⟩]⟩,
  ⟨0x5000C, [], [⟨0, 32, .rw, 0, .any, 0⟩]⟩,
  ⟨0x50010, [], [⟨0, 32, .rw, 0, .any, 0⟩]⟩,
  ⟨0x50014, [], [⟨0, 32, .rw, 0, .any, 0⟩]⟩,
  ⟨0x50100, [(0x10, 16)], [⟨0, 1, .rw, 0, .any, 0⟩]⟩,
  ⟨0x50104, [(0x10, 16)], [⟨0, 11, .ro, 0, .any, 0⟩, ⟨16, 1, .ro, 1, .any, 0⟩]⟩,
  ⟨0x50108, [(0x10, 16)], [⟨0, 32, .rw, 0, .any, 0⟩]⟩,
  ⟨0x5010C, [(0x10, 16)], [⟨0, 32, .rw, 0, .any, 0⟩]⟩]

/-- The register rows of the BAR0 page 0x60000. -/
def regRows6 : List RegRow := [
  ⟨0x60000, [(0x40, 32)], [⟨0, 1, .rw, 0, .any, 0⟩]⟩,
  ⟨0x60004, [(0x40, 32)], [⟨0, 9, .rw, 0, .range 0 256, 0⟩, ⟨16, 9, .ro, 0, .any, 0⟩]⟩,
  ⟨0x60008, [(0x40, 32)], [⟨0, 9, .rw, 1, .range 0 256, 0⟩]⟩,
  ⟨0x6000C, [(0x40, 32)], [⟨0, 1, .w1c, 0, .any, 0⟩, ⟨8, 8, .ro, 0, .any, 0⟩, ⟨16, 1, .ro, 0, .any, 0⟩, ⟨17, 1, .w1c, 0, .any, 0⟩, ⟨18, 1, .ro, 1, .any, 0⟩]⟩,
  ⟨0x60010, [(0x40, 32)], [⟨0, 32, .ro, 0, .any, 0⟩]⟩,
  ⟨0x60014, [(0x40, 32)], [⟨0, 32, .ro, 0, .any, 0⟩]⟩,
  ⟨0x60018, [(0x40, 32)], [⟨0, 32, .wo, 0, .any, 0⟩]⟩,
  ⟨0x6001C, [(0x40, 32)], [⟨0, 32, .wo, 0, .any, 0⟩]⟩,
  ⟨0x60020, [(0x40, 32)], [⟨0, 32, .rw, 0, .any, 0⟩]⟩,
  ⟨0x60024, [(0x40, 32)], [⟨0, 32, .rw, 0, .any, 0⟩]⟩]

/-- The codes of the logSyncInterval and the logAnnounceInterval that the profile allows: -7 to -1 and -3 to 1 (R53) (log 140). -/
def syncLogs : List Nat := [9, 10, 11, 12, 13, 14, 15]
def announceLogs : List Nat := [13, 14, 15, 0, 1]

/-- The register rows of the BAR0 page 0x70000. -/
def regRows7 : List RegRow := [
  ⟨0x70000, [], [⟨0, 32, .ro, 0, .any, 0⟩]⟩,
  ⟨0x70004, [], [⟨0, 32, .ro, 0, .any, 0⟩]⟩,
  ⟨0x70008, [], [⟨0, 1, .rw, 0, .any, 0⟩, ⟨1, 1, .rw, 0, .any, 0⟩, ⟨2, 1, .rw, 0, .any, 0⟩]⟩,
  ⟨0x7000C, [], [⟨0, 4, .rw, 0, .range 0 7, 0⟩, ⟨4, 4, .rw, 0, .range 0 7, 0⟩, ⟨8, 4, .rw, 0, .range 0 7, 0⟩, ⟨12, 4, .rw, 0, .range 0 7, 0⟩]⟩,
  ⟨0x70010, [], [⟨0, 2, .ro, 0, .any, 0⟩, ⟨4, 4, .ro, 0, .any, 0⟩, ⟨8, 1, .ro, 0, .any, 0⟩, ⟨9, 1, .ro, 0, .any, 0⟩, ⟨17, 7, .ro, 0, .any, 0⟩, ⟨24, 1, .w1c, 0, .any, 0⟩]⟩,
  ⟨0x70014, [], [⟨0, 32, .ro, 0, .any, 0⟩]⟩,
  ⟨0x70018, [], [⟨0, 32, .ro, 0, .any, 0⟩]⟩,
  ⟨0x7001C, [], [⟨0, 7, .rw, 0x64, .range 1 100, 0⟩]⟩,
  ⟨0x70020, [], [⟨0, 32, .rw, 0xf4240, .any, 0⟩]⟩,
  ⟨0x70024, [], [⟨0, 32, .rw, 0x3e8, .any, 0⟩]⟩,
  ⟨0x70028, [], [⟨0, 16, .rw, 0x64, .any, 0⟩]⟩,
  ⟨0x7002C, [], [⟨0, 32, .ro, 0, .any, 0⟩]⟩,
  ⟨0x70030, [], [⟨0, 32, .ro, 0, .any, 0⟩]⟩,
  ⟨0x70040, [], [⟨0, 2, .rw, 0, .range 0 2, 0⟩, ⟨4, 2, .rw, 0, .any, 0⟩, ⟨8, 3, .rw, 0, .range 0 4, 0⟩]⟩,
  ⟨0x70044, [], [⟨0, 32, .rw, 0x3c, .any, 0⟩]⟩,
  ⟨0x70048, [], [⟨0, 32, .rw, 1, .any, 0⟩]⟩,
  ⟨0x70050, [], [⟨0, 4, .rw, 8, .range 0 11, 0⟩, ⟨8, 8, .rw, 0x7f, .range 0 127, 0⟩, ⟨16, 4, .rw, 0xd, .codes syncLogs, 0⟩, ⟨20, 4, .rw, 0xe, .codes announceLogs, 0⟩,
    ⟨24, 1, .rw, 0, .any, 0⟩, ⟨25, 1, .rw, 0, .any, 0⟩]⟩,
  ⟨0x70054, [], [⟨0, 8, .rw, 0x80, .any, 0⟩, ⟨8, 8, .rw, 0x80, .any, 0⟩, ⟨16, 8, .rw, 0xf8, .any, 0⟩]⟩,
  ⟨0x70058, [], [⟨0, 8, .rw, 0xc0, .any, 0⟩]⟩,
  ⟨0x70100, [(0x20, 8)], [⟨0, 2, .rw, 0, .range 0 2, 0⟩, ⟨2, 1, .rw, 0, .any, 0⟩, ⟨8, 24, .rw, 0x3e8, .any, 0⟩]⟩,
  ⟨0x70104, [(0x20, 8)], [⟨0, 32, .rw, 0, .any, 0⟩]⟩,
  ⟨0x70108, [(0x20, 8)], [⟨0, 32, .rw, 0, .any, 0⟩]⟩,
  ⟨0x7010C, [(0x20, 8)], [⟨0, 32, .rw, 0, .any, 0⟩]⟩,
  ⟨0x70110, [(0x20, 8)], [⟨0, 2, .wo, 0, .any, 0⟩]⟩,
  ⟨0x70114, [(0x20, 8)], [⟨0, 1, .ro, 0, .any, 0⟩, ⟨1, 1, .w1c, 0, .any, 0⟩, ⟨2, 1, .w1c, 0, .any, 0⟩, ⟨16, 16, .ro, 0, .any, 0⟩]⟩,
  ⟨0x71000, [(0x40, 128)], [⟨0, 3, .rw, 0, .range 0 5, 0⟩, ⟨8, 7, .rw, 0, .any, 0⟩, ⟨16, 3, .rw, 0, .range 0 4, 0⟩]⟩,
  ⟨0x71004, [(0x40, 128)], [⟨0, 32, .rw, 0x3c, .any, 0⟩]⟩,
  ⟨0x71008, [(0x40, 128)], [⟨0, 32, .rw, 1, .any, 0⟩]⟩,
  ⟨0x7100C, [(0x40, 128)], [⟨0, 32, .rw, 0x1000000, .any, 0⟩]⟩,
  ⟨0x71010, [(0x40, 128)], [⟨0, 32, .ro, 0, .any, 0⟩]⟩,
  ⟨0x71014, [(0x40, 128)], [⟨0, 32, .ro, 0, .any, 0⟩]⟩,
  ⟨0x71018, [(0x40, 128)], [⟨0, 32, .rw, 0, .any, 0⟩]⟩,
  ⟨0x7101C, [(0x40, 128)], [⟨0, 32, .rw, 0, .any, 0⟩]⟩,
  ⟨0x71020, [(0x40, 128)], [⟨0, 3, .wo, 0, .any, 0⟩]⟩,
  ⟨0x71024, [(0x40, 128)], [⟨0, 3, .ro, 0, .any, 0⟩, ⟨3, 1, .ro, 1, .any, 0⟩, ⟨4, 1, .w1c, 0, .any, 0⟩, ⟨5, 1, .w1c, 0, .any, 0⟩, ⟨8, 8, .ro, 0, .any, 0⟩]⟩,
  ⟨0x71028, [(0x40, 128)], [⟨0, 32, .rw, 0, .any, 0⟩]⟩,
  ⟨0x7102C, [(0x40, 128)], [⟨0, 32, .rw, 0, .any, 0⟩]⟩,
  ⟨0x71030, [(0x40, 128)], [⟨0, 16, .rw, 2, .any, 0⟩, ⟨16, 8, .rw, 0xa, .range 1 100, 0⟩]⟩,
  ⟨0x71034, [(0x40, 128)], [⟨0, 7, .rw, 0x18, .range 1 96, 0⟩]⟩,
  ⟨0x71038, [(0x40, 128)], [⟨0, 32, .ro, 0xaaaaaaab, .any, 0⟩]⟩,
  ⟨0x7103C, [(0x40, 128)], [⟨0, 32, .ro, 0xfe502a, .any, 0⟩]⟩]

/-- The register rows of the BAR0 page 0x80000. -/
def regRows8 : List RegRow := [
  ⟨0x80000, [], [⟨0, 1, .rw, 0, .any, 0⟩, ⟨8, 4, .rw, 3, .range 1 15, 0⟩, ⟨12, 4, .rw, 2, .range 1 15, 0⟩]⟩,
  ⟨0x80004, [], [⟨0, 17, .ro, 0, .any, 0⟩]⟩,
  ⟨0x80008, [], [⟨0, 17, .rw, 0xf000, .any, 0⟩]⟩,
  ⟨0x8000C, [], [⟨0, 1, .ro, 0, .any, 0⟩]⟩,
  ⟨0x80010, [], [⟨0, 32, .rw, 0, .any, 0⟩]⟩,
  ⟨0x80014, [], [⟨0, 32, .rw, 0, .any, 0⟩]⟩,
  ⟨0x80018, [], [⟨0, 32, .rw, 0, .any, 0⟩]⟩,
  ⟨0x88000, [], [⟨0, 4, .rw, 1, .range 1 15, 0⟩, ⟨8, 1, .rw, 0, .any, 0⟩]⟩,
  ⟨0x88004, [], [⟨0, 1, .ro, 0, .any, 0⟩, ⟨4, 4, .ro, 0, .any, 0⟩, ⟨8, 1, .ro, 0, .any, 0⟩]⟩,
  ⟨0x88008, [], [⟨0, 8, .ro, 0, .any, 0⟩]⟩,
  ⟨0x8800C, [], [⟨0, 32, .ro, 0, .any, 0⟩]⟩,
  ⟨0x88010, [], [⟨0, 16, .rw, 0, .any, 0⟩, ⟨16, 16, .rw, 0, .any, 0⟩]⟩,
  ⟨0x88014, [], [⟨0, 16, .rw, 0x1900, .any, 0⟩, ⟨16, 16, .rw, 0xa00, .any, 0⟩]⟩,
  ⟨0x88018, [], [⟨0, 16, .ro, 0, .any, 0⟩]⟩,
  ⟨0x8801C, [], [⟨0, 32, .rw, 0, .any, 0⟩]⟩]

/-- The register rows of the BAR0 page 0x90000. -/
def regRows9 : List RegRow := [
  ⟨0x90000, [(0x40, 16)], [⟨0, 1, .rw, 0, .any, 0⟩, ⟨1, 2, .rw, 1, .range 1 3, 0⟩, ⟨8, 8, .rw, 0x14, .any, 0⟩, ⟨16, 7, .rw, 0, .any, 0⟩, ⟨23, 1, .rw, 0, .any, 0⟩]⟩,
  ⟨0x90004, [(0x40, 16)], [⟨0, 32, .ro, 0, .any, 0⟩]⟩,
  ⟨0x90008, [(0x40, 16)], [⟨0, 32, .ro, 0, .any, 0⟩]⟩,
  ⟨0x9000C, [(0x40, 16)], [⟨0, 32, .ro, 0, .any, 0⟩]⟩,
  ⟨0x90010, [(0x40, 16)], [⟨0, 32, .ro, 0, .any, 0⟩]⟩,
  ⟨0x90014, [(0x40, 16)], [⟨0, 1, .ro, 0, .any, 0⟩, ⟨8, 5, .ro, 0, .any, 0⟩, ⟨31, 1, .ro, 0, .any, 0⟩]⟩,
  ⟨0x90018, [(0x40, 16)], [⟨0, 1, .wo, 0, .any, 0⟩]⟩,
  ⟨0x9001C, [(0x40, 16)], [⟨0, 32, .rw, 0, .any, 0⟩]⟩]

/-- The register rows of the BAR0 page 0xA0000. -/
def regRowsA : List RegRow := [
  ⟨0xA0000, [], [⟨0, 1, .rw, 0, .any, 0⟩]⟩,
  ⟨0xA0004, [], [⟨0, 1, .ro, 1, .any, 0⟩, ⟨1, 1, .ro, 0, .any, 0⟩, ⟨2, 1, .ro, 0, .any, 0⟩]⟩,
  ⟨0xA0008, [], [⟨0, 29, .ro, 0, .any, 0⟩]⟩,
  ⟨0xA000C, [], [⟨0, 29, .rw, 0, .any, 0⟩, ⟨31, 1, .ro, 0, .any, 0⟩]⟩,
  ⟨0xA0010, [], [⟨0, 32, .ro, 0, .any, 0⟩]⟩,
  ⟨0xA0014, [], [⟨0, 32, .ro, 0, .any, 0⟩]⟩,
  ⟨0xA0018, [], [⟨0, 32, .ro, 0, .any, 0⟩]⟩,
  ⟨0xA001C, [], [⟨0, 32, .rw, 0, .any, 0⟩]⟩,
  ⟨0xA0020, [], [⟨0, 10, .ro, 0, .any, 0⟩, ⟨12, 3, .ro, 0, .any, 0⟩, ⟨31, 1, .w1c, 0, .any, 0⟩]⟩,
  ⟨0xA0024, [], [⟨0, 18, .ro, 0, .any, 0⟩, ⟨31, 1, .w1c, 0, .any, 0⟩]⟩,
  ⟨0xA0028, [], [⟨0, 32, .rw, 0, .any, 0⟩]⟩,
  ⟨0xA0100, [(0x10, 16)], [⟨0, 32, .rw, 0, .any, 0⟩]⟩,
  ⟨0xA0104, [(0x10, 16)], [⟨0, 32, .rw, 0, .any, 0⟩]⟩,
  ⟨0xA0108, [(0x10, 16)], [⟨0, 16, .ro, 0, .any, 0⟩, ⟨16, 16, .ro, 0, .any, 0⟩]⟩,
  ⟨0xA010C, [(0x10, 16)], [⟨0, 1, .w1c, 0, .any, 0⟩]⟩,
  ⟨0xA1000, [(0x100, 16)], [⟨0, 1, .ro, 0, .any, 0⟩]⟩,
  ⟨0xA1004, [(0x100, 16)], [⟨0, 32, .rw, 0, .any, 0⟩]⟩,
  ⟨0xA1008, [(0x100, 16)], [⟨0, 32, .rw, 0, .any, 0⟩]⟩,
  ⟨0xA100C, [(0x100, 16)], [⟨0, 32, .rw, 0, .any, 0⟩]⟩,
  ⟨0xA1010, [(0x100, 16)], [⟨0, 32, .rw, 0, .any, 0⟩]⟩]

/-- The register rows of the BAR0 page 0xB0000. -/
def regRowsB : List RegRow := [
  ⟨0xB0000, [(0x20, 1024), (0x4, 7)], [⟨0, 32, .rw, 0, .any, 0⟩]⟩,
  ⟨0xB001C, [(0x20, 1024)], [⟨0, 16, .rw, 0, .any, 0⟩, ⟨31, 1, .rw, 0, .any, 0⟩]⟩]

/-- The register rows of the BAR0 page 0xC0000. -/
def regRowsC : List RegRow := [
  ⟨0xC0000, [], [⟨0, 1, .rw, 1, .any, 0⟩, ⟨1, 1, .rw, 1, .any, 0⟩, ⟨8, 8, .rw, 0x1e, .range 1 255, 0⟩]⟩,
  ⟨0xC0004, [], [⟨0, 29, .ro, 0, .any, 0⟩]⟩,
  ⟨0xC0008, [], [⟨0, 29, .rw, 0, .any, 0⟩, ⟨31, 1, .ro, 0, .any, 0⟩]⟩,
  ⟨0xC000C, [], [⟨0, 29, .ro, 0, .any, 0⟩]⟩,
  ⟨0xC0010, [], [⟨0, 29, .rw, 0, .any, 0⟩, ⟨31, 1, .ro, 0, .any, 0⟩]⟩,
  ⟨0xC0014, [], [⟨0, 29, .rw, 0, .any, 8⟩]⟩,
  ⟨0xC0018, [], [⟨0, 29, .rw, 0, .any, 8⟩]⟩,
  ⟨0xC0020, [], [⟨0, 32, .rw, 0, .any, 0⟩]⟩,
  ⟨0xC0024, [], [⟨0, 32, .rw, 0, .any, 0⟩]⟩,
  ⟨0xC0028, [], [⟨0, 32, .ro, 0, .any, 0⟩]⟩,
  ⟨0xC002C, [], [⟨0, 32, .rw, 0, .any, 0⟩]⟩,
  ⟨0xC0030, [], [⟨0, 8, .ro, 0, .any, 0⟩, ⟨8, 3, .ro, 0, .any, 0⟩, ⟨31, 1, .w1c, 0, .any, 0⟩]⟩,
  ⟨0xC0040, [(0x4, 8)], [⟨0, 32, .ro, 0, .any, 0⟩]⟩]

/-- The register rows of the BAR0 page 0xD0000. -/
def regRowsD : List RegRow := [
  ⟨0xD0000, [], [⟨0, 29, .ro, 0, .any, 0⟩]⟩,
  ⟨0xD0004, [], [⟨0, 19, .ro, 0, .any, 0⟩]⟩,
  ⟨0xD0008, [], [⟨0, 29, .rw, 0, .any, 0⟩, ⟨31, 1, .ro, 0, .any, 0⟩]⟩,
  ⟨0xD000C, [], [⟨0, 19, .rw, 0, .range 0 262144, 0⟩]⟩,
  ⟨0xD0010, [], [⟨0, 29, .rw, 0, .any, 0⟩]⟩,
  ⟨0xD0014, [], [⟨0, 18, .ro, 0, .any, 0⟩, ⟨20, 3, .ro, 0, .any, 0⟩, ⟨31, 1, .w1c, 0, .any, 0⟩]⟩,
  ⟨0xD0018, [], [⟨0, 32, .rw, 0, .any, 0⟩]⟩]

/-- The register rows of the BAR0 page 0xE0000. -/
def regRowsE : List RegRow := [
  ⟨0xE0000, [], [⟨0, 1, .rw, 0, .any, 0⟩, ⟨1, 1, .rw, 0, .any, 0⟩, ⟨2, 1, .rw, 0, .any, 0⟩, ⟨3, 1, .rw, 0, .any, 0⟩]⟩,
  ⟨0xE0004, [], [⟨0, 1, .ro, 1, .any, 0⟩]⟩,
  ⟨0xE0008, [], [⟨0, 16, .rw, 0x32, .range 50 5000, 0⟩]⟩,
  ⟨0xE000C, [], [⟨0, 32, .ro, 0, .any, 0⟩]⟩,
  ⟨0xE0010, [], [⟨0, 29, .rw, 0, .any, 8⟩]⟩,
  ⟨0xE0014, [], [⟨0, 29, .rw, 0, .mult 256, 0⟩]⟩,
  ⟨0xE0018, [], [⟨0, 29, .rw, 0, .any, 8⟩]⟩,
  ⟨0xE001C, [], [⟨0, 16, .rw, 0x3e8, .range 10 65535, 0⟩]⟩,
  ⟨0xE0020, [(0x4, 4)], [⟨0, 32, .rw, 0, .any, 0⟩]⟩,
  ⟨0xE0030, [], [⟨0, 16, .rw, 0x9240, .any, 0⟩]⟩,
  ⟨0xE0040, [(0x4, 16)], [⟨0, 32, .rw, 0, .any, 0⟩]⟩,
  ⟨0xE0080, [], [⟨0, 32, .rw, 0, .any, 0⟩]⟩,
  ⟨0xE0084, [], [⟨0, 32, .rw, 0, .any, 0⟩]⟩,
  ⟨0xE0088, [], [⟨0, 32, .rw, 0, .any, 0⟩]⟩,
  ⟨0xE008C, [], [⟨0, 32, .ro, 0, .any, 0⟩]⟩,
  ⟨0xE0090, [], [⟨0, 32, .rw, 0, .any, 0⟩]⟩,
  ⟨0xE0094, [], [⟨0, 32, .ro, 0, .any, 0⟩]⟩,
  ⟨0xE1000, [(0x40, 64)], [⟨0, 1, .rw, 0, .any, 0⟩, ⟨4, 4, .rw, 0, .range 0 11, 0⟩, ⟨8, 1, .rw, 0, .any, 0⟩, ⟨9, 1, .rw, 0, .any, 0⟩, ⟨16, 8, .rw, 0x64, .range 0 200, 0⟩]⟩,
  ⟨0xE1004, [(0x40, 64)], [⟨0, 12, .rw, 0, .any, 0⟩, ⟨12, 3, .rw, 0, .any, 0⟩, ⟨16, 6, .rw, 0, .any, 0⟩, ⟨24, 8, .rw, 0x40, .any, 0⟩]⟩,
  ⟨0xE1008, [(0x40, 64)], [⟨0, 32, .rw, 0, .any, 0⟩]⟩,
  ⟨0xE100C, [(0x40, 64)], [⟨0, 32, .rw, 0, .any, 0⟩]⟩,
  ⟨0xE1010, [(0x40, 64)], [⟨0, 32, .rw, 0, .any, 0⟩]⟩,
  ⟨0xE1014, [(0x40, 64)], [⟨0, 16, .rw, 0, .any, 0⟩]⟩,
  ⟨0xE1018, [(0x40, 64)], [⟨0, 26, .rw, 0, .any, 0⟩]⟩,
  ⟨0xE101C, [(0x40, 64)], [⟨0, 11, .rw, 0xb4, .range 8 1142, 0⟩]⟩,
  ⟨0xE1020, [(0x40, 64)], [⟨0, 16, .rw, 0x3e8, .zeroOr 100 65535, 0⟩]⟩,
  ⟨0xE1024, [(0x40, 64)], [⟨0, 32, .rw, 0, .any, 0⟩]⟩,
  ⟨0xE1028, [(0x40, 64)], [⟨0, 16, .rw, 0, .any, 0⟩]⟩,
  ⟨0xE102C, [(0x40, 64)], [⟨0, 16, .ro, 0, .any, 0⟩]⟩]

/-- The register rows of the BAR0 page 0xF0000. -/
def regRowsF : List RegRow := [
  ⟨0xF0000, [], [⟨0, 1, .rw, 0, .any, 0⟩, ⟨1, 1, .rw, 1, .any, 0⟩, ⟨2, 1, .rw, 0, .any, 0⟩, ⟨3, 1, .rw, 0, .any, 0⟩, ⟨4, 1, .wo, 0, .any, 0⟩]⟩,
  ⟨0xF0004, [], [⟨0, 1, .ro, 0, .any, 0⟩, ⟨1, 1, .ro, 1, .any, 0⟩, ⟨2, 2, .ro, 0, .any, 0⟩, ⟨4, 1, .ro, 0, .any, 0⟩, ⟨5, 1, .ro, 0, .any, 0⟩, ⟨6, 1, .ro, 0, .any, 0⟩, ⟨7, 1, .w1c, 0, .any, 0⟩, ⟨8, 8, .ro, 0, .any, 0⟩]⟩,
  ⟨0xF0008, [], [⟨0, 2, .rw, 0, .any, 0⟩]⟩,
  ⟨0xF000C, [], [⟨0, 2, .wo, 0, .any, 0⟩, ⟨31, 1, .wo, 0, .any, 0⟩]⟩,
  ⟨0xF0010, [], [⟨0, 29, .rw, 0, .any, 8⟩]⟩,
  ⟨0xF0014, [], [⟨0, 10, .rw, 0xa, .range 1 1000, 0⟩]⟩,
  ⟨0xF0018, [], [⟨0, 32, .ro, 0, .any, 0⟩]⟩,
  ⟨0xF001C, [], [⟨0, 32, .ro, 0, .any, 0⟩]⟩,
  ⟨0xF0020, [], [⟨0, 32, .ro, 0, .any, 0⟩]⟩,
  ⟨0xF0024, [], [⟨0, 32, .ro, 0, .any, 0⟩]⟩,
  ⟨0xF0030, [], [⟨0, 32, .rw, 0, .any, 0⟩]⟩,
  ⟨0xF0034, [], [⟨0, 32, .rw, 0, .any, 0⟩]⟩,
  ⟨0xF0038, [], [⟨0, 32, .rw, 0, .any, 0⟩]⟩,
  ⟨0xF003C, [], [⟨0, 32, .rw, 0, .any, 0⟩]⟩,
  ⟨0xF0040, [], [⟨0, 32, .rw, 0, .any, 0⟩]⟩,
  ⟨0xF0100, [(0x10, 4)], [⟨0, 7, .rw, 0, .any, 0⟩]⟩,
  ⟨0xF0104, [(0x10, 4)], [⟨0, 32, .rw, 0, .any, 0⟩]⟩]

/-- The register rows of the BAR0 page 0x100000. -/
def regRows10 : List RegRow := [
  ⟨0x100000, [(0x4000, 16)], [⟨0, 1, .rw, 0, .any, 0⟩, ⟨1, 1, .rw, 0, .any, 0⟩, ⟨2, 1, .rw, 0, .any, 0⟩, ⟨4, 4, .rw, 0, .any, 0⟩, ⟨8, 1, .rw, 1, .any, 0⟩, ⟨9, 1, .rw, 1, .any, 0⟩, ⟨10, 1, .rw, 1, .any, 0⟩, ⟨11, 1, .rw, 1, .any, 0⟩, ⟨12, 1, .rw, 1, .any, 0⟩]⟩,
  ⟨0x100004, [(0x4000, 16)], [⟨0, 1, .ro, 1, .any, 0⟩, ⟨1, 1, .ro, 0, .any, 0⟩, ⟨2, 1, .ro, 0, .any, 0⟩, ⟨8, 9, .ro, 0, .any, 0⟩, ⟨23, 9, .ro, 0, .any, 0⟩]⟩,
  ⟨0x100008, [(0x4000, 16)], [⟨0, 29, .rw, 0, .any, 8⟩]⟩,
  ⟨0x10000C, [(0x4000, 16)], [⟨0, 18, .ro, 0, .any, 0⟩]⟩,
  ⟨0x100010, [(0x4000, 16)], [⟨0, 16, .rw, 0x64, .range 10 65535, 0⟩, ⟨16, 16, .rw, 0xfa, .range 10 65535, 0⟩]⟩,
  ⟨0x100014, [(0x4000, 16)], [⟨0, 16, .rw, 0x64, .range 10 65535, 0⟩, ⟨16, 16, .rw, 0x3e8, .range 10 65535, 0⟩]⟩,
  ⟨0x100020, [(0x4000, 16)], [⟨0, 32, .ro, 0, .any, 0⟩]⟩,
  ⟨0x100024, [(0x4000, 16)], [⟨0, 32, .ro, 0, .any, 0⟩]⟩,
  ⟨0x100028, [(0x4000, 16)], [⟨0, 32, .rw, 0, .any, 0⟩]⟩,
  ⟨0x10002C, [(0x4000, 16)], [⟨0, 32, .rw, 0, .any, 0⟩]⟩,
  ⟨0x100030, [(0x4000, 16)], [⟨0, 32, .rw, 0, .any, 0⟩]⟩,
  ⟨0x100034, [(0x4000, 16)], [⟨0, 32, .rw, 0, .any, 0⟩]⟩,
  ⟨0x100038, [(0x4000, 16)], [⟨0, 32, .ro, 0, .any, 0⟩]⟩,
  ⟨0x100100, [(0x4000, 16), (0x20, 8)], [⟨0, 7, .rw, 1, .any, 0⟩, ⟨8, 4, .rw, 0, .any, 0⟩, ⟨12, 4, .rw, 0, .any, 0⟩, ⟨16, 4, .rw, 0, .any, 0⟩, ⟨31, 1, .ro, 0, .any, 0⟩]⟩,
  ⟨0x100104, [(0x4000, 16), (0x20, 8)], [⟨0, 16, .ro, 0, .any, 0⟩, ⟨16, 16, .ro, 0, .any, 0⟩]⟩,
  ⟨0x100108, [(0x4000, 16), (0x20, 8), (0x4, 4)], [⟨0, 8, .rw, 0x20, .any, 0⟩, ⟨8, 10, .rw, 0xa0, .any, 0⟩, ⟨18, 6, .rw, 0, .any, 0⟩, ⟨24, 8, .rw, 0x80, .any, 0⟩]⟩]

/-- The register rows of the BAR0 page 0x140000. -/
def regRows14 : List RegRow := [
  ⟨0x140000, [(0x8000, 4)], [⟨0, 1, .rw, 0, .any, 0⟩, ⟨1, 1, .rw, 0, .any, 0⟩, ⟨2, 1, .rw, 0, .any, 0⟩, ⟨3, 1, .rw, 0, .any, 0⟩, ⟨4, 1, .rw, 0, .any, 0⟩, ⟨5, 1, .rw, 1, .any, 0⟩, ⟨6, 1, .rw, 0, .any, 0⟩, ⟨7, 1, .rw, 0, .any, 0⟩, ⟨8, 1, .rw, 1, .any, 0⟩, ⟨9, 1, .rw, 0, .any, 0⟩, ⟨16, 6, .rw, 0, .any, 0⟩]⟩,
  ⟨0x144000, [(0x8000, 4)], [⟨0, 1, .rw, 0, .any, 0⟩, ⟨1, 1, .rw, 0, .any, 0⟩, ⟨2, 1, .rw, 0, .any, 0⟩, ⟨3, 1, .rw, 0, .any, 0⟩, ⟨4, 1, .rw, 0, .any, 0⟩, ⟨5, 1, .rw, 1, .any, 0⟩, ⟨6, 1, .rw, 0, .any, 0⟩, ⟨7, 1, .rw, 0, .any, 0⟩, ⟨8, 1, .rw, 1, .any, 0⟩, ⟨16, 6, .rw, 0, .any, 0⟩]⟩,
  ⟨0x160000, [(0x4000, 2)], [⟨0, 1, .rw, 0, .any, 0⟩, ⟨3, 1, .rw, 0, .any, 0⟩, ⟨4, 1, .rw, 0, .any, 0⟩, ⟨5, 1, .rw, 1, .any, 0⟩, ⟨6, 1, .rw, 0, .any, 0⟩, ⟨7, 1, .rw, 0, .any, 0⟩, ⟨8, 1, .rw, 1, .any, 0⟩, ⟨16, 6, .rw, 0, .any, 0⟩]⟩,
  ⟨0x140004, [(0x4000, 10)], [⟨0, 1, .ro, 1, .any, 0⟩, ⟨1, 1, .ro, 0, .any, 0⟩, ⟨2, 1, .ro, 0, .any, 0⟩, ⟨3, 1, .ro, 0, .any, 0⟩]⟩,
  ⟨0x140008, [(0x4000, 10)], [⟨0, 2, .rw, 0, .range 0 2, 0⟩, ⟨2, 2, .rw, 0, .range 0 2, 0⟩, ⟨4, 1, .rw, 1, .any, 0⟩]⟩,
  ⟨0x14000C, [(0x4000, 10)], [⟨0, 14, .rw, 0x5ee, .range 1518 9216, 0⟩]⟩,
  ⟨0x140010, [(0x4000, 10)], [⟨0, 32, .rw, 0, .any, 0⟩]⟩,
  ⟨0x140014, [(0x4000, 10)], [⟨0, 16, .rw, 0, .any, 0⟩]⟩,
  ⟨0x140018, [(0x4000, 10)], [⟨0, 9, .rw, 0xc0, .range 1 256, 0⟩, ⟨16, 9, .rw, 0x40, .range 0 255, 0⟩]⟩,
  ⟨0x14001C, [(0x4000, 10)], [⟨0, 16, .rw, 0xffff, .any, 0⟩]⟩,
  ⟨0x140020, [(0x4000, 10)], [⟨0, 1, .rw, 0, .any, 0⟩, ⟨1, 1, .rw, 0, .any, 0⟩, ⟨2, 2, .rw, 0, .any, 0⟩, ⟨8, 8, .rw, 0xa, .range 1 128, 0⟩]⟩,
  ⟨0x140024, [(0x4000, 10)], [⟨0, 16, .rw, 0, .any, 0⟩, ⟨16, 16, .rw, 0, .any, 0⟩]⟩,
  ⟨0x140028, [(0x8000, 4)], [⟨0, 1, .rw, 1, .any, 0⟩, ⟨8, 8, .rw, 2, .range 1 255, 0⟩, ⟨16, 16, .rw, 0x190, .range 1 65535, 0⟩]⟩,
  ⟨0x144028, [(0x8000, 4)], [⟨8, 8, .rw, 2, .range 1 255, 0⟩, ⟨16, 16, .rw, 0x190, .range 1 65535, 0⟩]⟩,
  ⟨0x160028, [(0x4000, 2)], [⟨8, 8, .rw, 2, .range 1 255, 0⟩, ⟨16, 16, .rw, 0x190, .range 1 65535, 0⟩]⟩,
  ⟨0x14002C, [(0x4000, 10)], [⟨0, 1, .wo, 0, .any, 0⟩]⟩,
  ⟨0x140030, [(0x4000, 10)], [⟨0, 18, .ro, 0, .any, 0⟩]⟩,
  ⟨0x140100, [(0x4000, 10), (0x8, 16)], [⟨0, 32, .rw, 0, .any, 0⟩]⟩,
  ⟨0x140104, [(0x4000, 10), (0x8, 16)], [⟨0, 16, .rw, 0, .any, 0⟩, ⟨31, 1, .rw, 0, .any, 0⟩]⟩,
  ⟨0x140200, [(0x4000, 10), (0x4, 64)], [⟨0, 12, .rw, 0, .any, 0⟩, ⟨31, 1, .rw, 0, .any, 0⟩]⟩,
  ⟨0x140400, [], [⟨0, 4, .rw, 0, .any, 0⟩, ⟨4, 2, .ro, 0, .any, 0⟩]⟩,
  ⟨0x140800, [(0x4000, 10), (0x8, 42)], [⟨0, 32, .ro, 0, .any, 0⟩]⟩,
  ⟨0x140804, [(0x4000, 10), (0x8, 42)], [⟨0, 16, .ro, 0, .any, 0⟩]⟩,
  ⟨0x141000, [(0x100, 4), (0x4, 32)], [⟨0, 32, .rw, 0, .any, 0⟩]⟩,
  ⟨0x141080, [(0x100, 4), (0x4, 4)], [⟨0, 32, .rw, 0, .any, 0⟩]⟩]

/-- The register rows of the BAR0 page 0x180000. -/
def regRows18 : List RegRow := [
  ⟨0x180000, [(0x4000, 8)], [⟨0, 1, .rw, 0, .any, 0⟩, ⟨1, 1, .rw, 0, .any, 0⟩, ⟨2, 2, .rw, 2, .range 0 2, 0⟩, ⟨4, 1, .rw, 1, .any, 0⟩, ⟨5, 1, .rw, 1, .any, 0⟩]⟩,
  ⟨0x180004, [(0x4000, 8)], [⟨0, 1, .ro, 1, .any, 0⟩, ⟨2, 2, .ro, 0, .any, 0⟩, ⟨4, 1, .ro, 0, .any, 0⟩, ⟨8, 4, .ro, 0, .any, 0⟩, ⟨12, 1, .ro, 0, .any, 0⟩]⟩,
  ⟨0x180008, [(0x4000, 8)], [⟨0, 30, .rw, 0, .any, 0⟩]⟩,
  ⟨0x18000C, [(0x4000, 8)], [⟨0, 32, .rw, 0xc0000000, .any, 0⟩]⟩,
  ⟨0x180010, [(0x4000, 8)], [⟨0, 32, .rw, 0xffffffff, .any, 0⟩]⟩,
  ⟨0x180014, [(0x4000, 8)], [⟨0, 32, .ro, 0, .any, 0⟩]⟩,
  ⟨0x180018, [(0x4000, 8)], [⟨0, 32, .ro, 0, .any, 0⟩]⟩,
  ⟨0x18001C, [(0x4000, 8)], [⟨0, 32, .ro, 0, .any, 0⟩]⟩,
  ⟨0x180020, [(0x4000, 8)], [⟨0, 32, .ro, 0, .any, 0⟩]⟩,
  ⟨0x180100, [(0x4000, 8), (0x8, 10)], [⟨0, 32, .ro, 0, .any, 0⟩]⟩,
  ⟨0x180104, [(0x4000, 8), (0x8, 10)], [⟨0, 16, .ro, 0, .any, 0⟩]⟩]

/-- The register rows of the BAR0 page 0x1A0000. -/
def regRows1A : List RegRow := [
  ⟨0x1A0000, [(0x100, 4)], [⟨0, 1, .rw, 0, .any, 0⟩, ⟨1, 1, .rw, 0, .any, 0⟩]⟩,
  ⟨0x1A0400, [(0x100, 12)], [⟨1, 1, .rw, 0, .any, 0⟩]⟩,
  ⟨0x1A0004, [(0x100, 4)], [⟨0, 3, .rw, 2, .range 0 3, 0⟩, ⟨3, 1, .rw, 0, .any, 0⟩]⟩,
  ⟨0x1A0404, [(0x100, 12)], [⟨0, 3, .rw, 2, .range 0 3, 0⟩, ⟨3, 1, .rw, 0, .any, 0⟩, ⟨4, 12, .rw, 0, .range 1 3840, 0⟩, ⟨16, 12, .rw, 0, .range 1 2160, 0⟩]⟩,
  ⟨0x1A0008, [(0x100, 4)], [⟨0, 1, .ro, 0, .any, 0⟩, ⟨4, 4, .ro, 0, .any, 0⟩, ⟨8, 1, .ro, 0, .any, 0⟩, ⟨9, 1, .ro, 1, .any, 0⟩, ⟨10, 1, .ro, 0, .any, 0⟩, ⟨11, 1, .ro, 0, .any, 0⟩]⟩,
  ⟨0x1A0408, [(0x100, 12)], [⟨0, 1, .ro, 0, .any, 0⟩, ⟨9, 1, .ro, 1, .any, 0⟩, ⟨10, 1, .ro, 0, .any, 0⟩, ⟨11, 1, .ro, 0, .any, 0⟩]⟩,
  ⟨0x1A000C, [(0x100, 16)], [⟨0, 29, .rw, 0, .any, 8⟩]⟩,
  ⟨0x1A0010, [(0x100, 16)], [⟨0, 29, .rw, 0, .any, 8⟩]⟩,
  ⟨0x1A0014, [(0x100, 16)], [⟨0, 32, .ro, 0, .any, 0⟩]⟩,
  ⟨0x1A0018, [(0x100, 16)], [⟨0, 32, .rw, 0, .any, 0⟩]⟩,
  ⟨0x1A001C, [(0x100, 16)], [⟨0, 32, .rw, 0, .any, 0⟩]⟩,
  ⟨0x1A0020, [(0x100, 4)], [⟨0, 32, .rw, 0, .any, 0⟩]⟩,
  ⟨0x1A0024, [(0x100, 16)], [⟨0, 32, .ro, 0, .any, 0⟩]⟩,
  ⟨0x1A0028, [(0x100, 16)], [⟨0, 32, .ro, 0, .any, 0⟩]⟩,
  ⟨0x1A042C, [(0x100, 12)], [⟨0, 16, .rw, 0x3c, .any, 0⟩]⟩,
  ⟨0x1A2000, [(0x20, 32)], [⟨0, 1, .rw, 0, .any, 0⟩, ⟨1, 2, .rw, 0, .any, 0⟩, ⟨3, 1, .rw, 0, .any, 0⟩, ⟨4, 4, .rw, 0, .range 0 11, 0⟩, ⟨8, 4, .rw, 0, .any, 0⟩, ⟨12, 4, .rw, 1, .range 0 7, 0⟩, ⟨16, 1, .rw, 1, .any, 0⟩, ⟨31, 1, .ro, 1, .any, 0⟩]⟩,
  ⟨0x1A2004, [(0x20, 32)], [⟨0, 32, .rw, 0, .any, 0⟩]⟩,
  ⟨0x1A2008, [(0x20, 32)], [⟨0, 16, .rw, 0, .any, 0⟩]⟩,
  ⟨0x1A200C, [(0x20, 32)], [⟨0, 32, .rw, 0, .any, 0⟩]⟩,
  ⟨0x1A2010, [(0x20, 32)], [⟨0, 32, .ro, 0, .any, 0⟩]⟩,
  ⟨0x1A2014, [(0x20, 32)], [⟨0, 32, .rw, 0, .any, 0⟩]⟩,
  ⟨0x1A3000, [], [⟨0, 29, .rw, 0, .any, 8⟩]⟩,
  ⟨0x1A3004, [], [⟨0, 5, .rw, 0x10, .range 12 24, 0⟩]⟩,
  ⟨0x1A3008, [], [⟨0, 32, .ro, 0, .any, 0⟩]⟩]

/-- The register rows of the BAR0 page 0x1B0000. -/
def regRows1B : List RegRow := [
  ⟨0x1B0000, [], [⟨0, 4, .rw, 0, .any, 0⟩, ⟨4, 1, .rw, 0, .any, 0⟩, ⟨5, 1, .rw, 0, .any, 0⟩, ⟨6, 1, .rw, 0, .any, 0⟩, ⟨8, 3, .rw, 0, .any, 0⟩]⟩,
  ⟨0x1B0004, [], [⟨0, 7, .ro, 0x7f, .any, 0⟩]⟩,
  ⟨0x1B0008, [(0x4, 3)], [⟨0, 32, .ro, 0xffffffff, .any, 0⟩]⟩,
  ⟨0x1B0100, [(0x10, 4)], [⟨0, 1, .ro, 0, .any, 0⟩, ⟨1, 3, .ro, 0, .any, 0⟩]⟩,
  ⟨0x1B0104, [(0x10, 4)], [⟨0, 32, .rw, 0, .any, 0⟩]⟩,
  ⟨0x1B0200, [], [⟨0, 7, .rw, 0, .range 0 71, 0⟩, ⟨7, 1, .rw, 0, .any, 0⟩, ⟨8, 7, .rw, 0, .range 0 71, 0⟩, ⟨15, 1, .rw, 0, .any, 0⟩, ⟨16, 7, .rw, 0, .range 0 71, 0⟩, ⟨23, 1, .rw, 0, .any, 0⟩, ⟨24, 7, .rw, 0, .range 0 71, 0⟩, ⟨31, 1, .rw, 0, .any, 0⟩]⟩,
  ⟨0x1B0204, [], [⟨0, 9, .rw, 0x46, .range 30 300, 0⟩, ⟨16, 9, .rw, 0xb4, .range 30 300, 0⟩]⟩,
  ⟨0x1B0208, [], [⟨0, 6, .rw, 0xf, .range 1 63, 0⟩, ⟨8, 8, .rw, 0x3c, .any, 0⟩, ⟨16, 8, .rw, 0x20, .any, 0⟩, ⟨24, 4, .rw, 0, .any, 0⟩, ⟨28, 1, .rw, 0, .any, 0⟩]⟩,
  ⟨0x1B020C, [], [⟨0, 1, .wo, 0, .any, 0⟩]⟩,
  ⟨0x1B0210, [], [⟨0, 2, .ro, 0, .any, 0⟩, ⟨8, 8, .ro, 0, .any, 0⟩]⟩,
  ⟨0x1B0214, [], [⟨0, 32, .ro, 0, .any, 0⟩]⟩,
  ⟨0x1B0218, [], [⟨0, 32, .ro, 0, .any, 0⟩]⟩,
  ⟨0x1B021C, [], [⟨0, 32, .ro, 0, .any, 0⟩]⟩,
  ⟨0x1B0300, [], [⟨0, 2, .rw, 3, .any, 0⟩, ⟨8, 1, .ro, 0, .any, 0⟩]⟩,
  ⟨0x1B0304, [], [⟨0, 32, .ro, 0, .any, 0⟩]⟩,
  ⟨0x1B0308, [], [⟨0, 32, .ro, 0, .any, 0⟩]⟩,
  ⟨0x1B030C, [], [⟨0, 4, .ro, 0, .any, 0⟩]⟩,
  ⟨0x1B0310, [], [⟨0, 7, .rw, 0, .any, 0⟩, ⟨8, 2, .rw, 3, .any, 0⟩, ⟨10, 1, .rw, 0, .any, 0⟩]⟩,
  ⟨0x1B0314, [], [⟨0, 32, .rw, 0, .any, 0⟩]⟩,
  ⟨0x1B1000, [(0x10, 72)], [⟨0, 29, .rw, 0, .any, 8⟩]⟩,
  ⟨0x1B1004, [(0x10, 72)], [⟨0, 5, .rw, 0xc, .range 8 20, 0⟩, ⟨8, 1, .ro, 1, .any, 0⟩, ⟨31, 1, .rw, 0, .any, 0⟩]⟩,
  ⟨0x1B1008, [(0x10, 72)], [⟨0, 32, .ro, 0, .any, 0⟩]⟩,
  ⟨0x1B100C, [(0x10, 72)], [⟨0, 32, .ro, 0, .any, 0⟩]⟩]

/-- The register rows of the BAR0 page 0x1C0000. -/
def regRows1C : List RegRow := [
  ⟨0x1C0000, [(0x100, 8)], [⟨0, 1, .rw, 0, .any, 0⟩, ⟨2, 1, .rw, 0, .any, 0⟩]⟩,
  ⟨0x1C0004, [(0x100, 8)], [⟨0, 1, .ro, 1, .any, 0⟩, ⟨1, 1, .w1c, 0, .any, 0⟩, ⟨16, 10, .ro, 0, .any, 0⟩]⟩,
  ⟨0x1C0008, [(0x100, 8)], [⟨0, 10, .rw, 0xb0, .range 92 1000, 0⟩, ⟨16, 10, .rw, 0xc, .range 12 1000, 0⟩]⟩,
  ⟨0x1C000C, [(0x100, 8)], [⟨0, 16, .rw, 0, .any, 0⟩]⟩,
  ⟨0x1C0010, [(0x100, 8)], [⟨0, 16, .rw, 0x1f40, .any, 0⟩, ⟨16, 16, .rw, 0x3e8, .any, 0⟩]⟩,
  ⟨0x1C0014, [(0x100, 8)], [⟨0, 16, .rw, 0xa, .range 1 65535, 0⟩]⟩,
  ⟨0x1C0018, [(0x100, 8)], [⟨0, 29, .rw, 0, .any, 8⟩]⟩,
  ⟨0x1C001C, [(0x100, 8)], [⟨0, 11, .ro, 0, .any, 0⟩]⟩,
  ⟨0x1C0020, [(0x100, 8)], [⟨0, 32, .rw, 0, .any, 0⟩]⟩,
  ⟨0x1C0024, [(0x100, 8)], [⟨0, 32, .rw, 0, .any, 0⟩]⟩,
  ⟨0x1C0028, [(0x100, 8)], [⟨0, 32, .rw, 0, .any, 0⟩]⟩]

/-- The register rows of the BAR0 page 0x1D0000. -/
def regRows1D : List RegRow := [
  ⟨0x1D0000, [], [⟨0, 1, .rw, 0, .any, 0⟩, ⟨1, 1, .rw, 1, .any, 0⟩, ⟨2, 1, .wo, 0, .any, 0⟩, ⟨3, 1, .wo, 0, .any, 0⟩]⟩,
  ⟨0x1D0004, [], [⟨0, 2, .rw, 2, .range 2 3, 0⟩, ⟨4, 4, .rw, 8, .any, 0⟩, ⟨8, 2, .rw, 0, .range 0 2, 0⟩, ⟨12, 4, .rw, 8, .range 0 11, 0⟩, ⟨16, 1, .rw, 1, .any, 0⟩]⟩,
  ⟨0x1D0008, [], [⟨0, 16, .rw, 0, .any, 0⟩]⟩,
  ⟨0x1D000C, [], [⟨0, 3, .ro, 0, .any, 0⟩, ⟨4, 2, .ro, 3, .any, 0⟩, ⟨8, 3, .ro, 0, .any, 0⟩, ⟨11, 1, .ro, 0, .any, 0⟩, ⟨12, 1, .ro, 0, .any, 0⟩, ⟨13, 2, .ro, 0, .any, 0⟩, ⟨15, 1, .ro, 1, .any, 0⟩]⟩,
  ⟨0x1D0010, [], [⟨0, 1, .wo, 0, .any, 0⟩, ⟨16, 13, .ro, 0, .any, 0⟩]⟩,
  ⟨0x1D0014, [], [⟨0, 32, .rw, 0, .any, 0⟩]⟩,
  ⟨0x1D0018, [], [⟨0, 32, .rw, 0, .any, 0⟩]⟩,
  ⟨0x1D001C, [], [⟨0, 16, .rw, 0x9241, .any, 0⟩]⟩,
  ⟨0x1D0020, [], [⟨0, 8, .rw, 3, .range 1 255, 0⟩]⟩,
  ⟨0x1D0024, [], [⟨0, 32, .rw, 0x2710, .any, 0⟩]⟩,
  ⟨0x1D0028, [], [⟨0, 16, .rw, 0x7d0, .range 100 3000, 0⟩]⟩,
  ⟨0x1D002C, [], [⟨0, 16, .rw, 0x64, .range 10 65535, 0⟩]⟩,
  ⟨0x1D0030, [], [⟨0, 32, .ro, 0, .any, 0⟩]⟩,
  ⟨0x1D0034, [], [⟨0, 32, .ro, 0, .any, 0⟩]⟩,
  ⟨0x1D0038, [], [⟨0, 3, .ro, 0, .any, 0⟩]⟩,
  ⟨0x1D0040, [], [⟨0, 32, .rw, 0, .any, 0⟩]⟩,
  ⟨0x1D0044, [], [⟨0, 32, .rw, 0, .any, 0⟩]⟩,
  ⟨0x1D0048, [], [⟨0, 32, .rw, 0, .any, 0⟩]⟩,
  ⟨0x1D004C, [], [⟨0, 32, .rw, 0, .any, 0⟩]⟩,
  ⟨0x1D0050, [], [⟨0, 32, .rw, 0, .any, 0⟩]⟩,
  ⟨0x1D0054, [], [⟨0, 32, .rw, 0, .any, 0⟩]⟩,
  ⟨0x1D0100, [(0x10, 64)], [⟨0, 29, .rw, 0, .any, 8⟩]⟩,
  ⟨0x1D0104, [(0x10, 64)], [⟨0, 29, .rw, 0, .mult 256, 0⟩, ⟨31, 1, .rw, 0, .any, 0⟩]⟩,
  ⟨0x1D1000, [(0x40, 2)], [⟨0, 32, .ro, 0, .any, 0⟩]⟩,
  ⟨0x1D1004, [(0x40, 2)], [⟨0, 32, .ro, 0, .any, 0⟩]⟩,
  ⟨0x1D1008, [(0x40, 2)], [⟨0, 3, .ro, 0, .any, 0⟩, ⟨4, 2, .ro, 3, .any, 0⟩, ⟨8, 1, .ro, 0, .any, 0⟩, ⟨9, 1, .ro, 0, .any, 0⟩, ⟨10, 1, .ro, 0, .any, 0⟩, ⟨31, 1, .ro, 0, .any, 0⟩]⟩,
  ⟨0x1D100C, [(0x40, 2)], [⟨0, 32, .ro, 0, .any, 0⟩]⟩,
  ⟨0x1D1010, [(0x40, 2)], [⟨0, 32, .ro, 0, .any, 0⟩]⟩,
  ⟨0x1D1014, [(0x40, 2)], [⟨0, 32, .ro, 0, .any, 0⟩]⟩,
  ⟨0x1D1018, [(0x40, 2)], [⟨0, 32, .ro, 0, .any, 0⟩]⟩,
  ⟨0x1D101C, [(0x40, 2)], [⟨0, 32, .ro, 0, .any, 0⟩]⟩,
  ⟨0x1D1020, [(0x40, 2)], [⟨0, 32, .ro, 0, .any, 0⟩]⟩,
  ⟨0x1D1024, [(0x40, 2)], [⟨0, 32, .ro, 0, .any, 0⟩]⟩,
  ⟨0x1D1028, [(0x40, 2)], [⟨0, 8, .ro, 0, .any, 0⟩]⟩,
  ⟨0x1D102C, [(0x40, 2)], [⟨0, 32, .ro, 0, .any, 0⟩]⟩,
  ⟨0x1D1030, [(0x40, 2)], [⟨0, 32, .ro, 0, .any, 0⟩]⟩]

/-- The register rows of the BAR0 page 0x1E0000. -/
def regRows1E : List RegRow := [
  ⟨0x1E0000, [], [⟨0, 1, .wo, 0, .any, 0⟩]⟩,
  ⟨0x1E0004, [], [⟨0, 3, .ro, 0, .any, 0⟩, ⟨4, 2, .ro, 0, .any, 0⟩, ⟨8, 1, .ro, 0, .any, 0⟩, ⟨9, 1, .ro, 0, .any, 0⟩, ⟨10, 1, .ro, 0, .any, 0⟩, ⟨11, 1, .ro, 0, .any, 0⟩]⟩,
  ⟨0x1E0008, [], [⟨0, 25, .rw, 0x1cfc00, .any, 0⟩]⟩,
  ⟨0x1E000C, [], [⟨0, 1, .rw, 1, .any, 0⟩, ⟨1, 1, .rw, 0, .any, 0⟩, ⟨2, 1, .rw, 0, .any, 0⟩, ⟨3, 1, .rw, 0, .any, 0⟩, ⟨8, 4, .rw, 0, .any, 0⟩]⟩,
  ⟨0x1E0010, [], [⟨0, 32, .rw, 0, .any, 0⟩]⟩,
  ⟨0x1E0014, [], [⟨0, 32, .ro, 0, .any, 0⟩]⟩,
  ⟨0x1E0018, [], [⟨0, 3, .rws, 0, .range 0 5, 0⟩, ⟨4, 2, .rws, 0, .any, 0⟩, ⟨8, 2, .rws, 0, .any, 0⟩, ⟨12, 1, .rws, 0, .any, 0⟩]⟩,
  ⟨0x1E001C, [], [⟨0, 8, .ro, 0, .any, 0⟩, ⟨8, 8, .ro, 0, .any, 0⟩, ⟨16, 1, .ro, 0, .any, 0⟩, ⟨24, 8, .ro, 0, .any, 0⟩]⟩,
  ⟨0x1E0020, [], [⟨0, 16, .ro, 0, .any, 0⟩]⟩,
  ⟨0x1E0024, [], [⟨0, 16, .rw, 0xffff, .any, 0⟩]⟩,
  ⟨0x1E0028, [], [⟨0, 7, .w1c, 0, .any, 0⟩]⟩,
  ⟨0x1E002C, [], [⟨0, 16, .rws, 0, .any, 0⟩]⟩]

/-- The register rows of the BAR0 page 0x1F0000. -/
def regRows1F : List RegRow := [
  ⟨0x1F0000, [], [⟨0, 1, .rw, 0, .any, 0⟩, ⟨8, 4, .rw, 6, .range 3 10, 0⟩]⟩,
  ⟨0x1F0004, [], [⟨0, 1, .ro, 1, .any, 0⟩, ⟨1, 1, .ro, 0, .any, 0⟩, ⟨8, 8, .ro, 0, .any, 0⟩, ⟨16, 3, .ro, 0, .any, 0⟩, ⟨24, 7, .ro, 0, .any, 0⟩]⟩,
  ⟨0x1F0008, [], [⟨0, 16, .rw, 0x5f00, .any, 0⟩, ⟨16, 16, .rw, 0x1000, .any, 0⟩]⟩,
  ⟨0x1F000C, [], [⟨0, 16, .ro, 0x6e00, .any, 0⟩, ⟨16, 16, .rw, 0x2000, .any, 0⟩]⟩,
  ⟨0x1F0010, [], [⟨0, 16, .ro, 0x8000, .any, 0⟩, ⟨16, 16, .ro, 0, .any, 0⟩]⟩,
  ⟨0x1F0014, [], [⟨0, 29, .rw, 0, .any, 8⟩]⟩,
  ⟨0x1F0018, [], [⟨0, 29, .rw, 0, .any, 0⟩]⟩,
  ⟨0x1F0020, [(0x4, 8)], [⟨0, 16, .rw, 0x1900, .any, 0⟩]⟩,
  ⟨0x1F0040, [], [⟨0, 16, .rws, 0, .any, 0⟩]⟩,
  ⟨0x1F0080, [(0x4, 6)], [⟨0, 32, .ro, 0, .any, 0⟩]⟩,
  ⟨0x1F0100, [(0x20, 8)], [⟨0, 16, .ro, 0, .any, 0⟩, ⟨16, 16, .ro, 0, .any, 0⟩]⟩,
  ⟨0x1F0104, [(0x20, 8)], [⟨0, 16, .ro, 0, .any, 0⟩]⟩,
  ⟨0x1F0108, [(0x20, 8)], [⟨0, 1, .ro, 0, .any, 0⟩, ⟨1, 2, .ro, 0, .any, 0⟩, ⟨8, 1, .wo, 0, .any, 0⟩, ⟨9, 1, .ro, 0, .any, 0⟩]⟩,
  ⟨0x1F010C, [(0x20, 8)], [⟨0, 32, .rw, 0, .any, 0⟩]⟩,
  ⟨0x1F0110, [(0x20, 8)], [⟨0, 16, .rw, 0, .any, 0⟩]⟩]

/-- The register rows of the BAR0 page 0x200000. -/
def regRows20 : List RegRow := [
  ⟨0x200000, [], [⟨0, 1, .ro, 0, .any, 0⟩, ⟨1, 1, .ro, 0, .any, 0⟩, ⟨2, 2, .ro, 0, .any, 0⟩, ⟨4, 1, .ro, 0, .any, 0⟩, ⟨5, 2, .ro, 0, .any, 0⟩, ⟨7, 1, .ro, 0, .any, 0⟩, ⟨8, 3, .ro, 0, .any, 0⟩, ⟨12, 2, .ro, 0, .any, 0⟩, ⟨14, 1, .ro, 0, .any, 0⟩]⟩,
  ⟨0x200004, [], [⟨0, 32, .ro, 0, .any, 0⟩]⟩,
  ⟨0x200008, [], [⟨0, 32, .ro, 0, .any, 0⟩]⟩,
  ⟨0x20000C, [], [⟨0, 7, .ro, 0, .any, 0⟩]⟩,
  ⟨0x200010, [], [⟨0, 10, .ro, 0, .any, 0⟩]⟩,
  ⟨0x200014, [], [⟨0, 16, .rw, 0x384, .any, 0⟩]⟩,
  ⟨0x200018, [], [⟨0, 1, .wo, 0, .any, 0⟩]⟩,
  ⟨0x20001C, [], [⟨0, 16, .rws, 0, .any, 0⟩, ⟨16, 4, .rws, 0, .any, 0⟩]⟩,
  ⟨0x200020, [], [⟨0, 32, .ro, 0, .any, 0⟩]⟩,
  ⟨0x200024, [], [⟨0, 32, .rw, 0, .any, 0⟩]⟩,
  ⟨0x200028, [], [⟨0, 32, .rw, 0, .any, 0⟩]⟩,
  ⟨0x20002C, [], [⟨0, 2, .ro, 0, .any, 0⟩, ⟨8, 8, .ro, 0, .any, 0⟩, ⟨16, 4, .ro, 0, .any, 0⟩]⟩,
  ⟨0x200040, [(0x4, 12)], [⟨0, 32, .ro, 0, .any, 0⟩]⟩,
  ⟨0x200080, [(0x4, 12)], [⟨0, 32, .ro, 0, .any, 0⟩]⟩]

/-- The rows of the 64 KiB page that holds an offset (R26). -/
def regPage : Nat → List RegRow
  | 0x0 => regRows0
  | 0x1 => regRows1
  | 0x2 => regRows2
  | 0x3 => regRows3
  | 0x4 => regRows4
  | 0x5 => regRows5
  | 0x6 => regRows6
  | 0x7 => regRows7
  | 0x8 => regRows8
  | 0x9 => regRows9
  | 0xA => regRowsA
  | 0xB => regRowsB
  | 0xC => regRowsC
  | 0xD => regRowsD
  | 0xE => regRowsE
  | 0xF => regRowsF
  | 0x10 => regRows10
  | 0x11 => regRows10
  | 0x12 => regRows10
  | 0x13 => regRows10
  | 0x14 => regRows14
  | 0x15 => regRows14
  | 0x16 => regRows14
  | 0x17 => regRows14
  | 0x18 => regRows18
  | 0x19 => regRows18
  | 0x1A => regRows1A
  | 0x1B => regRows1B
  | 0x1C => regRows1C
  | 0x1D => regRows1D
  | 0x1E => regRows1E
  | 0x1F => regRows1F
  | 0x20 => regRows20
  | _ => []

/-- Whether an offset relative to a row's base falls on one of the row's array elements. -/
def onArray : List (Nat × Nat) → Nat → Bool
  | [], d => d == 0
  | (s, c) :: t, d => decide (d / s < c) && onArray t (d % s)

/-- Whether a row holds the register at an offset. -/
def RegRow.holds (r : RegRow) (off : Nat) : Bool := decide (r.base ≤ off) && onArray r.dims (off - r.base)

/-- The row of an offset, when the register tables list it (R27). -/
def regRow? (off : Nat) : Option RegRow := (regPage (off / 0x10000)).find? (·.holds off)

/-- The reset word that a row's Reset column gives. -/
def RegRow.resetWord (r : RegRow) : Nat := r.fields.foldl (fun w f => w + f.reset * 2 ^ f.lsb) 0

/-- The reset priorities of the store requesters (R132). -/
def prioReset (r : Nat) : Nat :=
  if r < 16 then 5 else if r < 24 then 2 else if r = 24 then 7 else if r = 55 then 3 else if r = 56 then 4 else 6

/-- The reset word of a register: its row's, and the values that differ within an array (R132, R187, R351, R407) (log 1) (log 6). -/
def regReset (off : Nat) : BitVec 32 :=
  if 0x30000 ≤ off ∧ off < 0x300E4 then BitVec.ofNat 32 (prioReset ((off - 0x30000) / 4))
  else if off = 0x60780 ∨ off = 0x607C0 then 1
  else if off = 0x6078C ∨ off = 0x607CC then 0
  else if off = 0x1B0010 then 0xFF
  else if 0x140010 ≤ off ∧ off < 0x164011 ∧ (off - 0x140010) % 0x4000 = 0 then BitVec.ofNat 32 ((off - 0x140010) / 0x4000)
  else match regRow? off with
    | some r => BitVec.ofNat 32 r.resetWord
    | none => 0

end Sys2Proof.Machine
end

