-- ==== Sys2Proof/Machine/Sparse.lean ====
section
/-! DEFINITION. Sparse tables in one canonical form, bit fields, and byte order (R18): the helpers every layer uses. -/
namespace Sys2Proof.Machine

/-- The entry of a table at a key; an unlisted key holds the default. -/
def tblGet {α : Type} : List (Nat × α) → α → Nat → α
  | [], d, _ => d
  | (a, x) :: t, d, k => if a = k then x else tblGet t d k

/-- A table without its entries at a key. -/
def tblErase {α : Type} : List (Nat × α) → Nat → List (Nat × α)
  | [], _ => []
  | (a, x) :: t, k => if a = k then tblErase t k else (a, x) :: tblErase t k

/-- A table with an entry put in key order. -/
def tblInsert {α : Type} : List (Nat × α) → Nat → α → List (Nat × α)
  | [], k, v => [(k, v)]
  | (a, x) :: t, k, v => if k < a then (k, v) :: (a, x) :: t else (a, x) :: tblInsert t k v

/-- A table whose entry at `k` is `v`, where `d` is what the key holds when unlisted. -/
def tblSet {α : Type} [DecidableEq α] (t : List (Nat × α)) (d : α) (k : Nat) (v : α) : List (Nat × α) :=
  if v = d then tblErase t k else tblInsert (tblErase t k) k v

/-- Whether keys rise strictly, each above a bound. -/
def tblSortedFrom {α : Type} : Nat → List (Nat × α) → Bool
  | _, [] => true
  | b, (a, _) :: t => decide (b ≤ a) && tblSortedFrom (a + 1) t

/-- The canonical form: keys strictly rising, and no entry equal to the unlisted value. -/
def tblWf {α : Type} [DecidableEq α] (d : Nat → α) (t : List (Nat × α)) : Bool :=
  tblSortedFrom 0 t && t.all (fun e => decide (e.2 ≠ d e.1))

/-- Bits `lsb .. lsb + width - 1` of a number. -/
def bitsOf (w lsb width : Nat) : Nat := w / 2 ^ lsb % 2 ^ width

/-- A number with bits `lsb .. lsb + width - 1` replaced by the low bits of `v`. -/
def withBits (w lsb width v : Nat) : Nat :=
  w / 2 ^ (lsb + width) * 2 ^ (lsb + width) + (v % 2 ^ width) * 2 ^ lsb + w % 2 ^ lsb

/-- One bit of a number. -/
def bitOf (w n : Nat) : Bool := w / 2 ^ n % 2 == 1

/-- The number of a truth value. -/
def b2n (b : Bool) : Nat := if b then 1 else 0

/-- A two's-complement number of a width, read from its low bits. -/
def sext (width v : Nat) : Int :=
  if v % 2 ^ width < 2 ^ (width - 1) then (v % 2 ^ width : Nat) else (v % 2 ^ width : Nat) - (2 ^ width : Nat)

/-- The low bits of an integer in two's complement. -/
def low (width : Nat) (x : Int) : Nat := (x % ((2 ^ width : Nat) : Int)).toNat

/-- An integer held within bounds. -/
def clampI (lo hi x : Int) : Int := if x < lo then lo else if hi < x then hi else x

/-- A number of `n` bytes, least significant first (R18). -/
def leBytes : Nat → Nat → Bytes
  | 0, _ => []
  | n + 1, v => BitVec.ofNat 8 v :: leBytes n (v / 256)

/-- A number of `n` bytes, most significant first, as network protocols order it. -/
def beBytes (n v : Nat) : Bytes := (leBytes n v).reverse

/-- The number that bytes spell, least significant first (R18). -/
def leNat : Bytes → Nat
  | [] => 0
  | b :: t => b.toNat + 256 * leNat t

/-- The number that bytes spell, most significant first. -/
def beNat (l : Bytes) : Nat := leNat l.reverse

/-- The 32-bit words of a number list as bytes. -/
def wordsBytes (ws : List Nat) : Bytes := ws.flatMap (leBytes 4)

/-- Rounding to nearest with ties upward of `num / den`, for a positive `den`. -/
def roundDiv (num : Int) (den : Nat) : Int := (2 * num + den) / (2 * den : Nat)

/-- Whether `x` plus one does not pass the greatest value of a saturating counter, and the count it takes. -/
def satAdd (width x n : Nat) : Nat := min (x + n) (2 ^ width - 1)

end Sys2Proof.Machine
end

