-- ==== Sys2Proof/Machine/Types.lean ====
section
/-! DEFINITION. The plain-data records that State is made of, one group per unit of the part. -/
namespace Sys2Proof.Machine

/-- What the part sends out, in the order it sends it (log 7). -/
inductive Output where
  /-- A completion, a notice or a write-back word written to host memory at an address (R93, R96, R105). -/
  | hostWrite (addr : Nat) (data : Bytes)
  /-- Data written to a host buffer at an address, and whether the write carries relaxed ordering (R79). -/
  | hostData (addr : Nat) (data : Bytes) (relaxed : Bool)
  /-- A read of host memory: an address and a count of bytes (R82, R87, R113). -/
  | hostRead (addr len : Nat)
  /-- An MSI-X message of a vector (R101). -/
  | msix (vec : Nat) (addr : Nat) (data : Nat)
  /-- Data returned for a register or queue read. -/
  | readData (off : Nat) (val : Nat)
  /-- A value returned for a Hawk core's load (R153, R154). -/
  | coreLoad (core addr : Nat) (val : Nat)
  /-- A value returned for a Hawk core's read of a CSR (R155). -/
  | csrLoad (core csr : Nat) (val : Nat)
  /-- A value returned for a load of Chrysalis (R498). -/
  | chyLoad (addr : Nat) (val : Nat)
  /-- Bytes returned for a BAR2 read or to a requester of the store, and the addresses of the words of it marked POISON (R125). -/
  | loadData (addr : Nat) (data : Bytes) (poison : List Nat)
  /-- A requester's read data from an address up to another is discarded: its burst was cut (R140, R145). -/
  | dropData (requester fromAddr upTo : Nat)
  /-- A frame sent on an Ethernet or Silk port, without preamble and FCS, and whether its FCS is inverted (R125). -/
  | frame (port : Nat) (data : Bytes) (badFcs : Bool)
  /-- An mPacket starts on a port (R362): its SMD, its fragment count, its frame's bytes from here on, and whether that ends in an inverted
  FCS (R125). -/
  | mpacket (port smd : Nat) (fragment : Option Nat) (data : Bytes) (badFcs : Bool)
  /-- The mPacket on a port's wire ends after a number of bytes, with its mCRC (R362, R363). -/
  | mpacketEnd (port sent : Nat)
  /-- A DMX port's packet: break, mark after break and slots (R271), or an RDM request (R273). -/
  | dmx (port : Nat) (breakUs mabUs : Nat) (slots : Bytes)
  /-- A Wingbeat frame and the least gap behind it: port, code groups in order (R287, R289). -/
  | wing (port : Nat) (groups : List WireGroup)
  /-- A pin or pulse output takes a level. -/
  | pin (name : String) (index : Nat) (level : Bool)
  /-- A linear-timecode word (R401). -/
  | ltc (word : Nat)
  /-- A Roost message on a Silk port (0, 1) or the network path (2) (R413). -/
  | roost (path : Nat) (type : Nat) (dest : Nat) (payload : Bytes)
  /-- A SerDes transmitter goes to electrical idle: its block and instance (R453). -/
  | electricalIdle (block lane : Nat)
  /-- An Ethernet port sends 1000BASE-X idles (R453). -/
  | idles1000 (port : Nat)
  /-- A reply of Chrysalis on the service port: header and reply (R524). -/
  | reply (data : Bytes)
  /-- A supply command (R538). -/
  | avs (millivolts : Nat)
  /-- Bits shifted out of the boundary-scan port, first bit lowest (R550). -/
  | tdo (bits value : Nat)
  deriving DecidableEq, Repr

/-- Time: the extended accumulator of R41 and R42 in 2^-32 ns, the oscillator's own elapsed ns, and the rate and its
target in 2^-32 of 10^-18 (R47). -/
structure TimeSt where
  acc : Nat
  elapsed : Nat
  rho : Int
  rhoTarget : Int
  deriving DecidableEq, Repr

/-- What the discipline remembers of one source code (R48, R49): since when it has been valid, the instant its next event is
expected at (2^-32 ns of extended device time; for AES67, the one its last packet was expected at), its last event in device time and
in the oscillator's time, the last Sync's t1 or the last packet's RTP timestamp, and how many events in a row have missed their
instant. -/
structure SourceSt where
  validSince : Option Nat
  expected : Option Nat
  last : Option Nat
  lastElapsed : Nat
  lastMaster : Int
  bad : Nat
  deriving DecidableEq, Repr

/-- A Sync whose measurement is open: its header, t1 with its correction (ns), t2 (ns) with the oscillator's time then, whether its
Follow_Up has come (R53), and whether its first copy came on LAN B (R375). -/
structure OpenSync where
  hdr : PtpHeader
  t1 : Int
  t2 : Nat
  at_ : Nat
  complete : Bool
  lanB : Bool
  deriving DecidableEq, Repr

/-- The PTP engine (R53): `lastDelay` is t4 - t3 of the last delay exchange, `delayOpen` the sequence number of a Delay_Req and its
transmit timestamps on LAN A and LAN B. -/
structure PtpSt where
  sync : Option OpenSync
  lastDelay : Option Int
  delaySeq : Nat
  delayOpen : Option (Nat × Nat × Nat)
  syncSeq : Nat
  announceSeq : Nat
  best : Option Announce
  lastAnnounce : Option Nat
  nextSync : Option Nat
  nextAnnounce : Option Nat
  deriving DecidableEq, Repr

/-- The discipline (R45-R53): the last rates the loop set, the runs that lock and unlock it, whether a phase reference is to be fixed, the
end of a dwell, the integral part of the loop and the oscillator's time of its last update, the sources, and PTP. -/
structure AntSt where
  rates : List Int
  lockRun : Nat
  unlockRun : Nat
  needRef : Bool
  dwellUntil : Option Nat
  integral : Int
  lastUpdate : Option Nat
  sources : List (Nat × SourceSt)
  ptp : PtpSt
  deriving DecidableEq, Repr

/-- The commands of ANT_CTX_CMD (R58). -/
inductive CtxCmd where
  | run | hold | locate | stop
  deriving DecidableEq, Repr

/-- A show context beside its registers: its anchor (position in 2^-24 frame, extended device time in 2^-32 ns), the pending
command and the pending offset rewrite (R54-R60). -/
structure CtxSt where
  pb : Int
  tb : Int
  cmd : Option CtxCmd
  rewrite : Bool
  deriving DecidableEq, Repr

/-- A position reference outside Antenna: frames or beats counted, the extended device time of the last one and its period,
both in 2^-32 ns (R54). -/
structure RefSt where
  count : Int
  last : Nat
  period : Nat
  deriving DecidableEq, Repr

/-- A calendar event (R63): order of add, context, class, catch-up, ready queue, position, tag, payload; the LATE marks of R66
(its instant has passed) and R68 (a jump skipped it); for one of these, when it became due for release; and, once it is
offered, its scheduled release instant (R331). -/
structure CalEvent where
  order : Nat
  ctx : Nat
  commit : Bool
  catchup : Bool
  queue : Nat
  pos : Int
  tag : Nat
  payload : Nat
  passed : Bool
  jumped : Bool
  due : Option Nat
  sched : Int
  deriving DecidableEq, Repr

/-- The calendar (R62-R70): pending events in order of add, the event offered and not accepted, the next order, and the TIME cycle of
the last offer, by the oscillator (log 94). -/
structure CalSt where
  events : List CalEvent
  held : Option CalEvent
  nextOrder : Nat
  lastOffer : Option Nat
  deriving DecidableEq, Repr

/-- A TIMEPULSE output's armed schedule (R71-R73): the latched configuration, the exact instant of the next pulse in
2^-32 ns of extended device time, and that of the end of a pulse in progress. -/
structure PulseSt where
  periodic : Bool
  activeLow : Bool
  width : Nat
  period : Nat
  next : Option Nat
  pulseEnd : Option Nat
  deriving DecidableEq, Repr

/-- An entry of a GPI FIFO (R74). -/
structure GpiEntry where
  time : Nat
  pos : Int
  rise : Bool
  deriving DecidableEq, Repr

/-- A GPI input: the pin, the accepted level (none from the enable until it settles), t_first, when the present level began,
and the FIFO (R74, R75, R402). -/
structure GpiSt where
  pin : Bool
  accepted : Option Bool
  first : Option Nat
  since : Option Nat
  fifo : List GpiEntry
  deriving DecidableEq, Repr

/-- What has become of a descriptor the Oldoax holds (R87, R88). -/
inductive DescPhase where
  /-- Fetched, not started. -/
  | waiting
  /-- Started and checked; its operation is the next thing it does. -/
  | started
  /-- Its operation runs and completes later. -/
  | working
  /-- Started and waits, and no later descriptor of its ring starts (R168). -/
  | held
  /-- Its completion is ready; it is written in index order. -/
  | done (status flags : Nat) (block inst : Nat) (words : List Nat)
  deriving DecidableEq, Repr

/-- A fetched descriptor: its index, its sixteen words, and its phase. -/
structure Desc where
  index : Nat
  words : List Nat
  phase : DescPhase
  deriving DecidableEq, Repr

/-- A ring beside its registers (R82-R111): the next index to fetch, the descriptors held, a notice ring's consumed index and
SEQ, its lost count and first lost SEQ, entries not yet signalled with the oldest one's time, and a disable in progress. -/
structure RingSt where
  fetched : Nat
  descs : List Desc
  consumed : Nat
  seq : Nat
  lost : Nat
  lostFirst : Nat
  unsignalled : Nat
  oldest : Option Nat
  disabling : Bool
  deriving DecidableEq, Repr

/-- An MSI-X table entry (R79, R102). -/
structure VectorSt where
  addr : Nat
  data : Nat
  masked : Bool
  deriving DecidableEq, Repr

/-- A DMA transfer in progress (R113-R115): its ring and descriptor index, direction, addresses, bytes still to be committed,
and whether a host error ends it. -/
structure DmaSt where
  ring : Nat
  index : Nat
  toStore : Bool
  host : Nat
  store : Nat
  data : Bytes
  hostError : Bool
  deriving DecidableEq, Repr

/-- The host interface beside its registers (R79-R81, R87, R102): what configuration space holds, the class code and the AER status among
it, and the rings, vectors and transfers. -/
structure HostSt where
  classCode : Nat
  aer : BitVec 32
  bme : Bool
  msixEnable : Bool
  functionMask : Bool
  relaxed : Bool
  d3hot : Bool
  control : DevControl
  inReset : Bool
  vectors : List (Nat × VectorSt)
  pendingBits : List Nat
  rings : List (Nat × RingSt)
  turn : Nat
  dma : List DmaSt
  deriving DecidableEq, Repr

/-- What the check bits of a 64-bit store word say (R123, R124): clean; a single-bit error, read or not; an uncorrectable
error not yet read, read and waiting for its poison code, or stored poisoned. -/
inductive WordMark where
  | clean
  | single (read : Bool)
  | double
  | detected
  | poison
  deriving DecidableEq, Repr

/-- The central store (R117-R127): bytes, word marks, uncorrectable errors of the last 1 ms by die, scrub passes by die, when
each die scrubs next, and whether the store is powered. -/
structure StoreSt where
  bytes : List (Nat × Byte)
  marks : List (Nat × WordMark)
  ueTimes : List (Nat × List Nat)
  scrubPasses : List (Nat × Nat)
  nextScrub : List (Nat × Nat)
  powered : Bool
  deriving DecidableEq, Repr

/-- A granted burst of a die that may still be cut (R118, R119, R134, R140, R145): its request, the oscillator time of its grant, and
whether the die idles one cycle before it, for a change between reading and writing. -/
structure BurstSt where
  request : StoreRequest
  granted : Nat
  turn : Bool
  deriving DecidableEq, Repr

/-- A held lock (R142-R145), with the priority its owner had when it was taken, which holds until its release (R135). -/
structure LockSt where
  owner : Nat
  base : Nat
  size : Nat
  since : Nat
  prio : Nat
  deriving DecidableEq, Repr

/-- The arbiter beside its registers (R132-R146): the requests waiting at each port; the commands whose access stands among them, by
requester and in the order of those accesses; each die's bursts in flight, oldest first, and the oscillator time at which its next slot is
free; the locks held, oldest first; and, of the command that runs alone, the requester and address of an access that cannot happen yet
(the model's own field, none between commands). -/
structure ArbSt where
  ports : List (Nat × List StoreRequest)
  held : List (Nat × List Instr)
  bursts : List (Nat × List BurstSt)
  slots : List (Nat × Nat)
  locks : List LockSt
  waiting : Option (Nat × Nat)
  deriving DecidableEq, Repr

/-- A cue-log entry (R420, R434): its LSN, its eight words, on rank 0 the ring and descriptor whose completion it will bring, and
whether a new rank 0 replays it. -/
structure CueEntry where
  lsn : Nat
  words : List Nat
  source : Option (Nat × Nat)
  replay : Bool
  deriving DecidableEq, Repr

/-- A cue epoch as a member holds it (R413, R422, R423): its kind (0 CUE, 1 BULK, 2 FULL), number, the F it applies at, its LSN
range, chunks staged as (address or offset, bytes), LENGTH and digest of its close, whether that has come, whether missing entries
have been asked for, whether it has been verified, and the serial of its sender with the sender's θ when it closed (log 107). -/
structure EpochSt where
  kind : Nat
  number : Nat
  applyF : Nat
  lsnFirst : Nat
  lsnLast : Nat
  chunks : List (Nat × Bytes)
  length : Nat
  digest : Bytes
  closed : Bool
  asked : Bool
  verified : Bool
  sender : Nat
  theta : Int
  deriving DecidableEq, Repr

/-- What a member remembers of a peer beside its registers (R410, R416, R417, R419, R429): its PREF, when it was last heard and on
which path, whether θ has been measured, when ROO_SKEW and DIGEST_MISMATCH were last raised for it, the frame whose digests were
last compared, and the bulk epochs it has acknowledged. -/
structure PeerSt where
  pref : Nat
  lastHeard : Option Nat
  lastPath : List (Nat × Nat)
  thetaOk : Bool
  lastSkew : Option Nat
  lastMismatch : Option Nat
  compared : Option Nat
  acked : List Nat
  deriving DecidableEq, Repr

/-- A bulk copy that ROO_SYNC runs (R425): its ring, descriptor, first epoch number and count of epochs. -/
structure BulkSt where
  ring : Nat
  index : Nat
  first : Nat
  epochs : Nat
  deriving DecidableEq, Repr

/-- The Roost beside its registers (R408-R436): start and message counts with the time of the last heartbeat sent by each Silk port, the
last MSEQ accepted by sender, peers, the lease and the requests it may come from, what is due next, entries (rank 0: of the epoch being
built; others: held), entries of the epoch closed and not yet applied, epochs received, the last LSN applied, the epoch rank 0 closed,
bulk copies, when JOIN, LAGGING and DEMOTED began and whether JOIN has asked for a resync, an unmuting that waits, digests by frame, peers
that are owed a full resync, whether cues wait for a latch after a disable, how many of the last digests compared have matched in a row,
the serial of the rank 0 that a standby follows, and whether SAG_WARN has demoted the unit. -/
structure RooSt where
  starts : Nat
  messages : Nat
  lastTx : List (Nat × Nat)
  mseqs : List (Nat × Nat)
  peers : List (Nat × PeerSt)
  leaseEnd : Option Nat
  leaseReqs : List (Nat × Nat)
  requestNo : Nat
  nextHeartbeat : Option Nat
  nextLeaseReq : Option Nat
  entries : List CueEntry
  held : List CueEntry
  epochs : List EpochSt
  appliedLsn : Nat
  closing : Option EpochSt
  bulk : List BulkSt
  bulkNumber : Nat
  joinSince : Option Nat
  joinAsked : Bool
  lagSince : Option Nat
  demotedAt : Option Nat
  unmuteWaits : Bool
  digests : List (Nat × Nat × Nat)
  resyncs : List Nat
  cueGate : Bool
  matchRun : Option Nat
  zero : Option Nat
  sagged : Bool
  deriving DecidableEq, Repr

/-- Where a transmitted frame comes from (R361). A host frame names its ring, first descriptor index and count, and whether a timestamp is
asked for (R355). `cover` is the sync packet that covers data, and that a sync packet is: 1 sACN, 2 APT, 0 none (R252). A Roost message
has the rank 0, 1 where it carries bulk data, or 2 where it carries an update (R425, R523). -/
inductive TxKind where
  | host (ring first count : Nat) (timestamp : Bool)
  | data (segment endpoint cover : Nat)
  | sync (segment cover : Nat)
  | ptpOneStep
  | ptpEvent
  | ptpGeneral
  | roost (rank : Nat)
  | poll
  | echo (segment seq : Nat)
  | supervision
  | mka
  deriving DecidableEq, Repr

/-- What a packet of the emission engine counts for as it leaves (R252, R284): the F of its frame, whether it is a change packet, its sACN
universe, and whether it still counts in EMI_SENT, which the first copy on a pair does. -/
structure EmitTag where
  f : Nat
  change : Bool
  univ : Option (Nat × Nat)
  counts : Bool
  deriving DecidableEq, Repr

/-- A frame that waits at a port: destination address through payload, launch instant in extended device time, tag to insert,
PRP sequence number, whether a word of it was POISON, the bytes and timestamp of the other copy when that has left (R355, R361, R366, R373),
whether a pair's other port has no copy of it (R352), and what it counts for in the emission engine. An untimed frame's instant is its
arrival. -/
structure TxFrame where
  kind : TxKind
  bytes : Bytes
  express : Bool
  launch : Option Nat
  tci : Option Nat
  prpSeq : Option Nat
  poison : Bool
  done : Option (Nat × Nat)
  alone : Bool := false
  emission : Option EmitTag := none
  deriving DecidableEq, Repr

/-- A frame in a receive FIFO, after its checks (R348, R356): bytes without FCS, length L, timestamp, the SA's AN when MACsec
verified it, whether an RCT was removed, whether it came on LAN B, the TCI of a removed tag, and its claim. -/
structure RxFrame where
  bytes : Bytes
  length : Nat
  time : Nat
  an : Option Nat
  prp : Bool
  lanB : Bool
  tci : Option Nat
  claim : Nat
  deriving DecidableEq, Repr

/-- A duplicate-discard entry (R374): source address, sequence number, LAN (0 A, 1 B) and when it was stored. -/
structure PrpEntry where
  source : Nat
  seq : Nat
  lan : Nat
  stored : Nat
  deriving DecidableEq, Repr

/-- A preemptable frame that a port sends as mPackets (R362, R363): what is left of it from the start of the mPacket on the wire, or of
the next one while it is suspended; whether its last CRC is inverted; its frame count, how many mPackets came before, and when the one
on the wire started, by the oscillator. -/
structure MPacketSt where
  data : Bytes
  badFcs : Bool
  count : Nat
  index : Nat
  began : Nat
  suspended : Bool
  deriving DecidableEq, Repr

/-- A MAC port beside its registers (R348-R382): the speed and FEC in effect; its receive FIFO and transmit queue; until when the wire
is busy (by the oscillator), the frame it sends as mPackets, and the next frame count; the quanta of a PAUSE frame that waits, whether
the fill stands between HIGH and LOW, and when the PAUSE is due again; until when a received PAUSE holds; verification attempts and
when the next is due; when supervision is next due and its number; the pair's sequence number and duplicate table; a disable in
progress; whose turn it is among the host's rings; and until when a protected frame is in the MACsec engine, by the oscillator (R379). -/
structure MacSt where
  speed : Nat
  fec : Nat
  rx : List RxFrame
  tx : List TxFrame
  wireUntil : Nat
  cut : Option MPacketSt
  frames : Nat
  pause : Option Nat
  pauseHigh : Bool
  pauseAt : Nat
  holdUntil : Option Nat
  verifyTries : Nat
  nextVerify : Option Nat
  nextSupervision : Option Nat
  supSeq : Nat
  prpNext : Nat
  prpTable : List PrpEntry
  disabling : Bool
  turn : Nat
  engine : Nat
  deriving DecidableEq, Repr

/-- A secure association: AN, next PN on transmit or lowest acceptable PN on receive, and whether MSC_PN_HIGH has been raised
(R377, R378). -/
structure SaSt where
  an : Nat
  pn : Nat
  high : Bool
  deriving DecidableEq, Repr

/-- A receive secure channel (R376). -/
structure RxScSt where
  sci : Nat
  sas : List SaSt
  deriving DecidableEq, Repr

/-- A MACsec engine beside its registers (R376-R379): its transmit SAs and receive channels. -/
structure MscSt where
  tx : List SaSt
  rx : List RxScSt
  deriving DecidableEq, Repr

/-- A 64-byte cache line (R152, R157, R162): its bytes, whether it is dirty, and which of its words are POISON. -/
structure LineSt where
  data : Bytes
  dirty : Bool
  poison : List Nat
  deriving DecidableEq, Repr

/-- A task on a core (R163, R170, R171): its word, when it was dispatched, and whether its overrun has been raised. -/
structure TaskSt where
  word : Nat
  start : Nat
  overrun : Bool
  deriving DecidableEq, Repr

/-- A Hawk core beside its registers (R152-R173): program counter, integer and floating registers, CSRs, privilege, its control
page, its task, a NEXT load that waits, a record that waits, the bound of a disable, the lines of its L1 data cache and of its L1
instruction cache, and the line that a load-reserved holds (log 13). -/
structure HawkSt where
  pc : Nat
  xregs : List Nat
  fregs : List Nat
  csrs : List (Nat × Nat)
  machineMode : Bool
  postres : Nat
  cmoBase : Nat
  mtimecmp : Nat
  mtip : Bool
  msip : Bool
  task : Option TaskSt
  waits : Bool
  record : Option (Nat × Nat)
  stopBy : Option Nat
  lines : List (Nat × Option LineSt)
  ilines : List (Nat × Option LineSt)
  reserved : Option Nat
  deriving DecidableEq, Repr

/-- The task scheduler beside its registers (R164-R174): ready queues, when each head became head, the recorded core of each
FUNC, completion records that wait for room and belong to no core, tasks cancelled by a disable, by queue and by the scheduler's own,
and the queues for which a source is held. -/
structure TskSt where
  ready : List (Nat × List Nat)
  headSince : List (Nat × Nat)
  affinity : List (Nat × Option Nat)
  records : List (Nat × Nat)
  cancelled : List (Nat × Nat)
  cancelledAll : Nat
  heldQueues : List Nat
  deriving DecidableEq, Repr

/-- A commit in the OTU's queue (R331): its word, its scheduled release instant in ns of extended device time, and when it
arrived. -/
structure CommitSt where
  word : Nat
  sched : Int
  arrival : Nat
  deriving DecidableEq, Repr

/-- How far a frame has come (R326-R339): its composite runs, it is complete in the back buffer, it stands swapped into the
front buffer, it missed its deadline, or it is a transition frame, before and after its deadline. -/
inductive FramePhase where
  | compositing | complete | swapped | missed | held | transition
  deriving DecidableEq, Repr

/-- A frame of the output (R326, R327, R343): number, deadline and apex in ns of extended device time, apex position, phase,
whether it is packed from the safe look, the endpoint and fixture type tables it was composited from, and the band of each thermal
model then (R221, R244, R308). -/
structure FrameSt where
  number : Nat
  deadline : Nat
  apex : Nat
  pos : Int
  phase : FramePhase
  safe : Bool
  table : Nat
  count : Nat
  ftab : Nat
  ftStat : List Nat
  bands : List (Nat × Nat)
  deriving DecidableEq, Repr

/-- The output timing unit beside its registers (R325-R345): the last fixed apexes with their positions, newest first; frames that have
been latched, newest first; the next frame to latch; queued commits in order of arrival; the last latch, its TIME cycle by the oscillator,
and the last apex that has passed; the SAFE_N pin with its filter; the latched request; when RATE_RANGE was last raised; whether a disable
runs; and whether a frame has been completed into the front buffer since the output started (R339). -/
structure OtuSt where
  chain : List (Nat × Int)
  frames : List FrameSt
  next : Nat
  commits : List CommitSt
  lastLatch : Option Nat
  latchedAt : Option Nat
  lastApex : Option Nat
  safePin : Bool
  safeSince : Option Nat
  safeFiltered : Bool
  safeLatched : Bool
  rangeAt : Option Nat
  stopping : Bool
  frontDone : Bool
  deriving DecidableEq, Repr

/-- The buffer a composite takes from a video input (R38, R202): base, size, transfer and matrix. -/
structure VideoTake where
  base : Nat
  width : Nat
  height : Nat
  transfer : Nat
  matrix : Nat
  deriving DecidableEq, Repr

/-- A tile in a pipeline's tile cache (R197, R214): pipeline, surface (descriptor index, or 1,024 and up for a video input),
tile index, the GEN the descriptor held at the fetch, the codes of its 256 pixels (none when it is malformed), and the pixels
that need a POISON word. -/
structure TileSt where
  pipe : Nat
  surface : Nat
  tile : Nat
  gen : Nat
  codes : Option (List (List Nat))
  bad : List Nat
  deriving DecidableEq, Repr

/-- A bin matrix record in the Scale unit's cache (R225, R240): its address, its words M0-M11, and whether a word of it is POISON. -/
structure MatrixSt where
  addr : Nat
  words : List Int
  bad : Bool
  deriving DecidableEq, Repr

/-- A dimming curve in the Scale unit's cache (R226, R240): its address, its 257 entries, and the addresses of those in a POISON
word. -/
structure CurveSt where
  addr : Nat
  entries : List Nat
  bad : List Nat
  deriving DecidableEq, Repr

/-- A composite in progress (R213-R215): frame number, N of the dither rule, its start in the oscillator's time, the cursor
(endpoint and pixel), what has been raised once for the frame, and sums for the frame's end. -/
structure CompositeSt where
  frame : Nat
  n : Nat
  start : Nat
  ept : Nat
  pixel : Nat
  pixels : Nat
  seen : List Nat
  clamps : Nat
  stalls : Nat
  deriving DecidableEq, Repr

/-- The last write of a NEXT register of R201, R221 or R244, or of EPT_COUNT_NEXT: its TIME cycle by the oscillator, the base and count that
were pending before that cycle, and whether a base was written in it. -/
structure NextSt where
  at_ : Nat
  before : Option (Nat × Nat)
  again : Bool
  deriving DecidableEq, Repr

/-- The pixel pipelines and the Scale unit beside their registers (R188-R240): the last writes of the NEXT registers (0 layers, 1 fixture
types, 2 lamps, 3 endpoints), shadow descriptor words, the current layer records (none
when disabled), the descriptors they name as they stood at composite start, inputs taken, thermal models as they stood then (TH and band
word), the composite, tile caches, the Scale unit's matrix and curve caches, oldest first, whether the front buffer holds a frame since
the last enable, whether a lamp array is current, and the crossfade length in force. -/
structure PixSt where
  nexts : List (Nat × NextSt)
  shadow : List (Nat × Nat)
  layers : List (Option (List Nat))
  surfaces : List (Nat × List Nat)
  inputs : List (Nat × VideoTake)
  models : List (Nat × (Nat × Nat))
  composite : Option CompositeSt
  tiles : List TileSt
  matrices : List MatrixSt
  curves : List CurveSt
  frontValid : Bool
  lampCurrent : Bool
  xfade : Nat
  deriving DecidableEq, Repr

/-- A video buffer (R387): nothing, a frame being written, or a complete frame with its count. -/
inductive VinBuf where
  | empty
  | writing
  | complete (count : Nat)
  deriving DecidableEq, Repr

/-- A video input beside its registers (R386-R393): its two buffers, the ones a composite holds, those whose frame a composite
has taken, buffers to be emptied at the deadline, when its last frame started, whether the frame being written was predicted to
complete in time, when the last complete frame was performed (oscillator time), how many frames of one format have come in a row,
when VIN_FORMAT_BAD was last raised, and when its disable began (oscillator time). -/
structure VinSt where
  buf0 : VinBuf
  buf1 : VinBuf
  held : List Nat
  taken : List Nat
  emptyLater : List Nat
  started : Option Nat
  predicted : Bool
  doneAt : Option Nat
  run : Nat × Nat
  badAt : Option Nat
  disabledAt : Nat
  deriving DecidableEq, Repr

/-- A flow entry beside its registers (R392-R394): the next sequence number, whether the frame being received has a gap or its
start has not been seen, and whether a frame is being received. -/
structure FlowSt where
  seq : Option Nat
  gap : Bool
  inFrame : Bool
  deriving DecidableEq, Repr

/-- The metre tracker beside its registers (R397-R399): onsets of the last 8 s, the last predicted beats matched or not, newest
first, the period in ns, the next predicted beat, taps of the current series, newest first, beats emitted in COAST, the last beat
emitted, beats in a row below CONF_MIN, the newest sample of each selected channel, and when their sum last stood at or above GATE. -/
structure TrkSt where
  onsets : List Nat
  matched : List Bool
  period : Nat
  next : Option Nat
  taps : List Nat
  coast : Nat
  last : Option Nat
  low : Nat
  levels : List (Nat × Int)
  loudAt : Nat
  deriving DecidableEq, Repr

/-- The LTC input beside its registers (R400): the last valid word's count, how many valid words have come in sequence, and when
the last one ended. -/
structure LtcSt where
  count : Option Nat
  run : Nat
  last : Nat
  deriving DecidableEq, Repr

/-- What a packet of a frame carries (R250, R257, R259, R271, R308): a universe of a segment or its sync packet, packet `k` of a
node table entry's stream or the sync packet of a segment's group, a DMX port's packet, or DATA frame `k` of a Wingbeat node. -/
inductive PacketKind where
  | sacn (seg univ : Nat)
  | sacnSync (seg : Nat)
  | apt (seg node k : Nat)
  | aptSync (seg : Nat)
  | dmx (port : Nat)
  | wing (port node k : Nat)
  deriving DecidableEq, Repr

/-- A packet of a frame (R250, R251): its endpoints with the emitters of each, the first pixel or slot and how many it carries,
APPLY as sent (0 ARRIVAL, 1 SYNC, 2 TIMED), launch instant in ns of extended device time, place at one instant (R252), and, once
packed, where it lies in the packet buffer. -/
structure PacketSt where
  kind : PacketKind
  parts : List (Nat × Nat)
  first : Nat
  count : Nat
  apply : Nat
  launch : Nat
  order : Nat
  packed : Option (Nat × Nat)
  deriving DecidableEq, Repr

/-- A Wingbeat port's part in a frame (R306-R309, R339, R488): Lmax_p in symbol times, HOLD of each node, whether it sends DATA,
the LATCH's REPEAT and STALE, whether LATCH has been sent, whether it trains, and the nodes whose DATA makes up for a DIAG (R318). -/
structure WingFrameSt where
  port : Nat
  lmax : Nat
  holds : List (Nat × Nat)
  data : Bool
  rep : Bool
  stale : Bool
  latched : Bool
  training : Bool
  owed : List Nat
  deriving DecidableEq, Repr

/-- A frame in emission (R248-R253, R427, R428, R475): its OTU frame, F, F_N and A_N, what it is packed from, the bits REPEAT and
STALE, whether it is not sent at all, its first launch, its packets in launch order, APT stream lengths, bytes used in its half,
packets packed late, what it has raised, endpoints emitted, model sums, clamps with their endpoints, its universes and those sent,
its Wingbeat ports, whether its digest and sums are closed, and the largest lateness of a change packet so far (R252). -/
structure EmiFrameSt where
  frame : FrameSt
  f : Nat
  first : Nat
  base : Nat
  rep : Bool
  stale : Bool
  suppressed : Bool
  launched : Bool
  packets : List PacketSt
  streams : List (Nat × Nat)
  used : Nat
  late : Nat
  raised : List Nat
  emitted : List (Nat × Nat)
  sums : List (Nat × List Nat)
  clamps : Nat
  clampFirst : Nat
  clampEpts : List Nat
  univs : List (Nat × Nat)
  sent : List (Nat × Nat)
  wings : List WingFrameSt
  closed : Bool
  skew : Nat
  deriving DecidableEq, Repr

/-- Stream_Terminated packets still to be sent for a universe (R257): how many, and when the next is due. -/
structure TermSt where
  seg : Nat
  univ : Nat
  left : Nat
  at_ : Nat
  deriving DecidableEq, Repr

/-- A segment's poll round (R260, R267): POLLs and ECHO_REQs sent, when the next POLL is due, and the entries that replied. -/
structure PollSt where
  polls : Nat
  echoes : Nat
  next : Option Nat
  replied : List Nat
  deriving DecidableEq, Repr

/-- An ECHO_REQ whose response may still come (R265, R268, R375): segment, SEQ, node entry, and its transmit timestamps on LAN A, or on a
port without a pair, and on LAN B. -/
structure EchoSt where
  seg : Nat
  seq : Nat
  node : Nat
  sentA : Option Nat
  sentB : Option Nat
  deriving DecidableEq, Repr

/-- The emission engine beside its registers: frames in emission, oldest first; universes of the last frame; terminations;
poll rounds; when universe discovery is next due by segment; echoes outstanding, when each entry is next echoed, the F of the
last completed frame (R252), and the segments that stop at the next first launch (R279). -/
structure EmiSt where
  frames : List EmiFrameSt
  univs : List (Nat × Nat)
  terms : List TermSt
  polls : List (Nat × PollSt)
  udisc : List (Nat × Nat)
  echoes : List EchoSt
  nextEcho : List (Nat × Nat)
  doneF : Option Nat
  stopping : List Nat
  deriving DecidableEq, Repr

/-- A REQ whose RSP is awaited (R316): node, kind, tag, when its SOF left by the oscillator, the ring and descriptor of a
WNG_QUERY with its host buffer. -/
structure WingReqSt where
  node : Nat
  kind : Nat
  tag : Nat
  sent : Nat
  query : Option (Nat × Nat)
  deriving DecidableEq, Repr

/-- A WNG_ENUM in progress (R319): ring, descriptor, its MODE, when it completes, replies, highest position. -/
structure WingEnumSt where
  ring : Nat
  index : Nat
  mode : Nat
  until_ : Nat
  replies : Nat
  highest : Nat
  deriving DecidableEq, Repr

/-- A Wingbeat port beside its registers (R286-R324): when its last frame started and when its line is free, by the oscillator; requests
outstanding; when STATUS, ECHO and CHECK are next due; nodes that are to be sent SCAN and when each last was; a WNG_ENUM; the next tag;
the last Lmax_p and HOLDs; SIDESW of each node as last reported; nodes whose STATUS has come since the last thermal update; the nodes that
a LATCH without DATA left without their DIAG (R318); the period its profiles were computed for; and the de-emphasis setting in force. -/
structure WingSt where
  last : Option Nat
  free : Nat
  reqs : List WingReqSt
  nextStat : List (Nat × Nat)
  nextEcho : List (Nat × Nat)
  nextEnum : Option Nat
  scanDue : List Nat
  scanned : List (Nat × Nat)
  enums : List WingEnumSt
  tag : Nat
  lmax : Nat
  holds : List (Nat × Nat)
  sides : List (Nat × Nat)
  fresh : List Nat
  owed : List Nat
  period : Nat
  setting : Nat
  deriving DecidableEq, Repr

/-- An RDM request in a port's queue (R274): its descriptor, its bytes without checksum, the retries left, and whether it has been sent
before. -/
structure RdmReqSt where
  ring : Nat
  index : Nat
  data : Bytes
  retries : Nat
  begun : Bool
  deriving DecidableEq, Repr

/-- A discovery pass (R276): the DMX_DISCOVER that runs it (none for an incremental pass), whether the un-mute has been sent,
present UIDs still to be muted, ranges still to be searched, a UID found that is to be muted, and new UIDs counted. -/
structure DiscSt where
  desc : Option (Nat × Nat)
  unmute : Bool
  known : List Nat
  ranges : List (Nat × Nat)
  found : Option Nat
  fresh : Nat
  deriving DecidableEq, Repr

/-- What a DMX port awaits a response to (R273): the request at the head of its queue, or a discovery step. -/
inductive DmxWait where
  | rdm
  | disc
  deriving DecidableEq, Repr

/-- A DMX port beside its registers (R270-R280): when its line is free and when its last break started (ns of extended device
time), queued requests, a discovery pass and when the next incremental one is due, what it awaits and by when, since when a
transaction has waited for a gap, whether its next packet is skipped, and the transaction number. -/
structure DmxSt where
  free : Nat
  lastBreak : Option Nat
  queue : List RdmReqSt
  disc : List DiscSt
  nextDisc : Option Nat
  waits : Option DmxWait
  waitUntil : Nat
  since : Option Nat
  skip : Bool
  tn : Nat
  driven : Bool
  deriving DecidableEq, Repr

/-- A CAL_RUN that runs (R484-R490): ring, descriptor, kind, whether it steps gradually, target block and instance, its start by
the oscillator and its begin in device time, the training frame of a Wingbeat target, settings as they were, and what training has found:
nothing, or the setting chosen and its errors. -/
structure CalRunSt where
  ring : Nat
  index : Nat
  kind : Nat
  gradual : Bool
  tblock : Nat
  tinst : Nat
  start : Nat
  startNow : Nat
  trained : Bool
  setting : Nat
  result : Option (Option (Nat × Nat)) := none
  deriving DecidableEq, Repr

/-- A CAL_RUN that has started and waits for the one that runs (R485): ring, descriptor, its word 0, and its start by the oscillator. -/
structure CalWait where
  ring : Nat
  index : Nat
  word : Nat
  start : Nat
  deriving DecidableEq, Repr

/-- Self-calibration (R483-R490): the run, whose `ring` is 64 for the oscillator's own and 65 for one that the host has forgotten; CAL_RUNs
that wait; the corrections not
yet applied and whether a latch applies them whole; those in force; when GRADUAL next steps while output
stands still; and when the oscillator's own run last began (R483). -/
structure SelfCalSt where
  run : Option CalRunSt
  waiting : List CalWait
  deltas : List Int
  whole : Bool
  applied : List Int
  next : Option Nat
  autoLast : Option Nat
  deriving DecidableEq, Repr

/-- A sensor's record beside its registers (R466, R467): the predictions M_r of the updates since its reading last changed, newest
first, 2,000 at most; consecutive deviating updates; updates without a cause; when it failed, and the estimate before that. -/
structure SensorSt where
  same : List Int
  deviating : Nat
  pass : Nat
  failed : Option Nat
  before : Int
  deriving DecidableEq, Repr

/-- The thermal model beside its registers (R464-R481): the baseline in 2^-16 °C, updates since the start, when the next is due,
consecutive updates at or above DLIM, below its release level, and at or above TRIP, the lowest DTH of the condition, sensors, when
each model last raised NODE_THROTTLE, and the models whose counted candidates lie below their band (R478). -/
structure ThmSt where
  baseline : Option Int
  updates : Nat
  next : Nat
  hotRun : Nat
  coolRun : Nat
  tripRun : Nat
  lowest : Nat
  sensors : List (Nat × SensorSt)
  throttled : List (Nat × Nat)
  below : List Nat
  deriving DecidableEq, Repr

/-- Where the part stands between starts (R442): powered, Dormant, Cocoon pending, or Cocoon. -/
inductive PwrMode where
  | on
  | dormant
  | cocoonPending
  | cocoon
  deriving DecidableEq, Repr

/-- A start in progress (R554-R557): its cause, when it began, whether it is cold, whether the store is kept, and whether it ends in
recovery mode. -/
structure StartSt where
  cause : Nat
  began : Nat
  cold : Bool
  kept : Bool
  recovery : Bool
  bist : List BistDie
  deriving DecidableEq, Repr

/-- Power and the keep domain beside their registers (R442-R461, R482, R538, R543, R556-R562): mode; the cause for which every domain
except KEEP is held in reset, since when, and whether that reset has been released; the start in progress; recovery mode; whether the keep
domain has held since the last start; the failed-boot and start counts; whether VSTORE has fallen; lost reference clocks; blocks stopped
for Idle; TESTMODE; the lowest rail level of a sag; VCORE as commanded, whether Chrysalis has stopped adjusting it, and when it next may;
the RTC's fraction in 2^-16 cycle, the correction c it holds and the cycles of its present second; SUPPLY_OFF; the requesters whose alive
signal a stop has lowered; the time group as Antenna's stop left it; and the level of the rail in mV as VMON last read it. -/
structure PwrSt where
  mode : PwrMode
  held : Option Nat
  heldAt : Nat
  released : Bool
  starting : Option StartSt
  recovery : Bool
  keepOk : Bool
  failedBoots : Nat
  starts : Nat
  vstoreFell : Bool
  lostClocks : List Nat
  idle : List Nat
  testmode : Bool
  sagLow : Nat
  vcore : Nat
  avsStopped : Bool
  avsNext : Nat
  rtcFrac : Int
  rtcC : Int
  rtcCycles : Nat
  supplyOff : Bool
  lowered : List Nat
  stoppedTime : Option TimeSt
  rail : Nat
  deriving DecidableEq, Repr

/-- A log entry (R525). -/
structure LogEntry where
  seq : Nat
  rtc : Nat
  time : Nat
  code : Nat
  cls : Nat
  data : Bytes
  deriving DecidableEq, Repr

/-- A staging session (R521): ID, source (1 mailbox, 2 service port, 3 Silk), LENGTH, DIG, when its last request completed, and the
flags of an UPDATE OPEN (R523). -/
structure SessionSt where
  id : Nat
  source : Nat
  length : Nat
  digest : Bytes
  idleSince : Nat
  reboot : Bool
  autoEclose : Bool
  deriving DecidableEq, Repr

/-- A request to Chrysalis (R499, R500, R524): whether it came over the service port, its word's fields, its parameters, and where
its reply goes. -/
structure ChyReq where
  svc : Bool
  src : Nat
  op : Nat
  tag : Nat
  blk : Nat
  params : Bytes
  rpOfs : Nat
  rpCap : Nat
  deriving DecidableEq, Repr

/-- A peer of a PUSH (R523): serial, bytes sent and bytes acknowledged, whether COMMIT has been sent, and its final status. -/
structure PushPeer where
  serial : Nat
  opened : Bool
  sent : Nat
  acked : Nat
  committing : Bool
  status : Option Nat
  deriving DecidableEq, Repr

/-- A PUSH in progress (R523): the image, the flags of OPEN and the peers. -/
structure PushSt where
  image : Bytes
  flags : Nat
  peers : List PushPeer
  deriving DecidableEq, Repr

/-- MKA on a port (R508): live peers as SCI, key server priority and when last heard; the AN of the last SAK; and when the next
MKPDU is due. -/
structure MkaSt where
  peers : List (Nat × Nat × Nat)
  an : Option Nat
  nextHello : Nat
  deriving DecidableEq, Repr

/-- Chrysalis beside its registers (R495-R528): owner key slots as hash and revoke bit, revoked vendor keys; the images in the eclosed and
the staging slot; the session; whether a candidate ecloses itself; the Roost keys with the end of the old one's grace; CAKs by port; the
challenge and when it was made; the retained log, entries of it not yet in flash, the flash log, when the host last logged; settings of
the running and of the other area; service-port requests with the mailbox words ahead of each; the request in execution; a restart in
progress with its cause and start, and the times of the last ones; when the start was, whether the eclosion window is open, since when
READY has been shown in MEMBER; MKA by port; a PUSH; notices held until HST is up; the highest debug level since cold start; whether an
update restart is due (R523); and its SRAM: the words written since the start, the words of the locked code region, and the digest of the
image they were loaded from (R495). -/
structure ChySt where
  owners : List (Nat × (Bytes × Bool))
  vendorRevoked : List Nat
  eclosed : Bytes
  staged : Bytes
  session : Option SessionSt
  autoEclose : Bool
  rooActive : Option Bytes
  rooPending : Option Bytes
  rooOld : Option (Bytes × Nat)
  caks : List (Nat × Bytes)
  challenge : Option (Bytes × Nat)
  log : List LogEntry
  unflushed : Nat
  flash : List LogEntry
  hostTimes : List Nat
  settings : List (Nat × Bytes)
  otherSettings : List (Nat × Bytes)
  svc : List (Nat × ChyReq)
  current : Option ChyReq
  restart : Option (Nat × Nat)
  restartTimes : List Nat
  startAt : Nat
  windowOpen : Bool
  readySince : Option Nat
  mka : List (Nat × MkaSt)
  push : Option PushSt
  held : List (Nat × Nat × List Nat)
  debugSeen : Nat
  reboot : Bool
  sram : List (Nat × Option Word)
  codeWords : Nat
  codeDigest : Nat
  deriving DecidableEq, Repr

/-- The boundary-scan port (R550): the instruction register and the boundary register's update stage. -/
structure JtagSt where
  ir : Nat
  boundary : Nat
  deriving DecidableEq, Repr

end Sys2Proof.Machine
end

