-- ==== Sys2Proof/Machine/State.lean ====
section
/-! DEFINITION. The state of the Oldoax as plain data, its reset value, and the reasons a command can stop. -/
namespace Sys2Proof.Machine

/-- The reasons a command faults. -/
inductive Fault where
  /-- A BAR2 access outside the 512 MiB store window (R80, R117): raised by BAR2_WRITE and BAR2_READ; the address does not
  exist. Safe: the model stops where the part has no such address. -/
  | storeRange
  deriving DecidableEq, Repr

/-- The reasons a command is refused. -/
inductive Refusal where
  /-- The command has no meaning yet: raised by Machine/Dispatch.lean alone. Safe: the model stops. -/
  | notModelled (mnemonic : String)
  /-- Chrysalis writes a private device, or reaches past its boot ROM or SRAM, where the spec does not say what is there (R498): raised by
  execRegisterWrite and execLoReadLatch. Safe: the model stops. -/
  | chyUnstated
  deriving DecidableEq, Repr

/-- The Oldoax: everything the spec gives it, and the commands that wait. -/
structure State where
  regs : List (Nat × Word)
  latches : List (Nat × Option Word)
  time : TimeSt
  ant : AntSt
  ctxs : List (Nat × CtxSt)
  refs : List (Nat × RefSt)
  cal : CalSt
  pulses : List (Nat × PulseSt)
  gpis : List (Nat × GpiSt)
  otu : OtuSt
  emi : EmiSt
  wings : List (Nat × WingSt)
  dmxs : List (Nat × DmxSt)
  selfCal : SelfCalSt
  pix : PixSt
  vins : List (Nat × VinSt)
  flows : List (Nat × FlowSt)
  trk : TrkSt
  ltc : LtcSt
  aesHeard : List (Nat × Nat)
  host : HostSt
  store : StoreSt
  arb : ArbSt
  sealedRegions : List (Nat × Nat)
  roo : RooSt
  macs : List (Nat × MacSt)
  mscs : List (Nat × MscSt)
  hawks : List (Nat × HawkSt)
  l2 : List (Nat × Option LineSt)
  tsk : TskSt
  queues : List (Nat × List Nat)
  queuePops : List (Nat × Option Nat)
  thm : ThmSt
  pwr : PwrSt
  chy : ChySt
  jtag : JtagSt
  off : List Nat
  out : List Output
  fresh : Nat
  pending : List Instr
  deriving DecidableEq, Repr

/-- Antenna at reset: no source heard, no master known (R45, R53). -/
def antReset : AntSt :=
  { rates := [], lockRun := 0, unlockRun := 0, needRef := false, dwellUntil := none, integral := 0, lastUpdate := none,
    sources := [],
    ptp := { sync := none, lastDelay := none, delaySeq := 0, delayOpen := none, syncSeq := 0, announceSeq := 0, best := none,
             lastAnnounce := none, nextSync := none, nextAnnounce := none } }

/-- The host interface at reset (R79, R81): memory requests and MSI-X off, every ring idle. -/
def hostReset : HostSt :=
  { classCode := 0x048000, aer := 0, bme := false, msixEnable := false, functionMask := false, relaxed := true, d3hot := false,
    control := { maxPayload := 0, maxRead := 2, tags10 := false, ecrcGen := false, ecrcCheck := false, timeout := 0 },
    inReset := false, vectors := [], pendingBits := [], rings := [], turn := 0, dma := [] }

/-- The store at reset: every byte 0, left by the cold-start BIST (R557), no error, every die in service. -/
def storeReset : StoreSt :=
  { bytes := [], marks := [], ueTimes := [], scrubPasses := [], nextScrub := [], powered := true }

/-- The Roost at reset: OFF, no peer known (R418). -/
def rooReset : RooSt :=
  { starts := 0, messages := 0, lastTx := [], mseqs := [], peers := [], leaseEnd := none, leaseReqs := [], requestNo := 0,
    nextHeartbeat := none, nextLeaseReq := none, entries := [], held := [], epochs := [], appliedLsn := 0, closing := none,
    bulk := [], bulkNumber := 0, joinSince := none, joinAsked := false, lagSince := none, demotedAt := none, unmuteWaits := false,
    digests := [], resyncs := [], cueGate := false, matchRun := none, zero := none, sagged := false }

/-- The output timing unit at reset: stopped, SAFE_N released (R347). -/
def otuReset : OtuSt :=
  { chain := [], frames := [], next := 0, commits := [], lastLatch := none, latchedAt := none, lastApex := none, safePin := false, safeSince := none,
    safeFiltered := false, safeLatched := false, rangeAt := none, stopping := false, frontDone := false }

/-- The emission engine at reset: nothing in emission (R284). -/
def emiReset : EmiSt :=
  { frames := [], univs := [], terms := [], polls := [], udisc := [], echoes := [], nextEcho := [], doneF := none,
    stopping := [] }

/-- The metre tracker at reset: nothing heard (R407). -/
def trkReset : TrkSt :=
  { onsets := [], matched := [], period := 0, next := none, taps := [], coast := 0, last := none, low := 0, levels := [], loudAt := 0 }

/-- The thermal model at reset: no update made (R464). -/
def thmReset : ThmSt :=
  { baseline := none, updates := 0, next := 0, hotRun := 0, coolRun := 0, tripRun := 0, lowest := 0x8000, sensors := [],
    throttled := [], below := [] }

/-- Power and the keep domain at reset: ready, in Run (R442, R538). -/
def pwrReset : PwrSt :=
  { mode := .on, held := none, heldAt := 0, released := false, starting := none, recovery := false, keepOk := true, failedBoots := 0,
    starts := 1, vstoreFell := false, lostClocks := [], idle := [], testmode := false, sagLow := 0xFFFF, vcore := 800,
    avsStopped := false, avsNext := 0, rtcFrac := 0, rtcC := 0, rtcCycles := 32768, supplyOff := false, lowered := [], stoppedTime := none, rail := 12000 }

/-- Chrysalis at reset: as shipped, with nothing staged, installed or logged (R504; log 1, log 4). -/
def chyReset : ChySt :=
  { owners := [], vendorRevoked := [], eclosed := [], staged := [], session := none, autoEclose := false, rooActive := none,
    rooPending := none, rooOld := none, caks := [], challenge := none, log := [], unflushed := 0, flash := [], hostTimes := [],
    settings := [], otherSettings := [], svc := [], current := none, restart := none, restartTimes := [], startAt := 0,
    windowOpen := false, readySince := none, mka := [], push := none, held := [], debugSeen := 0, reboot := false, sram := [],
    codeWords := 0x10000, codeDigest := 0 }

/-- The pixel pipelines and the Scale unit at reset: idle, no table current (R218, R221, R243). -/
def pixReset : PixSt :=
  { nexts := [], shadow := [], layers := [], surfaces := [], inputs := [], models := [], composite := none, tiles := [], matrices := [],
    curves := [], frontValid := false, lampCurrent := false, xfade := 30 }

/-- The machine right after reset: ready after a cold start (R15, R555; log 4). Registers and tables list nothing, so each
reads as its reset value. -/
def State.reset : State :=
  { regs := [(0x200000, 1)]
    latches := []
    time := { acc := 0, elapsed := 0, rho := 0, rhoTarget := 0 }
    ant := antReset
    ctxs := []
    refs := []
    cal := { events := [], held := none, nextOrder := 0, lastOffer := none }
    pulses := []
    gpis := []
    otu := otuReset
    emi := emiReset
    wings := []
    dmxs := []
    selfCal := { run := none, waiting := [], deltas := [], whole := false, applied := [], next := none, autoLast := none }
    pix := pixReset
    vins := []
    flows := []
    trk := trkReset
    ltc := { count := none, run := 0, last := 0 }
    aesHeard := []
    host := hostReset
    store := storeReset
    arb := { ports := [], held := [], bursts := [], slots := [], locks := [], waiting := none }
    sealedRegions := []
    roo := rooReset
    macs := []
    mscs := []
    hawks := []
    l2 := []
    tsk := { ready := [], headSince := [], affinity := [], records := [], cancelled := [], cancelledAll := 0, heldQueues := [] }
    queues := []
    queuePops := []
    thm := thmReset
    pwr := pwrReset
    chy := chyReset
    jtag := { ir := 1, boundary := 0 }
    off := []
    out := []
    fresh := 0
    pending := [] }

end Sys2Proof.Machine
end

