-- ==== Sys2Proof/Machine/Ops.lean ====
section
/-! DEFINITION. The named operations every family shares: register fields, the passing of time, free values, output, vector
messages and notices (R14-R18, R41, R42, R81, R96-R103). -/
namespace Sys2Proof.Machine

/-- The answer of a meaning. -/
abbrev Answer := Host.Outcome State Fault Refusal

/-- The word of a register as it stands. -/
def State.word (s : State) (off : Nat) : Word := tblGet s.regs (regReset off) off

/-- A register with a new word. -/
def State.setWord (s : State) (off : Nat) (w : Word) : State := { s with regs := tblSet s.regs (regReset off) off w }

/-- A register field's value. -/
def State.rd (s : State) (f : Fld) : Nat := bitsOf (s.word f.off).toNat f.lsb f.width

/-- A register field with a new value; the register's other bits stay. -/
def State.wr (s : State) (f : Fld) (v : Nat) : State :=
  s.setWord f.off (BitVec.ofNat 32 (withBits (s.word f.off).toNat f.lsb f.width v))

/-- A one-bit field as a truth value. -/
def State.flag (s : State) (f : Fld) : Bool := s.rd f == 1

/-- A field that holds a truth value. -/
def State.setFlag (s : State) (f : Fld) (b : Bool) : State := s.wr f (b2n b)

/-- A saturating counter field, counted up by `n`. -/
def State.count (s : State) (f : Fld) (n : Nat) : State := s.wr f (satAdd f.width (s.rd f) n)

/-- A counter field that counts modulo its width. -/
def State.countMod (s : State) (f : Fld) (n : Nat) : State := s.wr f (s.rd f + n)

/-- A 64-bit quantity held in a _LO and a _HI register (R14). -/
def State.rd64 (s : State) (lo hi : Fld) : Nat := s.rd lo + 2 ^ 32 * s.rd hi

/-- A 64-bit quantity loaded into a _LO and a _HI register. -/
def State.wr64 (s : State) (lo hi : Fld) (v : Nat) : State := (s.wr lo v).wr hi (v / 2 ^ 32)

/-- Whether an output leaves by a pad that the latch of R453 or the boundary register holds: TIMEPULSE, DMX, LTC or AVS. -/
def Output.byPad : Output → Bool
  | .pin n _ _ => n != "SUPPLY_OFF"
  | .dmx .. | .ltc _ | .avs _ => true
  | _ => false

/-- Whether the pads are cut off from their blocks: latched (R454), or under EXTEST, CLAMP or HIGHZ (R550). -/
def State.padsCut (s : State) : Bool :=
  s.flag Reg.PWR_STAT_PADLATCH || s.jtag.ir == 0 || s.jtag.ir == 8 || s.jtag.ir == 9

/-- What the part sends, added after what it sent before; what a cut-off pad would carry does not leave. -/
def State.emit (s : State) (o : Output) : State := if o.byPad && s.padsCut then s else { s with out := s.out ++ [o] }

/-- A free value of 64 bits and the state with the counter advanced (log 2). -/
def State.free (s : State) : Nat × State := ((Config.freeValue s.fresh).toNat, { s with fresh := s.fresh + 1 })

/-- Whether a block's clock or power is off (R455). -/
def State.isOff (s : State) (block : Nat) : Bool := s.off.contains block

/-! ### Time -/

/-- ANT_RATE's rate correction, in 10^-12, from the finer rate the model slews (R42, R47). -/
def rateUnits (rho : Int) : Int := rho / (1000000 * 2 ^ 32)

/-- INC of R42: what the accumulator gains in one TIME cycle. -/
def timeInc (rho : Int) : Nat := (roundDiv ((2 * 2 ^ 32) * (10 ^ 12 + rateUnits rho)) (10 ^ 12)).toNat

/-- Extended device time in ns (R41) (log 73). -/
def State.now (s : State) : Nat := s.time.acc / 2 ^ 32

/-- Device time, the low 32 bits of it (R41). -/
def State.now32 (s : State) : Nat := s.now % 2 ^ 32

/-- The rate after `inc` (in 2^-32 ns) of device time in which it slews toward its target by at most ANT_SLEW ppb per second (R47). -/
def slewed (slew : Nat) (rho target : Int) (inc : Nat) : Int :=
  let d : Int := (slew * inc : Nat)
  if rho < target then min target (rho + d) else max target (rho - d)

def State.setTime (s : State) (x : TimeSt) : State := { s with time := x }

/-- The CORE cycles, of 1.6 GHz, in ns of the oscillator (R33). -/
def coreCycles (ns : Nat) : Nat := 8 * ns / 5

/-- What `n` TIME cycles at one rate do: the accumulator, the oscillator's time, CAL_HELD while a release is held, and the age
and wait of requests at arbiter ports, two STORE cycles each, and the CORE cycles for which a
ready queue's source is held (R33, R42, R67, R135, R186). ANT_RATE and ANT_NOW are read from the time group (log 117). -/
def State.cyclesAtRate (s : State) (n : Nat) : State :=
  let s := s.setTime { s.time with acc := (s.time.acc + n * timeInc s.time.rho) % 2 ^ 96, elapsed := s.time.elapsed + 2 * n }
  let s := if s.cal.held.isSome then s.count Reg.CAL_HELD n else s
  let waits := (List.range 57).filter (fun r => !(tblGet s.arb.ports [] r).isEmpty)
  let s := waits.foldl (fun s r => (s.count (Reg.ARB_REQ_STAT_AGE r) (2 * n)).count (Reg.ARB_REQ_WAIT r) (2 * n)) s
  let held := (List.range 16).filter (fun k => s.tsk.heldQueues.contains k)
  held.foldl (fun s k => s.count (Reg.TSK_Q_HELD k) (coreCycles s.time.elapsed - coreCycles (s.time.elapsed - 2 * n))) s

/-- One TIME cycle: the accumulator moves, then the rate slews (R42, R47). -/
def State.cycle (s : State) : State :=
  let inc := timeInc s.time.rho
  let s := s.cyclesAtRate 1
  s.setTime { s.time with rho := slewed (s.rd Reg.ANT_SLEW) s.time.rho s.time.rhoTarget inc }

/-- `n` TIME cycles, one by one. -/
def State.cyclesOneByOne : Nat → State → State
  | 0, s => s
  | n + 1, s => State.cyclesOneByOne n s.cycle

/-- `n` TIME cycles: at once while the rate stands at its target, one by one while it slews. -/
def State.cycles (s : State) (n : Nat) : State :=
  if s.time.rho = s.time.rhoTarget then s.cyclesAtRate n else State.cyclesOneByOne n s

/-- How many TIME cycles bring the accumulator to an instant, at a rate. -/
def cyclesTo (acc target inc : Nat) : Nat := if target ≤ acc then 0 else (target - acc + inc - 1) / inc

/-- At most `k` TIME cycles, one by one, until the accumulator stands at most `slack` of its increment short of a value. -/
def State.slewTo (target : Nat) (slack : Nat → Nat) : Nat → State → State
  | 0, s => s
  | k + 1, s => if target ≤ s.time.acc + slack (timeInc s.time.rho) then s else State.slewTo target slack k s.cycle

/-- Time passes until the accumulator stands at most `slack` of its increment short of a value: at once while the rate stands at its
target, and cycle by cycle while it slews. -/
def State.advance (s : State) (target : Nat) (slack : Nat → Nat) : State :=
  let inc := timeInc s.time.rho
  let n := cyclesTo s.time.acc (target - slack inc) inc
  if s.time.rho = s.time.rhoTarget then s.cyclesAtRate n else State.slewTo target slack (n + n / 1000 + 2) s

/-- Time passes until extended device time reaches `t` ns; nothing when it has passed already (log 3). -/
def State.until (s : State) (t : Nat) : State := s.advance (t * 2 ^ 32) (fun _ => 0)

/-- Time passes to the TIME cycle that holds an instant in ns: the last one that begins at or before it (R66). -/
def State.into (s : State) (t : Nat) : State := s.advance ((t + 1) * 2 ^ 32) id

/-- Time passes to the TIME cycle nearest to an instant in 2^-32 ns, the earlier of two as near (R71). -/
def State.nearest (s : State) (x : Nat) : State := s.advance x (· / 2)

/-- Time passes until the oscillator's time reaches `t` ns; nothing when it has passed already (log 3). -/
def State.untilElapsed (s : State) (t : Nat) : State := s.cycles ((t - s.time.elapsed + 1) / 2)

/-- How far the device time of a port, or of a domain without one, is from Antenna's, in ns: what calibration has applied counts (R35,
R370, R486). The delays are numbered as CAL_RUN_COMPLETE lists their corrections: 0-11 the domains in the order of R33, 12-21 the MAC
ports, 22-37 the Wingbeat ports (log 73). -/
def State.clockError (s : State) (dom port : Nat) : Int :=
  let k (i : Nat) : Int := Config.delayDrift i + s.selfCal.applied.getD i 0
  clampI (-4) 4 (k dom + k port)

/-- Device time as a port reads it at the last edge of its domain's clock, whose period is `num` / `den` ns (R35) (log 73). -/
def State.replica (s : State) (num den dom port : Nat) : Nat :=
  ((s.now : Int) - (s.time.elapsed * den % num / den : Nat) + s.clockError dom port).toNat

/-- Time passes until a port's device time reaches `t` ns: to about that instant, and then to its domain's next clock edge. -/
def State.untilReplica (s : State) (num den dom port t : Nat) : State :=
  let s := s.until ((t : Int) - s.clockError dom port).toNat
  let s := if s.replica num den dom port < t then s.cycle else s
  if s.replica num den dom port < t then s.cycle else s

/-! ### The host interface -/

/-- The state of a ring that nothing has used. -/
def ringIdle : RingSt :=
  { fetched := 0, descs := [], consumed := 0, seq := 0, lost := 0, lostFirst := 0, unsignalled := 0, oldest := none,
    disabling := false }

def State.ring (s : State) (n : Nat) : RingSt := tblGet s.host.rings ringIdle n

def State.setRing (s : State) (n : Nat) (r : RingSt) : State :=
  { s with host := { s.host with rings := tblSet s.host.rings ringIdle n r } }

/-- An MSI-X table entry after reset: masked, as PCI Express gives it (log 8). -/
def vectorIdle : VectorSt := { addr := 0, data := 0, masked := true }

def State.vector (s : State) (v : Nat) : VectorSt := tblGet s.host.vectors vectorIdle v

def State.setVector (s : State) (v : Nat) (x : VectorSt) : State :=
  { s with host := { s.host with vectors := tblSet s.host.vectors vectorIdle v x } }

/-- A list of numbers with one more, in order, without repeats. -/
def insertNat (k : Nat) : List Nat → List Nat
  | [] => [k]
  | a :: t => if k < a then k :: a :: t else if k = a then a :: t else a :: insertNat k t

/-- Whether the function takes memory requests: it is not held in reset, and not in D3hot (R79, R81) (log 130). -/
def State.barsUp (s : State) : Bool := !s.host.inReset && !s.host.d3hot

/-- Whether a request may leave the part: the link is up, the function is in D0 and Bus Master Enable is 1 (R79, R81, R102). -/
def State.busReady (s : State) : Bool := s.flag Reg.HST_STAT_LINK_UP && s.host.bme && s.barsUp

/-- Data is written to a host buffer; with relaxed ordering only where HST_CTRL.RO_DATA and Device Control permit it (R79). -/
def State.writeHost (s : State) (a : Nat) (b : Bytes) : State := s.emit (.hostData a b (s.flag Reg.HST_CTRL && s.host.relaxed))

/-- A ring number that no ring has: the ring of work whose descriptor a reset has discarded (R81). -/
def noRing : Nat := 65

/-- A raise of a vector (R102): a message, a pending bit while it is masked, and nothing when no message can be sent. -/
def State.sendVector (s : State) (v : Nat) : State :=
  if !(s.busReady && s.host.msixEnable) then s
  else if s.host.functionMask || (s.vector v).masked then
    { s with host := { s.host with pendingBits := insertNat v s.host.pendingBits } }
  else s.emit (.msix v (s.vector v).addr (s.vector v).data)

/-- A ring's size (R82). -/
def State.ringSize (s : State) (n : Nat) : Nat := 2 ^ s.rd (Reg.HST_RING_CFG_LOG2SIZE n)

/-- The PHASE bit of an index (R94). -/
def State.phase (s : State) (n idx : Nat) : Nat := 1 - bitsOf idx (s.rd (Reg.HST_RING_CFG_LOG2SIZE n)) 1

/-- The entries written to a ring: its written or completed index (R116). -/
def State.written (s : State) (n : Nat) : Nat := s.rd (Reg.HST_RING_STAT_COMPLETED n)

/-- The base of a ring's descriptor or notice area, 4 KiB aligned (R82, R116). -/
def State.ringBase (s : State) (n : Nat) : Nat :=
  s.rd64 (Reg.HST_RING_BASE_LO n) (Reg.HST_RING_BASE_HI n) / 4096 * 4096

/-- The base of a command ring's completion area. -/
def State.ringCBase (s : State) (n : Nat) : Nat :=
  s.rd64 (Reg.HST_RING_CBASE_LO n) (Reg.HST_RING_CBASE_HI n) / 4096 * 4096

/-- The address of a ring's write-back word; 0 means none. -/
def State.ringWb (s : State) (n : Nat) : Nat := s.rd64 (Reg.HST_RING_WB_LO n) (Reg.HST_RING_WB_HI n) / 8 * 8

/-- The ring's vector is sent and covers every entry written before it (R103). -/
def State.signalRing (s : State) (n : Nat) : State :=
  (s.setRing n { s.ring n with unsignalled := 0, oldest := none }).sendVector (s.rd (Reg.HST_RING_CFG_VEC n))

/-- An entry has been written: the write-back word follows, then the ring's vector if R103 asks for it (R105). The word holds the count
modulo 2^16 (log 134), and an entry's age is by the oscillator (log 133). -/
def State.entryWritten (s : State) (n : Nat) (irq : Bool) : State :=
  let w := s.written n
  let s := if s.ringWb n = 0 then s else s.emit (.hostWrite (s.ringWb n) (leBytes 4 w))
  let r := s.ring n
  let s := s.setRing n { r with unsignalled := r.unsignalled + 1,
                                oldest := some (r.oldest.getD s.time.elapsed) }
  let m := s.rd (Reg.HST_RING_MOD_COUNT n)
  if s.flag (Reg.HST_RING_CFG_VEC_EN n) && (irq || (decide (m ≠ 0) && decide (m ≤ (s.ring n).unsignalled))) then
    s.signalRing n
  else s

/-- A notice entry is written to a notice ring with the next SEQ (R96, R98). -/
def State.writeNotice (s : State) (n code inst : Nat) (ws : List Nat) (late : Bool) (flags : Nat) (urgent : Bool) : State :=
  let idx := s.written n
  let r := s.ring n
  let n0 := code + inst % 256 * 2 ^ 16 + b2n late * 2 ^ 24 + flags % 32 * 2 ^ 25 + b2n urgent * 2 ^ 30 + s.phase n idx * 2 ^ 31
  let entry := wordsBytes ([n0, s.now32, r.seq] ++ (ws ++ [0, 0, 0, 0, 0]).take 5)
  let s := s.emit (.hostWrite (s.ringBase n + idx % s.ringSize n * 32) entry)
  let s := s.setRing n { r with seq := (r.seq + 1) % 2 ^ 16 }
  (s.wr (Reg.HST_RING_STAT_COMPLETED n) (idx + 1)).entryWritten n false

/-- The free entries of a notice ring (R99). -/
def State.noticeRoom (s : State) (n : Nat) : Nat :=
  s.ringSize n - (s.written n + 2 ^ 16 - (s.ring n).consumed) % 2 ^ 16

/-- NOTICE_LOST is written first once at least two entries are free (R99); it is an urgent notice of its own (R101). Like completions,
write-backs and DMA data, it is written whatever Bus Master Enable is then (log 132). -/
def State.noticeLost (s : State) (n : Nat) : State :=
  let r := s.ring n
  if r.lost = 0 ∨ s.noticeRoom n < 2 then s
  else
    let s := s.writeNotice n 0x0102 n [r.lost, r.lostFirst] false 0 true
    (s.setRing n { s.ring n with lost := 0, lostFirst := 0 }).sendVector 6

/-- The urgent vector that a notice raises (R101). -/
def urgentVector (code : Nat) : Option Nat :=
  if code = 0x1601 then some 0
  else if code = 0x1701 ∨ code = 0x1702 then some 1
  else if code = 0x0D01 then some 2
  else if code = 0x1502 ∨ code = 0x1501 then some 3
  else if code = 0x0301 ∨ code = 0x0203 then some 4
  else if code = 0x0E03 then some 5
  else if code = 0x0101 ∨ code = 0x0102 then some 6
  else if code = 0x1801 ∨ code = 0x1802 then some 7
  else none

/-- The notice ring of a block's route, when a notice can be written to it (R97). -/
def State.routeOf (s : State) (block : Nat) : Option Nat :=
  let n := s.rd (Reg.HST_NROUTE_RING block)
  if s.flag (Reg.HST_NROUTE_EN block) && s.flag (Reg.HST_RING_CFG_TYPE n) && s.flag (Reg.HST_RING_CTRL n) && s.busReady then
    some n
  else none

/-- The entry of a raised notice (R81, R97, R99): written, lost on a full ring, or counted in HST_NDROP. -/
def State.noticeEntry (s : State) (code inst : Nat) (ws : List Nat) (late : Bool) (flags : Nat) (urgent : Bool) : State :=
  match s.routeOf (code / 256) with
  | none => s.count Reg.HST_NDROP 1
  | some n =>
    let r := s.ring n
    if s.noticeRoom n = 0 ∨ r.lost ≠ 0 then
      (s.setRing n { r with lost := r.lost + 1, lostFirst := if r.lost = 0 then r.seq else r.lostFirst,
                            seq := (r.seq + 1) % 2 ^ 16 }).count (Reg.HST_RING_NLOST n) 1
    else s.writeNotice n code inst ws late flags urgent

/-- An entry of the Chrysalis log (R525): the retained ring keeps 64, and flash is to follow. -/
def State.logEvent (s : State) (cls code : Nat) (data : Bytes) : State :=
  let seq := s.rd Reg.CHY_LOGSEQ
  let rtc := s.rd Reg.PWR_RTC
  let e : LogEntry := { seq := seq, rtc := rtc, time := if s.isOff 0x07 then 0 else s.now32, code := code, cls := cls,
                        data := (data ++ List.replicate 12 0).take 12 }
  let log := s.chy.log ++ [e]
  let s := s.wr Reg.CHY_LOGSEQ (seq + 1)
  { s with chy := { s.chy with log := log.drop (log.length - 64), unflushed := min 64 (s.chy.unflushed + 1) } }

/-- The log class of a notice (R525; log 38). -/
def logClass (code : Nat) : Nat :=
  if code = 0x1802 then 5 else if code = 0x1809 then 3 else if code = 0x180A then 4
  else if 0x1803 ≤ code ∧ code ≤ 0x1808 then 2 else 6

/-- A notice is raised (R97-R102). A block that is off raises none (R455). -/
def State.raiseOnly (s : State) (code inst : Nat) (ws : List Nat) (late : Bool) (flags : Nat) : State :=
  if s.isOff (code / 256) then s
  else
    let u := urgentVector code
    let s := s.noticeEntry code inst ws late flags u.isSome
    match u with
    | some v => s.sendVector v
    | none => s

/-- A notice is raised; Chrysalis logs every urgent one (R525). -/
def State.raiseWith (s : State) (code inst : Nat) (ws : List Nat) (late : Bool) (flags : Nat) : State :=
  let s := if (urgentVector code).isSome && !s.isOff (code / 256) then s.logEvent (logClass code) code (wordsBytes ws) else s
  s.raiseOnly code inst ws late flags

/-- A notice that carries neither LATE nor flags. -/
def State.raise (s : State) (code inst : Nat) (ws : List Nat) : State := s.raiseWith code inst ws false 0

/-- Whether Chrysalis serves requests: it runs, or runs its boot ROM in recovery mode, and neither restarts nor is halted (R496,
R562). -/
def State.chyUp (s : State) : Bool :=
  (s.flag Reg.CHY_STAT_RUN || s.pwr.recovery) && !s.flag Reg.CHY_STAT_HALTED && s.chy.restart.isNone

/-- Whether HST can be reached: the link is up and no reset holds it (R544) (log 131). -/
def State.hstUp (s : State) : Bool := s.flag Reg.HST_STAT_LINK_UP && !s.host.inReset && s.pwr.held.isNone

/-- A notice of Chrysalis that is logged (R525). -/
def State.report (s : State) (code inst : Nat) (ws : List Nat) : State :=
  (s.logEvent (logClass code) code (wordsBytes ws)).raiseOnly code inst ws false 0

/-- A notice that is logged, and held while HST cannot be reached: those of a start, of a tamper event and of a clock (R518, R526,
R544). -/
def State.reportHeld (s : State) (code inst : Nat) (ws : List Nat) : State :=
  if s.hstUp then s.report code inst ws
  else
    let s := s.logEvent (logClass code) code (wordsBytes ws)
    { s with chy := { s.chy with held := s.chy.held ++ [(code, inst, ws)] } }

/-- A notice joins those of one cycle, in ascending CODE and then INST (R98). -/
def insertNotice (n : Nat × Nat × List Nat) : List (Nat × Nat × List Nat) → List (Nat × Nat × List Nat)
  | [] => [n]
  | m :: t => if n.1 < m.1 ∨ (n.1 = m.1 ∧ n.2.1 < m.2.1) then n :: m :: t else m :: insertNotice n t

/-- Notices of one cycle are raised in their order (R98) (log 154). -/
def State.raiseInOrder (s : State) (l : List (Nat × Nat × List Nat)) : State :=
  (l.foldl (fun l n => insertNotice n l) []).foldl (fun s n => s.raiseOnly n.1 n.2.1 n.2.2 false 0) s

/-- The notices held are raised once HST is up, together with others of that cycle (R98). -/
def State.raiseHeldWith (s : State) (more : List (Nat × Nat × List Nat)) : State :=
  let l := (if s.hstUp then s.chy.held else []) ++ more
  (if s.hstUp then { s with chy := { s.chy with held := [] } } else s).raiseInOrder l

/-- The notices held are raised once HST is up. -/
def State.raiseHeld (s : State) : State := s.raiseHeldWith []

end Sys2Proof.Machine
end

