-- ==== Sys2Proof/Machine/CoreState.lean ====
section
/-! DEFINITION. The registers of a Hawk core, its interrupts, and the NEXT load that they end (R152-R156, R165). -/
namespace Sys2Proof.Machine

/-- A core that nothing has run on: MTIMECMP all ones (R154), the registers at the values of log 13. -/
def hawkIdle : HawkSt :=
  { pc := 0, xregs := [], fregs := [], csrs := [], machineMode := true, postres := 0, cmoBase := 0,
    mtimecmp := 2 ^ 64 - 1, mtip := false, msip := false, task := none, waits := false, record := none, stopBy := none,
    lines := [], ilines := [], reserved := none }

def State.hawk (s : State) (n : Nat) : HawkSt := tblGet s.hawks hawkIdle n

def State.setHawk (s : State) (n : Nat) (h : HawkSt) : State := { s with hawks := tblSet s.hawks hawkIdle n h }

/-- A CSR of a core, by its RISC-V number (log 13). -/
def State.csr (s : State) (n k : Nat) : Nat := tblGet (s.hawk n).csrs 0 k

def State.setCsr (s : State) (n k v : Nat) : State :=
  s.setHawk n { s.hawk n with csrs := tblSet (s.hawk n).csrs 0 k (v % 2 ^ 64) }

/-! ### Interrupts -/

/-- Whether MEIP of a core is up (R156). -/
def State.meip (s : State) (n : Nat) : Bool :=
  (List.range 32).any (fun q => bitOf (s.rd (Reg.HWK_QIRQ n)) q && s.flag (Reg.QUE_STAT_READY q))

/-- The interrupts of a core that are pending, as mip has them (R155, R156). -/
def State.mip (s : State) (n : Nat) : Nat :=
  b2n (s.hawk n).msip * 2 ^ 3 + b2n (s.hawk n).mtip * 2 ^ 7 + b2n (s.meip n) * 2 ^ 11

/-- Whether an interrupt that the core's mie enables is pending (R155, R156, R165). -/
def State.interruptPending (s : State) (n : Nat) : Bool := Nat.land (s.csr n 0x304) (s.mip n) != 0

/-- The interrupt that a core takes: of those pending that its mie enables, the external one, then the software one, then the timer's, where
mstatus or user mode lets it (log 13). -/
def State.nextInterrupt (s : State) (n : Nat) : Option Nat :=
  if (s.hawk n).machineMode && !bitOf (s.csr n 0x300) 3 then none
  else [11, 3, 7].find? (fun k => bitOf (Nat.land (s.csr n 0x304) (s.mip n)) k)

/-- A core takes a trap, as RISC-V's machine mode does (R152; log 13): mepc, mcause, mtval and mstatus are written, and the core goes on
in machine mode at `pc`. -/
def State.enterTrap (s : State) (n epc cause tval pc : Nat) : State :=
  let st := s.csr n 0x300
  let st := withBits (withBits (withBits st 7 1 (bitsOf st 3 1)) 3 1 0) 11 2 (if (s.hawk n).machineMode then 3 else 0)
  let s := (((s.setCsr n 0x341 epc).setCsr n 0x342 cause).setCsr n 0x343 tval).setCsr n 0x300 st
  s.setHawk n { s.hawk n with pc := pc, machineMode := true }

/-- A core takes an exception, at mtvec (log 13). -/
def State.trapCore (s : State) (n epc cause tval : Nat) : State := s.enterTrap n epc cause tval (s.csr n 0x305 / 4 * 4)

/-- A core takes a pending interrupt that is enabled, at mtvec or, where that is vectored, at its cause's entry there (R165; log 13). Where
its program stands the model does not say, so mepc is free (log 126). -/
def State.takeInterrupt (s : State) (n : Nat) : State :=
  match s.nextInterrupt n with
  | some k =>
    let v := s.csr n 0x305
    let (pc, s) := s.free
    s.enterTrap n pc (2 ^ 63 + k) 0 (v / 4 * 4 + if v % 4 = 1 then 4 * k else 0)
  | none => s

/-- A value returned to a core's load of NEXT; the load waits no longer. -/
def State.returnNext (s : State) (n v state : Nat) : State :=
  let s := s.setHawk n { s.hawk n with waits := false }
  (s.wr (Reg.HWK_STAT_STATE n) state).emit (.coreLoad n 0x42000000 v)

/-- A NEXT load that waits returns 0 at once when an enabled interrupt is pending, and the core takes it (R165). -/
def State.wakeNext (s : State) : State :=
  (List.range 8).foldl (fun s n =>
    if (s.hawk n).waits && s.interruptPending n then (s.returnNext n 0 3).takeInterrupt n else s) s

/-- A step of device time moves the time that MTIMECMP is compared with (R155). -/
def State.compareTime (s : State) : State :=
  ((List.range 8).foldl (fun s n => s.setHawk n { s.hawk n with mtip := decide ((s.hawk n).mtimecmp ≤ s.now) }) s).wakeNext

end Sys2Proof.Machine
end

