-- ==== Sys2Proof/Machine/Flags.lean ====
section
/-! DEFINITION. The error flags of the GLB block: which block and instance an offset belongs to, and the error capture
(R26-R28, R32). -/
namespace Sys2Proof.Machine

/-- The block ID of the window that holds a BAR0 offset; 0xFF above the map (R26, R32). -/
def blockOf (off : Nat) : Nat :=
  let p := off / 0x10000
  if p < 0x0A then p
  else if p < 0x0C then 0x0A
  else if p < 0x10 then p - 1
  else if p < 0x14 then 0x0F
  else if p < 0x18 then 0x10
  else if p < 0x1A then 0x11
  else if p < 0x21 then p - 8
  else 0xFF

/-- An instance whose register windows of `size` bytes start at `base`, or 0xFF outside them. -/
def windowInst (off base size count : Nat) : Nat :=
  if base ≤ off ∧ off < base + size * count then (off - base) / size else 0xFF

/-- The instance whose register window holds a BAR0 offset (R26, R32). -/
def instOf (off : Nat) : Nat :=
  let b := blockOf off
  if b = 0x02 then windowInst off 0x21000 0x100 8
  else if b = 0x04 then windowInst off 0x40000 0x1000 8
  else if b = 0x06 then windowInst off 0x60000 0x40 32
  else if b = 0x09 then windowInst off 0x90000 0x40 16
  else if b = 0x0A then windowInst off 0xA1000 0x100 16
  else if b = 0x0F then windowInst off 0x100000 0x4000 16
  else if b = 0x10 then windowInst off 0x140000 0x4000 10
  else if b = 0x11 then windowInst off 0x180000 0x4000 8
  else if b = 0x12 then
    (if 0x1A2000 ≤ off ∧ off < 0x1A2400 then 16 + (off - 0x1A2000) / 0x20 else windowInst off 0x1A0000 0x100 16)
  else if b = 0x14 then windowInst off 0x1C0000 0x100 8
  else if b = 0xFF then 0xFF
  else 0

/-- Whether the error capture is open: ACCESS_OFF, UNMAPPED and BAD_ACCESS are all 0 (R32). -/
def State.captureOpen (s : State) : Bool :=
  !s.flag Reg.GLB_ERRSTAT_ACCESS_OFF && !s.flag Reg.GLB_ERRSTAT_UNMAPPED && !s.flag Reg.GLB_ERRSTAT_BAD_ACCESS

/-- One erroneous access (R32): its bits are set, it counts once, and it is captured with GLB_ERROR or sets MULTI. -/
def State.captureError (s : State) (block inst off : Nat) (write accessOff unmapped bad : Bool) : State :=
  let isOpen := s.captureOpen
  let s := if accessOff then s.setFlag Reg.GLB_ERRSTAT_ACCESS_OFF true else s
  let s := if unmapped then s.setFlag Reg.GLB_ERRSTAT_UNMAPPED true else s
  let s := if bad then s.setFlag Reg.GLB_ERRSTAT_BAD_ACCESS true else s
  let s := s.count Reg.GLB_ERRCNT 1
  if isOpen then
    let s := (s.wr Reg.GLB_ERRSTAT_BLOCK block).wr Reg.GLB_ERRSTAT_INST inst
    let s := (s.wr Reg.GLB_ERRADDR_OFFSET off).setFlag Reg.GLB_ERRADDR_WRITE write
    s.raise 0x0001 0 [(s.word 0x10).toNat, (s.word 0x14).toNat]
  else s.setFlag Reg.GLB_ERRSTAT_MULTI true

/-- An erroneous BAR0 or Hawk access at an offset, with the block and instance that the offset names (R32). -/
def State.accessError (s : State) (off : Nat) (write accessOff unmapped bad : Bool) : State :=
  s.captureError (blockOf off) (instOf off) off write accessOff unmapped bad

/-- A block that is off does nothing (R443, R455) (log 65). -/
def State.whenOn (s : State) (block : Nat) (a : Answer) : Answer := if s.isOff block then .next s else a

/-- A command that is the write of a register, at `off`: a block that is off drops the write, and ACCESS_OFF is set (R455). -/
def State.byRegister (s : State) (off : Nat) (a : Answer) : Answer :=
  if s.isOff (blockOf off) then .next (s.accessError off true true false false) else a

end Sys2Proof.Machine
end

