-- ==== Sys2Proof/Machine/Operands.lean ====
section
/-! DEFINITION. The operands of ring commands: a descriptor's fields, which descriptor an operation acts on, starting in
index order, and the writing of completions (R87-R95, R105). -/
namespace Sys2Proof.Machine

/-- Word D`i` of a descriptor (R92). -/
def Desc.d (x : Desc) (i : Nat) : Nat := x.words.getD i 0

/-- Opcode-specific word `i`, D6 onward (R92). -/
def Desc.w (x : Desc) (i : Nat) : Nat := x.d (6 + i)

def Desc.opcode (x : Desc) : Nat := bitsOf (x.d 0) 0 16
def Desc.irq (x : Desc) : Bool := bitOf (x.d 0) 16
def Desc.fence (x : Desc) : Bool := bitOf (x.d 0) 17
def Desc.chain (x : Desc) : Bool := bitOf (x.d 0) 18
def Desc.cookie (x : Desc) : Nat := x.d 1
def Desc.addr (x : Desc) : Nat := x.d 2 + 2 ^ 32 * x.d 3
def Desc.len (x : Desc) : Nat := x.d 4

/-- Whether a descriptor's reserved fields are 0: D0[31:19], D5, the words past `used`, and ADDR and LEN when the opcode
uses no buffer (R89, R92). -/
def Desc.reservedOk (x : Desc) (buffer : Bool) (used : Nat) : Bool :=
  decide (x.d 0 / 2 ^ 19 = 0) && decide (x.d 5 = 0) && (x.words.drop (6 + used)).all (· == 0) &&
    (buffer || (decide (x.addr = 0) && decide (x.len = 0)))

/-- The opcodes that the block chapters define (R89, R92). -/
def opcodeDefined (op : Nat) : Bool :=
  [0x0100, 0x0101, 0x0102, 0x0501, 0x0801, 0x0802, 0x0803, 0x0F01, 0x0F02, 0x0F03, 0x1001, 0x1002, 0x1401, 0x1402, 0x1501,
   0x1601].contains op

/-- The status codes common to every block (R95). -/
def stOk : Nat := 0x0000
def stCancelled : Nat := 0x0001
def stBlockOff : Nat := 0x0002
def stRefused : Nat := 0x0003
def stBadOpcode : Nat := 0x0004
def stBadParam : Nat := 0x0005
def stBadAddr : Nat := 0x0006
def stCalFull : Nat := 0x0840

/-- The block and instance a ring is bound to (R84). -/
def State.ringBlock (s : State) (n : Nat) : Nat := s.rd (Reg.HST_RING_CFG_BLOCK n)
def State.ringInst (s : State) (n : Nat) : Nat := s.rd (Reg.HST_RING_CFG_INST n)

/-- What starting a descriptor leads to: BAD_OPCODE, BLOCK_OFF, or its operation (R89, R90). -/
def State.startPhase (s : State) (n : Nat) (d : Desc) : DescPhase :=
  if d.opcode / 256 ≠ s.ringBlock n ∨ opcodeDefined d.opcode = false then
    .done stBadOpcode 0 (s.ringBlock n) (s.ringInst n) []
  else if s.isOff (s.ringBlock n) then .done stBlockOff 0 (s.ringBlock n) (s.ringInst n) []
  else .started

/-- Descriptors start in index order (R88): one with FENCE, and every one of a PWR ring (R445), only with none uncompleted
before it; none past one that waits under R168. -/
def State.startList (s : State) (n : Nat) : Bool → List Desc → List Desc
  | _, [] => []
  | earlier, d :: t =>
    match d.phase with
    | .waiting =>
      if earlier && (d.fence || s.ringBlock n == 0x16) then d :: t
      else { d with phase := s.startPhase n d } :: s.startList n true t
    | .held => d :: t
    | _ => d :: s.startList n true t

/-- Whether a descriptor's completion is ready. -/
def Desc.isDone (d : Desc) : Bool := match d.phase with | .done .. => true | _ => false

/-- Whether the unit of work at the head of the list is done as a whole (R91); a ring being disabled closes its last unit (log 37). CHAIN
on an opcode whose chapter uses no units makes a unit of it all the same (log 157). -/
def unitDone (closing : Bool) : List Desc → Bool
  | [] => closing
  | d :: t => d.isDone && (!d.chain || unitDone closing t)

/-- The completion of a descriptor is written to its slot, and the completed index moves (R93, R105). -/
def State.writeCompletion (s : State) (n : Nat) (d : Desc) (status flags block inst : Nat) (ws : List Nat) : State :=
  let c0 := status % 2 ^ 16 + b2n d.chain * 2 ^ 16 + flags % 128 * 2 ^ 17 + s.phase n d.index * 2 ^ 31
  let c2 := d.index + block % 256 * 2 ^ 16 + inst % 256 * 2 ^ 24
  let entry := wordsBytes ([c0, d.cookie, c2, s.now32] ++ (ws ++ [0, 0, 0, 0]).take 4)
  let s := s.emit (.hostWrite (s.ringCBase n + d.index % s.ringSize n * 32) entry)
  (s.wr (Reg.HST_RING_STAT_COMPLETED n) (d.index + 1)).entryWritten n d.irq

/-- Completions are written in index order, unit by unit (R88, R91). `inUnit` says that the head belongs to a unit already
found done. -/
def State.flushList (n : Nat) : Bool → List Desc → State → State
  | _, [], s => s.setRing n { s.ring n with descs := [] }
  | inUnit, d :: t, s =>
    if inUnit || unitDone (s.ring n).disabling (d :: t) then
      match d.phase with
      | .done st fl b i ws => State.flushList n d.chain t (s.writeCompletion n d st fl b i ws)
      | _ => s.setRing n { s.ring n with descs := d :: t }
    else s.setRing n { s.ring n with descs := d :: t }

/-- Starting and completing, as often as each makes the other possible. In D3hot no completion is written: it waits for D0 (R79)
(log 156). -/
def State.settle (n : Nat) : Nat → State → State
  | 0, s => s
  | k + 1, s =>
    let s := if (s.ring n).disabling then s
             else s.setRing n { s.ring n with descs := s.startList n false (s.ring n).descs }
    State.settle n k (if s.host.d3hot then s else State.flushList n false (s.ring n).descs s)

/-- Whatever can start on a ring starts, and whatever can complete completes. -/
def State.settleRing (s : State) (n : Nat) : State := State.settle n ((s.ring n).descs.length + 1) s

/-- A descriptor of a ring takes a phase. -/
def State.setPhase (s : State) (n index : Nat) (p : DescPhase) : State :=
  let r := s.ring n
  s.setRing n { r with descs := r.descs.map (fun d => if d.index = index then { d with phase := p } else d) }

/-- A descriptor completes with a status, flags and words; what that lets start or complete follows (R88, R93). -/
def State.completeWith (s : State) (n index status flags : Nat) (ws : List Nat) : State :=
  (s.setPhase n index (.done status flags (s.ringBlock n) (s.ringInst n) ws)).settleRing n

def State.complete (s : State) (n index status : Nat) (ws : List Nat) : State := s.completeWith n index status 0 ws

/-- The started descriptor of a ring that an operation with an opcode acts on: the first one started, with none before it that waits
under R168, if the opcode is its own (R88). -/
def State.startedDesc (s : State) (n opcode : Nat) : Option Desc :=
  match ((s.ring n).descs.takeWhile (fun d => d.phase != .held)).find? (fun d => d.phase == .started) with
  | some d => if d.opcode = opcode then some d else none
  | none => none

/-- How many announced descriptors of a command ring have not been fetched (R87, R109). -/
def State.unfetched (s : State) (n : Nat) : Nat :=
  if s.flag (Reg.HST_RING_CFG_TYPE n) || !(s.flag (Reg.HST_RING_CTRL n) || (s.ring n).disabling) then 0
  else (s.rd (Reg.HST_RING_TAIL n) + 2 ^ 16 - (s.ring n).fetched) % 2 ^ 16

/-- An operation of a ring: it acts on its started descriptor; with none, nothing happens (log 4). -/
def State.withDesc (s : State) (n opcode : Nat) (f : State → Desc → State) : State :=
  match s.startedDesc n opcode with
  | some d => f s d
  | none => s

end Sys2Proof.Machine
end

