-- ==== Sys2Proof/Machine/Net.lean ====
section
/-! DEFINITION. Frames and the ports' transmit queues: Ethernet, IPv4 and UDP headers, counters, and which port or pair a
frame of the Oldoax's own goes to (R351, R352, R372, R373, R381). -/
namespace Sys2Proof.Machine

def macIdle : MacSt :=
  { speed := 0, fec := 0, rx := [], tx := [], wireUntil := 0, cut := none, frames := 0, pause := none, pauseHigh := false,
    pauseAt := 0, holdUntil := none, verifyTries := 0, nextVerify := none, nextSupervision := none, supSeq := 0, prpNext := 0,
    prpTable := [], disabling := false, turn := 0, engine := 0 }

def State.mac (s : State) (p : Nat) : MacSt := tblGet s.macs macIdle p

def State.setMac (s : State) (p : Nat) (m : MacSt) : State := { s with macs := tblSet s.macs macIdle p m }

def mscIdle : MscSt := { tx := [], rx := [] }

def State.msc (s : State) (p : Nat) : MscSt := tblGet s.mscs mscIdle p

def State.setMsc (s : State) (p : Nat) (m : MscSt) : State := { s with mscs := tblSet s.mscs mscIdle p m }

/-- The width of a MAC counter (R381). -/
def macCounterWidth (i : Nat) : Nat := if i = 1 ∨ i = 25 then 48 else 32

/-- A MAC counter counts `n`; a change of its top bit raises CNT_HALF (R381). -/
def State.macCount (s : State) (p i n : Nat) : State :=
  let w := macCounterWidth i
  let old := s.rd64 (Reg.MAC_CNT_LO p i) (Reg.MAC_CNT_HI p i)
  let new := (old + n) % 2 ^ w
  let s := s.wr64 (Reg.MAC_CNT_LO p i) (Reg.MAC_CNT_HI p i) new
  if bitOf old (w - 1) = bitOf new (w - 1) then s else s.raise 0x1002 p [i, b2n (bitOf new (w - 1))]

/-- An MSC counter counts `n`; a change of its top bit raises MSC_CNT_HALF (R385). -/
def State.mscCount (s : State) (p i n : Nat) : State :=
  let w := if i = 1 ∨ i = 8 then 48 else 32
  let old := s.rd64 (Reg.MSC_CNT_LO p i) (Reg.MSC_CNT_HI p i)
  let new := (old + n) % 2 ^ w
  let s := s.wr64 (Reg.MSC_CNT_LO p i) (Reg.MSC_CNT_HI p i) new
  if bitOf old (w - 1) = bitOf new (w - 1) then s else s.raise 0x1102 p [i, b2n (bitOf new (w - 1))]

/-- The MAC address of a port as a number (R384). -/
def State.macAddr (s : State) (p : Nat) : Nat := s.rd (Reg.MAC_ADDR_HI p) * 2 ^ 32 + s.rd (Reg.MAC_ADDR_LO p)

/-- The Ethernet address of an IPv4 multicast group. -/
def multicastMac (ip : Nat) : Nat := 0x01005E000000 + ip % 2 ^ 23

/-- Whether an IPv4 address is a multicast group. -/
def isMulticastIp (ip : Nat) : Bool := decide (ip / 2 ^ 28 = 14)

/-- The ones-complement sum of 16-bit big-endian words. -/
def onesSum : Bytes → Nat
  | [] => 0
  | [a] => a.toNat * 256
  | a :: b :: t => a.toNat * 256 + b.toNat + onesSum t

/-- The internet checksum of a ones-complement sum. -/
def checksum (sum : Nat) : Nat :=
  let a := sum % 65536 + sum / 65536
  let b := a % 65536 + a / 65536
  let c := b % 65536 + b / 65536
  65535 - c

/-- An IPv4 header without options, DF = 1, identification 0 (R254). -/
def ipv4Header (dscp ttl srcIp dstIp len : Nat) : Bytes :=
  let h (ck : Nat) := beBytes 1 0x45 ++ beBytes 1 (dscp * 4) ++ beBytes 2 len ++ beBytes 2 0 ++ beBytes 2 0x4000 ++
    beBytes 1 ttl ++ beBytes 1 17 ++ beBytes 2 ck ++ beBytes 4 srcIp ++ beBytes 4 dstIp
  h (checksum (onesSum (h 0)))

/-- A UDP datagram in an IPv4 packet in an Ethernet frame. The UDP checksum is computed (R254), or sent as 0 (R371). -/
def udpFrame (dstMac srcMac dscp ttl srcIp dstIp sport dport : Nat) (zeroSum : Bool) (payload : Bytes) : Bytes :=
  let len := 8 + payload.length
  let u (ck : Nat) := beBytes 2 sport ++ beBytes 2 dport ++ beBytes 2 len ++ beBytes 2 ck ++ payload
  let ck := checksum (onesSum (u 0) + onesSum (beBytes 4 srcIp ++ beBytes 4 dstIp) + 17 + len)
  let ck := if zeroSum then 0 else if ck = 0 then 0xFFFF else ck
  beBytes 6 dstMac ++ beBytes 6 srcMac ++ beBytes 2 0x0800 ++ ipv4Header dscp ttl srcIp dstIp (20 + len) ++ u ck

/-- Whether a frame is one the port counts when its link is down: an emission packet or a PTP message (R352). -/
def TxKind.countsLinkDown : TxKind → Bool
  | .data .. | .sync .. | .poll | .echo .. | .ptpOneStep | .ptpEvent | .ptpGeneral => true
  | _ => false

/-- The clock domain of a port, numbered as R33 lists them: NET, or SILK for a Silk port. -/
def macDomain (p : Nat) : Nat := if p < 8 then 3 else 4

/-- Device time as a port reads it: its replica at the last edge of a 390.625 MHz clock (R35, R370). -/
def State.macTime (s : State) (p : Nat) : Nat := s.replica 64 25 (macDomain p) (12 + p)

/-- The instant at a port's transmit reference plane of what passes its balls now (R370). -/
def State.planeTime (s : State) (p : Nat) : Nat := ((s.macTime p : Int) + sext 16 (s.rd (Reg.MAC_TSADJ_TX p))).toNat

/-- The port's device time at the balls of what passes the plane at an instant. -/
def State.ballTime (s : State) (p t : Nat) : Nat := ((t : Int) - sext 16 (s.rd (Reg.MAC_TSADJ_TX p))).toNat

/-- Time passes until a port's plane reaches an instant. -/
def State.untilPlane (s : State) (p t : Nat) : State := s.untilReplica 64 25 (macDomain p) (12 + p) (s.ballTime p t)

/-- A frame joins a port's transmit queue; a port that is disabled or off discards it (R382). -/
def State.macPut (s : State) (p : Nat) (f : TxFrame) : State :=
  if s.isOff 0x10 || !s.flag (Reg.MAC_CTRL_ENABLE p) then s
  else if s.flag (Reg.MAC_STAT_LINK p) then
    let at_ := match f.launch with | some t => t | none => s.planeTime p
    s.setMac p { s.mac p with tx := (s.mac p).tx ++ [{ f with launch := some at_ }] }
  else if f.kind.countsLinkDown then s.macCount p 39 1
  else s

/-- Whether a PRP pair is enabled (R372). -/
def State.pairOn (s : State) (k : Nat) : Bool := s.flag (Reg.MAC_CTRL_PRP_EN (2 * k))

/-- Whether a port is enabled and has its link. -/
def State.macUp (s : State) (p : Nat) : Bool := s.flag (Reg.MAC_STAT_LINK p) && s.flag (Reg.MAC_CTRL_ENABLE p)

/-- The 802.1Q tags that open a frame after its source address, up to 2 (R353). -/
def tagCount (b : Bytes) : Nat :=
  let tpid (i : Nat) : Bool := let x := beNat ((b.drop i).take 2); x == 0x8100 || x == 0x88A8
  if tpid 12 then (if tpid 16 then 2 else 1) else 0

/-- Whether a frame with its tags is longer than a port sends (R353). -/
def State.macTooLong (s : State) (p : Nat) (b : Bytes) : Bool :=
  decide (s.rd (Reg.MAC_MAXFRAME p) + 4 * tagCount b < b.length + 4)

/-- A frame as it is sent, with the tag that the port inserts (R366). -/
def TxFrame.tagged (f : TxFrame) (b : Bytes) : Bytes :=
  match f.tci with
  | some t => b.take 12 ++ beBytes 2 0x8100 ++ beBytes 2 t ++ b.drop 12
  | none => b

/-- A frame goes to a PRP pair, a copy on each port that can send. A frame that is sent takes the pair's next sequence number; one that is
oversize or finds neither port up takes none (R352, R354, R372). While one port's link is down, only the other's copy leaves, and it is not
counted as lost (R352, R373). -/
def State.pairPut (s : State) (k : Nat) (f : TxFrame) : State :=
  let a := 2 * k
  let long (p : Nat) := s.macTooLong p (f.tagged f.bytes)
  let m := s.mac a
  let n := { f with prpSeq := some m.prpNext }
  let s' := s.setMac a { m with prpNext := (m.prpNext + 1) % 65536 }
  if s.macUp a && s.macUp (a + 1) then
    (if long a && long (a + 1) then s.macPut a f else (s'.macPut a n).macPut (a + 1) n)
  else if s.macUp a then (if long a then s.macPut a f else s'.macPut a { n with alone := true })
  else if s.macUp (a + 1) then (if long (a + 1) then s.macPut (a + 1) f else s'.macPut (a + 1) { n with alone := true })
  else s.macPut (if s.flag (Reg.MAC_CTRL_ENABLE a) then a else a + 1) f

/-- A frame of the Oldoax's own goes to a port (0-7) or PRP pair (8-11); a port of an enabled pair stands for its pair, and a
pair that is not enabled for its port 2k (R373; log 9). -/
def State.sendOn (s : State) (code : Nat) (f : TxFrame) : State :=
  let k := if code < 8 then code / 2 else code - 8
  if s.pairOn k then s.pairPut k f else s.macPut (if code < 8 then code else 2 * k) f

/-- The port whose MAC address and receive path a port code stands for (R372). -/
def State.portOf (s : State) (code : Nat) : Nat :=
  if code < 8 then (if s.pairOn (code / 2) then code / 2 * 2 else code) else 2 * (code - 8)

/-! ### The media flow that claims a packet -/

def flowIdle : FlowSt := { seq := none, gap := true, inFrame := false }

def State.flow (s : State) (f : Nat) : FlowSt := tblGet s.flows flowIdle f

def State.setFlow (s : State) (f : Nat) (x : FlowSt) : State := { s with flows := tblSet s.flows flowIdle f x }

/-- Whether a packet on port `p`, the first of the pair for both ports of a pair, has the addresses of a flow entry (R392). -/
def State.flowMatches (s : State) (p src dst dport f : Nat) : Bool :=
  s.portOf (s.rd (Reg.VIN_FLOW_CTRL_PORT f)) == p && s.rd (Reg.VIN_FLOW_DST_IP f) == dst && s.rd (Reg.VIN_FLOW_DST_PORT f) == dport &&
    (!s.flag (Reg.VIN_FLOW_CTRL_SRCCHK f) || s.rd (Reg.VIN_FLOW_SRC_IP f) == src)

/-- Whether a disabled video flow still receives the frame that its disable lets finish (R403). -/
def State.flowFinishes (s : State) (f : Nat) : Bool :=
  !s.flag (Reg.VIN_FLOW_CTRL_ENABLE f) && !s.flag (Reg.VIN_FLOW_CTRL_QUIESCENT f) && s.rd (Reg.VIN_FLOW_CTRL_KIND f) == 1 && (s.flow f).inFrame

/-- The entry that claims a packet: the first enabled one that matches, else one that still finishes its frame (R392, R403). -/
def State.flowClaim (s : State) (p src dst dport : Nat) : Option Nat :=
  let l := (List.range 32).filter (s.flowMatches p src dst dport)
  match l.find? (fun f => s.flag (Reg.VIN_FLOW_CTRL_ENABLE f)) with
  | some f => some f
  | none => l.find? s.flowFinishes

/-- The entry that claims a packet and is of its kind: the addresses alone claim, and an entry of another kind writes nothing of it (R392;
log 176). -/
def State.flowFor (s : State) (h : FlowHead) (kind : Nat) : Option Nat :=
  let p := h.port.val
  (s.flowClaim (if s.pairOn (p / 2) then p / 2 * 2 else p) h.srcIp.toNat h.dstIp.toNat h.dport.toNat).filter
    (fun f => s.rd (Reg.VIN_FLOW_CTRL_KIND f) == kind)

/-- A sequence number extended to 32 bits: the one nearest to what the flow expects (R392; log 28). -/
def extendSeq (expected : Option Nat) (seq : Nat) : Nat :=
  match expected with
  | some q => low 32 ((q : Int) + sext 16 (low 16 ((seq : Int) - q)))
  | none => seq

/-! ### What the emission engine counts as its packets leave -/

def State.setEmi (s : State) (e : EmiSt) : State := { s with emi := e }

/-- The frame in emission with an F is replaced. -/
def State.putEmiFrame (s : State) (x : EmiFrameSt) : State :=
  s.setEmi { s.emi with frames := s.emi.frames.map (fun y => if y.f = x.f then x else y) }

/-- F of the newest frame that has been swapped: at a latch, of the frame whose slot starts there (R253). -/
def State.slotF (s : State) : Nat :=
  match (s.emi.frames.filter (fun x => !x.launched)).getLast? with
  | some x => x.f
  | none => s.rd Reg.EMI_FRAME

/-- A packet of the emission engine leaves with a lateness (R252, R284): EMI_SENT counts it, its universe is one that its frame has sent,
and the lateness of a change packet is one of its frame's, also when that frame has completed. -/
def State.emissionSent (s : State) (t : EmitTag) (late : Nat) : State :=
  let s := if t.counts then s.countMod Reg.EMI_SENT 1 else s
  let univ := if t.counts then t.univ else none
  match s.emi.frames.find? (fun x => x.f == t.f) with
  | some x => s.putEmiFrame { x with skew := if t.change then max x.skew late else x.skew, sent := x.sent ++ univ.toList }
  | none =>
    if s.emi.doneF = some t.f then
      let s := if t.change then s.wr Reg.EMI_SKEW (max (s.rd Reg.EMI_SKEW) late) else s
      match univ with
      | some (g, _) => s.wr (Reg.EMI_SEG_STAT g) (s.rd (Reg.EMI_SEG_STAT g) + 1)
      | none => s
    else s

end Sys2Proof.Machine
end

