-- ==== Sys2Proof/Machine/RoostCore.lean ====
section
/-! DEFINITION. What the rest of the part shares with the Roost: messages, roles, state changes, demotion and the intake of
cues (R410-R415, R418, R420, R430, R431). -/
namespace Sys2Proof.Machine

/-- The unit serial (R31). -/
def State.serial (s : State) : Nat := s.rd64 Reg.GLB_SERIAL_LO Reg.GLB_SERIAL_HI

/-- The member's state, rank and whether it holds rank 0 in MEMBER (R418, R419). -/
def State.rooState (s : State) : Nat := s.rd Reg.ROO_STAT_STATE
def State.rooActive (s : State) : Bool := decide (s.rooState = 3) && decide (s.rd Reg.ROO_STAT_RANK = 0)

def peerIdle : PeerSt :=
  { pref := 0, lastHeard := none, lastPath := [], thetaOk := false, lastSkew := none, lastMismatch := none, compared := none, acked := [] }

def State.peer (s : State) (n : Nat) : PeerSt := tblGet s.roo.peers peerIdle n

def State.setPeer (s : State) (n : Nat) (x : PeerSt) : State :=
  { s with roo := { s.roo with peers := tblSet s.roo.peers peerIdle n x } }

/-- A peer's serial as its register entry holds it (R441). -/
def State.peerSerial (s : State) (n : Nat) : Nat := s.rd64 (Reg.ROO_PEER_SERIAL_LO n) (Reg.ROO_PEER_SERIAL_HI n)

/-- The lease's remaining time in µs (R432). -/
def State.leaseLeft (s : State) : Nat :=
  match s.roo.leaseEnd with
  | some t => (t - s.now) / 1000
  | none => 0

/-- A message's 48-byte header (R412). -/
def State.roostHeader (s : State) (type dest plen : Nat) : Bytes :=
  beBytes 2 0x4F58 ++ beBytes 1 (0x10 + type) ++ beBytes 1 0 ++ beBytes 2 (s.rd Reg.ROO_ID) ++
    beBytes 1 (s.rooState * 16 + s.rd Reg.ROO_STAT_RANK) ++ beBytes 1 0 ++ beBytes 8 s.serial ++ beBytes 8 dest ++
    beBytes 4 s.roo.starts ++ beBytes 4 s.roo.messages ++ beBytes 4 (s.rd Reg.EMI_FRAME) ++ beBytes 4 s.now32 ++
    beBytes 4 plen ++ beBytes 4 0

/-- A whole message: header, payload, and the 16-byte tag, whose arithmetic the spec leaves to its standard: a free value
(R20, R410; log 2). -/
def State.roostMessage (s : State) (type dest : Nat) (payload : Bytes) : Bytes × State :=
  let h := s.roostHeader type dest payload.length
  let (a, s) := s.free
  let (b, s) := s.free
  (h ++ payload ++ beBytes 8 a ++ beBytes 8 b, s)

/-- A message leaves on a Silk port whose link is up (R411); with POISON among its store data its FCS is inverted (R125). `rank`: bulk
data (1) goes behind cue messages, and an update (2) behind both (R425, R523). -/
def State.roostSilk (s : State) (p type : Nat) (msg : Bytes) (rank : Nat) (poison : Bool) : State :=
  if s.flag (Reg.MAC_STAT_LINK p) then
    let f := beBytes 6 0xFFFFFFFFFFFF ++ beBytes 6 (s.macAddr p) ++ beBytes 2 0x88B5 ++ msg
    (if poison then s else s.emit (.roost (p - 8) type 0 msg)).macPut p
      { kind := .roost rank, bytes := f, express := type == 1, launch := none, tci := none, prpSeq := none, poison := poison,
        done := none }
  else s

/-- A message leaves on the network path (R408, R411): its UDP checksum is 0, since TXTIME is inserted as it leaves (R371, R412; log 151).
-/
def State.roostNet (s : State) (type : Nat) (msg : Bytes) : State :=
  if s.flag Reg.ROO_CFG_NET_EN then
    let g := s.rd Reg.ROO_GROUP
    let port := s.rd Reg.ROO_CFG_NETPORT
    let f := udpFrame (multicastMac g) (s.macAddr (s.portOf port)) 46 1 (s.rd Reg.ROO_SRCIP) g
      (s.rd Reg.ROO_UDPPORT) (s.rd Reg.ROO_UDPPORT) true msg
    (s.emit (.roost 2 type 0 msg)).sendOn port
      { kind := .roost 0, bytes := f, express := type == 1, launch := none, tci := none, prpSeq := none, poison := false,
        done := none }
  else s

/-- A message is sent on both Silk ports, and on the network path when its type goes there (R413). `rank` is 1 for a part of a
bulk epoch and 2 for an update (R425, R523), and `poison` says that its payload holds a POISON word of the store (R125). -/
def State.sendRoostWith (s : State) (type dest : Nat) (payload : Bytes) (rank : Nat) (poison : Bool) : State :=
  let net := type == 1 || type == 2 || type == 8 || type == 9
  let s := { s with roo := { s.roo with messages := (s.roo.messages + 1) % 2 ^ 32 } }
  let (msg, s) := s.roostMessage type dest payload
  let s := (s.roostSilk 8 type msg rank poison).roostSilk 9 type msg rank poison
  if net then s.roostNet type msg else s

/-- A message that is no part of a bulk epoch. -/
def State.sendRoost (s : State) (type dest : Nat) (payload : Bytes) : State := s.sendRoostWith type dest payload 0 false

/-- HEALTH (R415). A unit that has compared no digest yet has none that failed to match (log 173). -/
def State.health (s : State) : Nat :=
  let store := s.rd Reg.STO_STAT_DIE_LOST == 0
  let time := s.rd Reg.ANT_STAT_STATE == 2 || s.flag Reg.ANT_STAT_MASTER
  let thermal := !s.flag Reg.THM_STAT_LIMIT && s.rd Reg.THM_STAT_FAULTS == 0
  let supply := !s.flag Reg.PWR_STAT_SAG
  let outOk := s.rd Reg.OTU_STAT_MISSRUN == 0
  let matched := match s.roo.matchRun with | some k => decide (s.rd Reg.ROO_DIGMAX ≤ k) | none => true
  let ready := s.rooState == 3 && store && time && thermal && supply && outOk && matched
  let bitsAt (base n : Nat) (f : Nat → Bool) := (List.range n).foldl (fun w i => w + b2n (f i) * 2 ^ (base + i)) 0
  b2n ready + 2 * b2n store + 4 * b2n time + 8 * b2n thermal + 16 * b2n supply + 32 * b2n outOk +
    bitsAt 8 4 (fun i => s.flag (Reg.VIN_STAT_LOCK i)) + bitsAt 12 16 (fun i => s.flag (Reg.WNG_STAT_RXLOCK i)) +
    bitsAt 28 4 (fun k => s.flag (Reg.MAC_STAT_LINK (2 * k)) || s.flag (Reg.MAC_STAT_LINK (2 * k + 1)))

/-- A HEARTBEAT (R414); since when READY has been shown without a break counts for R523. -/
def State.sendHeartbeat (s : State) : State :=
  let (f, dig, apex) := s.roo.digests.headD (0, 0, 0)
  let cause := if s.rooState = 5 then s.rd Reg.ROO_DEMCAUSE else 0
  let since : Option Nat := if s.health % 2 = 1 then some (s.chy.readySince.getD s.time.elapsed) else none
  let s : State := { s with chy := { s.chy with readySince := since } }
  s.sendRoost 1 0 (beBytes 4 s.health ++ beBytes 4 f ++ beBytes 8 dig ++ beBytes 4 apex ++ beBytes 4 (s.rd Reg.ROO_EPOCH) ++
    beBytes 4 (s.rd Reg.ROO_LSN) ++ beBytes 2 s.leaseLeft ++ beBytes 1 cause ++ beBytes 1 0)

/-- Whether the unit holds the exclusive roles (R431): a unit in OFF does, and rank 0 in MEMBER with lease left. -/
def State.holdsRoles (s : State) : Bool := s.rooState == 0 || (s.rooActive && decide (0 < s.leaseLeft))

/-- ROO_STAT.ROLES follows; a change raises ROLE_CHANGE (R431). Its reset value stands until the first change of state (log 11). -/
def State.updateRoles (s : State) : State :=
  let r := if s.holdsRoles then 7 else 0
  let s := s.wr Reg.ROO_LEASE_REMAIN s.leaseLeft
  if s.rd Reg.ROO_STAT_ROLES = r then s else (s.wr Reg.ROO_STAT_ROLES r).raise 0x1504 0 [r, s.leaseLeft]

/-- Nothing of the emission engine's that waits at a port is launched once the unit is muted (R418) (log 179). -/
def State.muteQueues (s : State) : State :=
  let stays (f : TxFrame) : Bool := match f.kind with | .data .. | .sync .. | .poll | .echo .. => false | _ => true
  { s with macs := s.macs.map (fun e => (e.1, { e.2 with tx := e.2.tx.filter stays })) }

/-- The member changes state: muting acts at once, unmuting at the next first launch instant, and ROO_STATE is raised (R418). -/
def State.setRooState (s : State) (st : Nat) : State :=
  if s.rooState = st then s
  else
    let s := s.wr Reg.ROO_STAT_STATE st
    let open_ := st = 0 ∨ st = 3
    let s : State := if open_ then { s with roo := { s.roo with unmuteWaits := s.flag Reg.ROO_STAT_MUTED } }
      else { s.muteQueues.setFlag Reg.ROO_STAT_MUTED true with roo := { s.roo with unmuteWaits := false } }
    let s := if st = 3 then s else s.wr Reg.ROO_STAT_RANK 3
    (s.raise 0x1503 0 [st, s.rd Reg.ROO_STAT_RANK]).updateRoles

/-- A ring's descriptors that are started and not in progress complete with CANCELLED (R108). -/
def State.cancelDescs (s : State) (n : Nat) : State :=
  let r := s.ring n
  (s.setRing n { r with descs := r.descs.map (fun d =>
    if d.phase == .started || d.phase == .held then
      { d with phase := .done stCancelled 0 (s.ringBlock n) (s.ringInst n) [] } else d) }).settleRing n

/-- The command rings bound to a block instance (R84). -/
def State.ringsOf (s : State) (block inst : Nat) : List Nat :=
  (List.range 64).filter (fun n => !s.flag (Reg.HST_RING_CFG_TYPE n) && s.ringBlock n == block && s.ringInst n == inst)

/-- Descriptors of a block instance that are started and not in progress complete with CANCELLED (R108). -/
def State.cancelBlock (s : State) (block inst : Nat) : State :=
  (s.ringsOf block inst).foldl (fun s n => s.cancelDescs n) s

def wingIdle : WingSt :=
  { last := none, free := 0, reqs := [], nextStat := [], nextEcho := [], nextEnum := none, scanDue := [], scanned := [],
    enums := [], tag := 0, lmax := 0, holds := [], sides := [], fresh := [], owed := [], period := 0, setting := 4 }

def State.wing (s : State) (p : Nat) : WingSt := tblGet s.wings wingIdle p

def State.setWing (s : State) (p : Nat) (w : WingSt) : State := { s with wings := tblSet s.wings wingIdle p w }

def dmxIdle : DmxSt :=
  { free := 0, lastBreak := none, queue := [], disc := [], nextDisc := none, waits := none, waitUntil := 0, since := none,
    skip := false, tn := 0, driven := false }

def State.dmx (s : State) (p : Nat) : DmxSt := tblGet s.dmxs dmxIdle p

def State.setDmx (s : State) (p : Nat) (d : DmxSt) : State := { s with dmxs := tblSet s.dmxs dmxIdle p d }

def State.setSelfCal (s : State) (x : SelfCalSt) : State := { s with selfCal := x }

/-- Whole µs since a running CAL_RUN started (R484). -/
def State.calMicros (s : State) : Nat :=
  match s.selfCal.run with
  | some r => (s.time.elapsed - r.start) / 1000
  | none => 0

/-- Whether a run of a kind can start: a SERDES target that is enabled, LOCKED for OSC (R485). -/
def State.calReady (s : State) (kind tb ti : Nat) : Bool :=
  if kind = 2 then
    if tb = 0x0F then s.flag (Reg.WNG_CTRL_ENABLE ti) && !s.isOff 0x0F
    else if tb = 0x10 then s.flag (Reg.MAC_CTRL_ENABLE ti) && !s.isOff 0x10
    else s.flag (Reg.VIN_CTRL_ENABLE ti) && !s.isOff 0x12
  else if kind = 3 then s.rd Reg.ANT_STAT_STATE == 2
  else true

/-- A CAL_RUN completes with a status and words (R484, R485): it is counted, and reported to its ring if that is still there (R81). The
oscillator's own run reports to no ring (R483). -/
def State.calReport (s : State) (ring index status : Nat) (ws : List Nat) : State :=
  if ring = 64 then s
  else
    let s := (s.count Reg.CAL_SC_RUNS 1).wr Reg.CAL_SC_RESULT (ws.getD 1 0)
    if ring < 64 then s.complete ring index status ws else s

/-- A run begins (R485). -/
def State.calBegin (s : State) (w : CalWait) : State :=
  let kind := bitsOf w.word 0 4
  let tb := bitsOf w.word 8 8
  let ti := bitsOf w.word 16 8
  let r : CalRunSt := { ring := w.ring, index := w.index, kind := kind, gradual := bitOf w.word 4, tblock := tb, tinst := ti,
                        start := w.start, startNow := s.now, trained := false,
                        setting := if kind = 2 ∧ tb = 0x0F then (s.wing ti).setting else 0 }
  ((s.setSelfCal { s.selfCal with run := some r }).setFlag Reg.CAL_SC_STAT_BUSY true).wr Reg.CAL_SC_STAT_KIND kind

/-- With no run in progress, the first of those that wait begins; one that is not ready ends at once with CAL_NOT_READY (R485). -/
def State.calNext (s : State) : List CalWait → State
  | [] => s.setSelfCal { s.selfCal with waiting := [] }
  | w :: t =>
    if s.calReady (bitsOf w.word 0 4) (bitsOf w.word 8 8) (bitsOf w.word 16 8) then
      (s.setSelfCal { s.selfCal with waiting := t }).calBegin w
    else (s.calReport w.ring w.index 0x0841 [(s.time.elapsed - w.start) / 1000, 0, 0]).calNext t

/-- A CAL_RUN starts now (R485): it begins, or waits while another runs. -/
def State.calAsk (s : State) (ring index word : Nat) : State :=
  let w : CalWait := { ring := ring, index := index, word := word, start := s.time.elapsed }
  if s.selfCal.run.isSome then s.setSelfCal { s.selfCal with waiting := s.selfCal.waiting ++ [w] }
  else s.calNext [w]

/-- The running CAL_RUN ends with a status and words, and the next begins (R484, R485). -/
def State.calEnd (s : State) (status : Nat) (ws : List Nat) : State :=
  match s.selfCal.run with
  | none => s
  | some r =>
    let s := s.setSelfCal { s.selfCal with run := none }
    let s := (s.setFlag Reg.CAL_SC_STAT_BUSY false).wr Reg.CAL_SC_STAT_KIND 0
    let s := s.calReport r.ring r.index status ws
    s.calNext s.selfCal.waiting

/-- CAL_RUN_CANCEL (R490): the target of a running SERDES calibration is disabled; its settings are restored. -/
def State.cancelCalRun (s : State) (block inst : Nat) : State :=
  match s.selfCal.run with
  | some r =>
    if r.kind = 2 ∧ r.tblock = block ∧ r.tinst = inst then
      (if block = 0x0F then s.setWing inst { s.wing inst with setting := r.setting } else s).calEnd stCancelled []
    else s
  | none => s

/-- Whether a packet is a Wingbeat DATA frame of a port. -/
def PacketSt.onWing (q : PacketSt) (p : Nat) : Bool := match q.kind with | .wing r _ _ => r == p | _ => false

/-- The frames that a port has not sent are discarded: DATA and LATCH of every frame in emission (R321). -/
def State.discardWing (s : State) (p : Nat) : State :=
  { s with emi := { s.emi with frames := s.emi.frames.map (fun x =>
      { x with packets := x.packets.filter (fun q => !q.onWing p), wings := x.wings.filter (fun w => w.port != p) }) } }

/-- WB_DISABLE (R321, R490): the port takes no further work, what it has not sent is discarded, its queued descriptors are cancelled, and
a calibration of it ends. -/
def State.disableWing (s : State) (p : Nat) : State :=
  if s.flag (Reg.WNG_CTRL_ENABLE p) && !s.isOff 0x0F then
    (((s.setFlag (Reg.WNG_CTRL_ENABLE p) false).discardWing p).cancelBlock 0x0F p).cancelCalRun 0x0F p
  else s

/-- The states from which a cause demotes (R418). -/
def demotesFrom (cause state : Nat) : Bool :=
  if state = 1 then cause == 3 || cause == 5 || cause == 7
  else if state = 2 then cause == 2 || cause == 3 || cause == 5 || cause == 7
  else if state = 3 then true
  else if state = 4 then cause == 3 || cause == 4 || cause == 5 || cause == 7
  else false

/-- The unit demotes itself (R430): the steps in order, for a cause that its state knows; its notices in the order of R98. -/
def State.demote (s : State) (cause : Nat) : State :=
  if !demotesFrom cause s.rooState then s
  else
    let s : State := { s.wr Reg.ROO_DEMCAUSE cause with
                roo := { s.roo with leaseEnd := none, demotedAt := some s.time.elapsed, joinSince := none, lagSince := none,
                                    sagged := s.roo.sagged || cause == 7 } }
    let s := (s.raise 0x1502 0 [cause, s.rd Reg.EMI_FRAME]).setRooState 5
    let s := if cause = 7 then s.sendRoost 2 0 (beBytes 4 7) else s.sendHeartbeat
    let s := s.updateRoles
    if cause = 3 ∨ cause = 7 then (List.range 16).foldl (fun s p => s.disableWing p) s else s

/-- How the unit takes a cue (R420, R436): as a lone unit, as rank 0 into the log, or not at all. -/
inductive CueMode where
  | lone | log | reject
  deriving DecidableEq, Repr

def State.cueMode (s : State) : CueMode :=
  if !s.flag Reg.ROO_CTRL_ENABLE then (if s.roo.cueGate && s.flag Reg.OTU_STAT_RUNNING then .reject else .lone)
  else if s.rooActive then .log
  else .reject

/-- Whether the epoch being built has room for another entry (R420). -/
def State.cueRoom (s : State) : Bool := decide (s.roo.entries.length < 1024)

/-- Rank 0 logs a cue and sends its entry in a CUELOG (R420). -/
def State.logCue (s : State) (kind : Nat) (ws : List Nat) (source : Option (Nat × Nat)) : State :=
  let lsn := (s.rd Reg.ROO_LSN + 1) % 2 ^ 32
  let entry := [lsn, kind] ++ (ws ++ [0, 0, 0, 0, 0, 0]).take 6
  let s : State := { s.wr Reg.ROO_LSN lsn with
              roo := { s.roo with entries := s.roo.entries ++ [{ lsn := lsn, words := entry, source := source, replay := false }] } }
  s.sendRoost 3 0 (wordsBytes entry)

/-- A register write that is a cue (R420): acted on as a lone unit; logged on rank 0; otherwise ignored and counted. -/
def State.cueWrite (s : State) (off val : Nat) (act : State → State) : State :=
  match s.cueMode with
  | .lone => act s
  | .log => if s.cueRoom then s.logCue 3 [off, val] none else s.count Reg.ROO_NOTACT 1
  | .reject => s.count Reg.ROO_NOTACT 1

end Sys2Proof.Machine
end

