-- ==== Sys2Proof/Machine/StoreCore.lean ====
section
/-! DEFINITION. The central store's shared operations: bytes, error marks, reads and writes with their accounting, loss of a
die, and what host accesses may reach (R117-R128, R512). -/
namespace Sys2Proof.Machine

/-- The size of the store (R117). -/
def storeSize : Nat := 2 ^ 29

/-- The die and bank of a store byte address (R117). -/
def dieOf (a : Nat) : Nat := bitsOf a 8 3
def bankOf (a : Nat) : Nat := bitsOf a 11 4

/-- The canonical form of the store's bytes: addresses strictly rising, and no entry equal to the 0 that an unlisted one reads. -/
def Memory.wf (m : List (Nat × Byte)) : Bool := tblWf (fun _ => 0) m

/-- A stored byte; one never written reads 0, as the cold-start BIST leaves it (R557). -/
def State.byteAt (s : State) (a : Nat) : Byte := tblGet s.store.bytes 0 a

/-- `n` stored bytes from an address. -/
def State.bytesAt (s : State) (a n : Nat) : Bytes := (List.range n).map (fun i => s.byteAt (a + i))

/-- A little-endian 32-bit word of the store (R18). -/
def State.word32At (s : State) (a : Nat) : Nat := leNat (s.bytesAt a 4)

def State.setByte (s : State) (a : Nat) (b : Byte) : State :=
  { s with store := { s.store with bytes := tblSet s.store.bytes 0 a b } }

def State.mark (s : State) (w : Nat) : WordMark := tblGet s.store.marks .clean w

def State.setMark (s : State) (w : Nat) (m : WordMark) : State :=
  { s with store := { s.store with marks := tblSet s.store.marks .clean w m } }

/-- Whether a die is LOST (R127). -/
def State.dieLost (s : State) (d : Nat) : Bool := s.rd (Reg.STO_DIE_STAT_STATE d) == 1

/-! ### Ports and locks -/

/-- The requests waiting at a requester's port, the head request first: the 16 that its crossing FIFO takes, and behind them those that
the full FIFO holds at the sender (R34, R133). -/
def State.port (s : State) (r : Nat) : List StoreRequest := tblGet s.arb.ports [] r

def State.setPort (s : State) (r : Nat) (q : List StoreRequest) : State :=
  { s with arb := { s.arb with ports := tblSet s.arb.ports [] r q } }

/-- The commands whose access stands in a requester's port, in the order of those accesses (R133, R144). -/
def State.heldAt (s : State) (r : Nat) : List Instr := tblGet s.arb.held [] r

def State.setHeld (s : State) (r : Nat) (l : List Instr) : State :=
  { s with arb := { s.arb with held := tblSet s.arb.held [] r l } }

/-- The bursts of a die in flight, oldest first. -/
def State.bursts (s : State) (d : Nat) : List BurstSt := tblGet s.arb.bursts [] d

def State.setBursts (s : State) (d : Nat) (l : List BurstSt) : State :=
  { s with arb := { s.arb with bursts := tblSet s.arb.bursts [] d l } }

/-- When a die's next slot is free, by the oscillator (R119, R134). -/
def State.slotFree (s : State) (d : Nat) : Nat := tblGet s.arb.slots 0 d

def State.setSlot (s : State) (d t : Nat) : State := { s with arb := { s.arb with slots := tblSet s.arb.slots 0 d t } }

def LockSt.length (l : LockSt) : Nat := 256 * 2 ^ l.size

/-- Whether two byte ranges overlap. -/
def overlaps (a n b m : Nat) : Bool := decide (a < b + m) && decide (b < a + n)

/-- Whether a range touches a region that another requester holds (R134, R143). -/
def State.lockedAgainst (s : State) (r a n : Nat) : Bool :=
  s.arb.locks.any (fun l => l.owner != r && overlaps a n l.base l.length)

/-- The beats of a range of `n` bytes (R118). -/
def beatsOf (a n : Nat) : Nat := if n = 0 then 0 else (a + n - 1) / 32 - a / 32 + 1

/-- Of the beats 0 to `b` - 1 of the store, how many lie on a die (R117). -/
def beatsBelow (d b : Nat) : Nat := b / 64 * 8 + min 8 (b % 64 - 8 * d)

/-- The beats of a range that lie on a die (R117, R118). -/
def beatsOn (d a n : Nat) : Nat := beatsBelow d (a / 32 + beatsOf a n) - beatsBelow d (a / 32)

/-- Beats move on the dies of a range (R150); a lost die moves none (R127). -/
def State.moveBeats (s : State) (a n : Nat) : State :=
  (List.range 8).foldl (fun s d =>
    let k := beatsOn d a n
    if k = 0 ∨ s.dieLost d = true then s else s.count (Reg.STO_DIE_BUSY d) k) s

/-! ### Requests and their bursts -/

/-- The bytes of a request that writes: a masked write's, or a line's (R119, R157). -/
def reqData (q : StoreRequest) : List (Option Byte) :=
  match q.op with
  | .write data => data
  | .writeBack data _ => data.map some
  | _ => []

/-- The beats of a request (R119). -/
def reqBeats (q : StoreRequest) : Nat :=
  match q.op with
  | .read b => b.val + 1
  | .write data => (data.length + q.addr.toNat % 32 + 31) / 32
  | .writeBack .. => 2
  | _ => 1

/-- The bytes a request touches. -/
def reqBytes (q : StoreRequest) : Nat :=
  match q.op with
  | .read b => 32 * (b.val + 1)
  | .write data => data.length
  | .writeBack .. => 64
  | _ => 8

/-- Whether beat `k` of a masked write covers a 64-bit word in part, which costs the die one extra cycle (R118). -/
def reqMerges (q : StoreRequest) (k : Nat) : Bool :=
  let a := q.addr.toNat
  let base := a / 32 * 32 + 32 * k
  (List.range 4).any (fun w =>
    let c := (List.range 8).countP (fun j =>
      decide (a ≤ base + 8 * w + j) && (((reqData q).drop (base + 8 * w + j - a)).head?.getD none).isSome)
    decide (0 < c) && decide (c < 8))

/-- The cycles that a die takes for the first `k` beats of a request (R118). -/
def reqCycles (q : StoreRequest) (k : Nat) : Nat := k + (List.range k).countP (fun j => reqMerges q j)

/-- Whether a request's first beat, or its last, writes: a lock word is read and then written (R118, R142). -/
def reqWritesFirst (q : StoreRequest) : Bool := match q.op with | .write _ | .writeBack .. => true | _ => false
def reqWritesLast (q : StoreRequest) : Bool := match q.op with | .read _ | .command => false | _ => true

/-- The cycle in which beat `k` of a burst moves: its first 2 cycles after the grant, or 3 where the die changes between reading and
writing (R118, R119) (log 124). -/
def BurstSt.beatAt (b : BurstSt) (k : Nat) : Nat := b.granted + 2 + b2n b.turn + reqCycles b.request k

/-- When a burst moves its last beat (R119). -/
def BurstSt.lastBeat (b : BurstSt) : Nat := b.beatAt (reqBeats b.request - 1)

/-- When a die's next slot is free after a burst, so that its first beat can follow the burst's last (R118, R119) (log 124). -/
def BurstSt.slotAfter (b : BurstSt) : Nat := b.granted + b2n b.turn + reqCycles b.request (reqBeats b.request)

/-- The beats of a burst that have moved; the one in flight counts, since it completes when a burst is cut (R119, R140, R145). -/
def State.movedBeats (s : State) (b : BurstSt) : Nat :=
  (List.range (reqBeats b.request)).countP (fun k => decide (b.beatAt k ≤ s.time.elapsed))

/-- Whether a requester's burst still moves on some die: its next request becomes eligible in the cycle of the last beat (R119). -/
def State.midBurst (s : State) (r : Nat) : Bool :=
  s.arb.bursts.any (fun e => e.2.any (fun b => b.request.requester.val == r && decide (s.time.elapsed < b.lastBeat)))

/-! ### The order of grants -/

/-- The lock a requester holds. -/
def State.lockOf (s : State) (r : Nat) : Option LockSt := s.arb.locks.find? (fun l => l.owner == r)

/-- Whether a head request waits on a locked region, or for one of the 16 locks (R134, R142). -/
def State.lockedOut (s : State) (q : StoreRequest) : Bool :=
  let r := q.requester.val
  let a := q.addr.toNat
  match q.op with
  | .lockBegin size =>
    (s.lockOf r).isNone &&
      (decide (16 ≤ s.arb.locks.length) || s.arb.locks.any (fun l => overlaps a (256 * 2 ^ size.val) l.base l.length))
  | .lockEnd _ => false
  | _ => s.lockedAgainst r (a / 256 * 256) 256

/-- Whether a head request is eligible (R119, R134, R142). -/
def State.eligible (s : State) (q : StoreRequest) : Bool := !s.midBurst q.requester.val && !s.lockedOut q

/-- Whether a request belongs to a locked sequence of its owner (R134). -/
def State.isLocked (s : State) (q : StoreRequest) : Bool :=
  match s.lockOf q.requester.val with
  | some l => overlaps q.addr.toNat (reqBytes q) l.base l.length
  | none => false

/-- Whether one candidate goes before another on a die (R134); a lock owner keeps its priority until the release (R135). -/
def State.outranks (s : State) (x y : StoreRequest) : Bool :=
  let since (q : StoreRequest) := match s.lockOf q.requester.val with | some l => l.since | none => 0
  let prio (q : StoreRequest) : Nat := match s.lockOf q.requester.val with | some l => l.prio | none => s.rd (Reg.ARB_PRIO q.requester.val)
  let age (q : StoreRequest) := s.rd (Reg.ARB_REQ_STAT_AGE q.requester.val)
  if s.isLocked x != s.isLocked y then s.isLocked x
  else if s.isLocked x && s.isLocked y && since x != since y then decide (since x < since y)
  else if prio x != prio y then decide (prio y < prio x)
  else if age x != age y then decide (age y < age x)
  else decide (x.requester.val < y.requester.val)

/-- The first of a list of candidates. -/
def State.bestOf (s : State) : List StoreRequest → Option StoreRequest
  | [] => none
  | x :: t =>
    match s.bestOf t with
    | some y => if s.outranks y x then some y else some x
    | none => some x

/-- The head requests that target a die. -/
def State.heads (s : State) (d : Nat) : List StoreRequest :=
  s.arb.ports.filterMap (fun p => match p.2 with
    | q :: _ => if dieOf q.addr.toNat = d then some q else none
    | [] => none)

/-- The head request that a die's slot goes to (R134). -/
def State.winner (s : State) (d : Nat) : Option StoreRequest := s.bestOf ((s.heads d).filter (fun q => s.eligible q))

/-! ### The accesses of a command -/

/-- A command's access as the arbiter sees it. -/
def accessOf (r a : Nat) : StoreRequest := { requester := Fin.ofNat 57 r, addr := BitVec.ofNat 29 a, op := .command }

/-- Whether a die cannot take a command's access now: its next slot is not free, a burst of it has still to be performed, or an eligible
head request that goes before the access waits for it (R134). -/
def State.dieTaken (s : State) (r a d : Nat) : Bool :=
  decide (s.time.elapsed < s.slotFree d) || !(s.bursts d).isEmpty || (match s.winner d with | some q => s.outranks q (accessOf r a) | none => false)

/-- Whether an access of the emission engine's requester is the event calendar's (R128, R132). -/
def ofCalendar (r a : Nat) : Bool := r == 24 && decide (0x1F800000 ≤ a) && decide (a < 0x1FA00000)

/-- The requests that go before an access at its port: all that wait there; those of the event calendar are merged ahead of the emission
engine's (R122, R132, R133). -/
def State.aheadOf (s : State) (r a : Nat) : List StoreRequest :=
  if ofCalendar r a then (s.port r).takeWhile (fun q => ofCalendar r q.addr.toNat) else s.port r

/-- Whether an access of a command cannot happen yet: another requester has locked the region, earlier requests of its own wait at its
port or still move, or a die that it reaches is taken (R122, R133, R134, R143, R144). -/
def State.heldUp (s : State) (r a n : Nat) : Bool :=
  s.lockedAgainst r a n || !(s.aheadOf r a).isEmpty || s.midBurst r ||
    (List.range 8).any (fun d => decide (0 < beatsOn d a n) && s.dieTaken r a d)

/-- An access of a requester is granted, with its beats counted (R150, R151); `wait` says that it cannot happen yet. -/
def State.granted (s : State) (wait : Bool) (req a n : Nat) : State :=
  let s : State := if wait && s.arb.waiting.isNone then { s with arb := { s.arb with waiting := some (req, a) } } else s
  (s.count (Reg.ARB_REQ_GRANTS req) (beatsOf a n)).moveBeats a n

/-- An access that a command makes itself, as the arbiter sees it. -/
def State.reach (s : State) (req a n : Nat) : State := s.granted (s.heldUp req a n) req a n

/-- A command waits for one of its accesses, which joins its requester's port (R133, R144) (log 122). -/
def State.holdCommand (s : State) (c : Instr) (r a : Nat) : State :=
  let front := s.aheadOf r a
  let k := front.countP (fun q => q.op == .command)
  (s.setPort r (front ++ accessOf r a :: (s.port r).drop front.length)).setHeld r ((s.heldAt r).take k ++ c :: (s.heldAt r).drop k)

/-- A command is to wait, at a requester's port. -/
def State.mustWait (s : State) (r a : Nat) : State := { s with arb := { s.arb with waiting := some (r, a) } }

/-- What a command leaves: where one of its accesses cannot happen yet, the command waits, and nothing else has changed (R133, R144) (log
122). -/
def State.orWaits (s : State) (c : Instr) (t : State) : State :=
  match s.arb.waiting, t.arb.waiting with
  | none, some (r, a) => s.holdCommand c r a
  | _, _ => t

/-- The answer of a command that reaches the store. -/
def State.atStore (s : State) (c : Instr) : Answer → Answer
  | .next t => .next (s.orWaits c t)
  | a => a

/-! ### Errors -/

/-- The state of dies that are LOST (R127). -/
def State.loseDies (s : State) (dies : List Nat) : State :=
  dies.foldl (fun s d => (s.wr (Reg.STO_DIE_STAT_STATE d) 1).wr Reg.STO_STAT_DIE_LOST
    (Nat.lor (s.rd Reg.STO_STAT_DIE_LOST) (2 ^ d))) s

/-- Dies are declared LOST (R127): their state, STORE_ECC_FATAL with the die or 0xFF, and the unit's demotion. The emission
engine's stop is tested at first launch. -/
def State.declareLost (s : State) (dies : List Nat) (inst cause : Nat) : State :=
  ((s.loseDies dies).raise 0x0203 inst [cause]).demote 3

/-- A corrected error counts; crossing STO_CE_LEVEL upward raises STORE_ECC_CE_HIGH (R123). -/
def State.countCorrected (s : State) (d : Nat) : State :=
  let old := s.rd (Reg.STO_DIE_CE_COUNT d)
  let s := s.count (Reg.STO_DIE_CE_COUNT d) 1
  let new := s.rd (Reg.STO_DIE_CE_COUNT d)
  let level := s.rd Reg.STO_CE_LEVEL
  if old < level ∧ level ≤ new then s.raise 0x0201 d [new] else s

/-- An uncorrectable error is detected by a read of a requester (R124): counted, captured, raised, and held against
STO_UE_FATAL within 1 ms (R127). -/
def State.detectError (s : State) (req w : Nat) : State :=
  let d := dieOf w
  let s := (s.setMark w .detected).count (Reg.STO_DIE_UE_COUNT d) 1
  let s := if s.flag Reg.STO_UEINFO_VALID then s
    else ((((s.wr Reg.STO_UEADDR w).wr Reg.STO_UEINFO_REQ req).wr Reg.STO_UEINFO_DIE d).wr Reg.STO_UEINFO_BANK
      (bankOf w)).setFlag Reg.STO_UEINFO_VALID true
  let s := s.raise 0x0202 d [w, req, bankOf w]
  let times := s.time.elapsed :: (tblGet s.store.ueTimes [] d).filter (fun t => s.time.elapsed < t + 1000000)
  let s : State := { s with store := { s.store with ueTimes := tblSet s.store.ueTimes [] d times } }
  if s.rd Reg.STO_UE_FATAL < times.length ∧ s.dieLost d = false then s.declareLost [d] d 3 else s

/-- The accounting of a read of one word (R123, R124); a lost die's word has none (R127). -/
def State.readMark (s : State) (req w : Nat) : State :=
  if s.dieLost (dieOf w) then s
  else match s.mark w with
    | .single _ => (s.setMark w (.single true)).countCorrected (dieOf w)
    | .double => s.detectError req w
    | _ => s

/-- The marked words of a byte range. -/
def State.markedIn (s : State) (a n : Nat) : List Nat :=
  (s.store.marks.filter (fun e => decide (a / 8 * 8 ≤ e.1) && decide (e.1 < a + n))).map (·.1)

/-- The accounting of a read of `n` bytes by a requester. -/
def State.accountRead (s : State) (req a n : Nat) : State := (s.markedIn a n).foldl (fun s w => s.readMark req w) s

/-- A read of `n` bytes by a requester, as the arbiter sees it and with its accounting (R119, R123, R124). -/
def State.touch (s : State) (req a n : Nat) : State := (s.reach req a n).accountRead req a n

/-- Whether the word that holds an address reads as POISON, once its read has been accounted for (R124, R127). -/
def State.poisoned (s : State) (a : Nat) : Bool :=
  s.dieLost (dieOf a) || (match s.mark (a / 8 * 8) with | .double | .detected | .poison => true | _ => false)

/-- Whether a read of `n` bytes meets a POISON word (R125). -/
def State.poisonIn (s : State) (a n : Nat) : Bool :=
  (List.range ((a + n + 7) / 8 - a / 8)).any (fun i => s.poisoned (a / 8 * 8 + 8 * i))

/-- What a write does to the mark of a word it reaches: all eight bytes clear it; a part merges under R123 and R124. -/
def State.writeMark (s : State) (req a n w : Nat) (whole : Bool) : State :=
  if s.dieLost (dieOf w) then s
  else if whole && decide (a ≤ w) && decide (w + 8 ≤ a + n) then s.setMark w .clean
  else match s.mark w with
    | .single _ => (s.setMark w .clean).countCorrected (dieOf w)
    | .double => (s.detectError req w).setMark w .poison
    | .detected => s.setMark w .poison
    | _ => s

/-- The bytes of a masked write are put in place; a lost die drops them (R127). -/
def State.putBytes (s : State) : Nat → List (Option Byte) → State
  | _, [] => s
  | a, none :: t => s.putBytes (a + 1) t
  | a, some b :: t => (if s.dieLost (dieOf a) then s else s.setByte a b).putBytes (a + 1) t

/-- What a masked write puts in the store (R118, R123, R124): words of which it writes no byte keep their marks. -/
def State.putMasked (s : State) (req a : Nat) (data : List (Option Byte)) : State :=
  let n := data.length
  let part (w : Nat) := (data.drop (w - a)).take (w + 8 - max w a)
  let ws := (s.markedIn a n).filter (fun w => (part w).any (·.isSome))
  (ws.foldl (fun s w => s.writeMark req a n w ((part w).all (·.isSome))) s).putBytes a data

/-- A masked write by a requester, as the arbiter sees it (R119) (log 52). -/
def State.storeMasked (s : State) (req a : Nat) (data : List (Option Byte)) : State :=
  (s.reach req a data.length).putMasked req a data

/-- A block's own words, whose layout the spec does not give, are written whole: errors in them are gone, and a lost die drops the write
(R123, R127) (log 121). -/
def State.storeUnlaid (s : State) (req a n : Nat) : State :=
  ((s.reach req a n).markedIn a n).foldl (fun s w => if s.dieLost (dieOf w) then s else s.setMark w .clean) (s.reach req a n)

/-- A write of bytes by a requester. -/
def State.storeWrite (s : State) (req a : Nat) (data : Bytes) : State := s.storeMasked req a (data.map some)

/-- Whether the host and the Hawk cores may write a byte of the store (R128, R512). -/
def State.hostMayWrite (s : State) (a : Nat) : Bool :=
  decide (a < 0x1F800000) && !(s.sealedRegions.any (fun r => decide (r.1 ≤ a) && decide (a < r.1 + r.2)))

/-- The bytes of a host or Hawk write that are written: those outside the refused ranges (R128). -/
def State.allowedBytes (s : State) (a : Nat) (data : List (Option Byte)) : List (Option Byte) :=
  data.zipIdx.map (fun p => if s.hostMayWrite (a + p.2) then p.1 else none)

/-- A host or Hawk write that meets a refused range counts once (R128). -/
def State.denyWrite (s : State) (a : Nat) (data : List (Option Byte)) : State :=
  if s.allowedBytes a data = data then s else s.count Reg.STO_WINDENY 1

/-- A host or Hawk write: the permitted bytes are written, and meeting a refused range counts once (R128). -/
def State.hostStore (s : State) (req a : Nat) (data : List (Option Byte)) : State :=
  (s.denyWrite a data).putMasked req a (s.allowedBytes a data)

/-- A host or Hawk read that reaches the Chrysalis area counts once (R128). -/
def State.denyRead (s : State) (a n : Nat) : State := if 0x1FE00000 < a + n then s.count Reg.STO_WINDENY 1 else s

/-- Whether a byte lies in an area whose contents the spec gives no layout for: the event calendar and the Roost epochs (R128) (log
121). -/
def unlaid (a : Nat) : Bool := decide (0x1F800000 ≤ a) && decide (a < 0x1FC00000)

/-- The bytes that a host or Hawk read returns: 0 in the Chrysalis area, free values in an area without a layout, and stored bytes
elsewhere (R128). -/
def State.readableBytes (s : State) (req a n : Nat) : State × Bytes :=
  let s := s.accountRead req a (min n (0x1FE00000 - a))
  let data := (List.range n).map (fun i =>
    if 0x1FE00000 ≤ a + i then 0 else if unlaid (a + i) then (Config.freeValue (s.fresh + i)).setWidth 8 else s.byteAt (a + i))
  (if unlaid a || unlaid (a + n - 1) then { s with fresh := s.fresh + n } else s, data)

/-- A host or Hawk read: the Chrysalis area reads 0 and counts once (R128). -/
def State.hostLoad (s : State) (req a n : Nat) : State × Bytes := (s.denyRead a n).readableBytes req a n

/-- The words of a range that read as POISON (R125). -/
def State.poisonWords (s : State) (a n : Nat) : List Nat :=
  if s.poisonIn a n then ((List.range ((a + n + 7) / 8 - a / 8)).map (fun i => a / 8 * 8 + 8 * i)).filter s.poisoned else []

end Sys2Proof.Machine
end

