-- ==== Sys2Proof/Machine/HawkCore.lean ====
section
/-! DEFINITION. What the store and the calendar share with the Hawk cores, the scheduler and the hardware queues: access faults,
queue pushes and pops, completion records and the offer of task words (R162-R180). -/
namespace Sys2Proof.Machine

/-- An access fault of a core (R162, R184): cause and address are recorded, counted and raised, and the core takes it. Where its program
stands the model does not say, so mepc is free (log 126). -/
def State.hawkFault (s : State) (n cause addr : Nat) : State :=
  let s := (s.wr (Reg.HWK_MCAUSE n) cause).wr64 (Reg.HWK_MTVAL_LO n) (Reg.HWK_MTVAL_HI n) addr
  let s := (s.count (Reg.HWK_FAULTS n) 1).setFlag (Reg.HWK_STAT_FAULTED n) true
  let (pc, s) := s.free
  (s.raise 0x0401 n [cause, pc % 2 ^ 32, pc / 2 ^ 32, addr % 2 ^ 32, addr / 2 ^ 32]).trapCore n pc cause addr

/-! ### Hardware queues -/

/-- The words a queue holds, oldest first. -/
def State.queue (s : State) (q : Nat) : List Nat := tblGet s.queues [] q

/-- Whether a queue is READY (R180). -/
def readyOf (cut : Nat) (ws : List Nat) : Bool :=
  (decide (cut ≠ 0) && decide (cut ≤ ws.length)) || ws.any (fun w => bitOf w 62)

/-- A queue takes new contents; FILL and READY follow (R179, R180). -/
def State.setQueue (s : State) (q : Nat) (ws : List Nat) : State :=
  let s : State := { s with queues := tblSet s.queues [] q ws }
  (s.wr (Reg.QUE_LEVEL_FILL q) ws.length).setFlag (Reg.QUE_STAT_READY q) (readyOf (s.rd (Reg.QUE_CFG q)) ws)

/-- Whether a queue is enabled; queues 30 and 31 always are (R181, R182). -/
def State.queueOn (s : State) (q : Nat) : Bool := s.flag (Reg.QUE_CTRL q) || decide (30 ≤ q)

/-- An upward crossing of THRESH is counted and raised (R179). -/
def State.crossing (s : State) (q before : Nat) : State :=
  let th := s.rd (Reg.QUE_LEVEL_THRESH q)
  let fill := (s.queue q).length
  if th ≠ 0 ∧ before < th ∧ th ≤ fill then
    let quiet := !s.flag (Reg.QUE_STAT_NOTICE q)
    let s := (s.count (Reg.QUE_STAT_XCNT q) 1).setFlag (Reg.QUE_STAT_NOTICE q) true
    if quiet then s.raise 0x0601 q [s.rd (Reg.QUE_STAT_XCNT q), fill] else s
  else s

/-- A word lands in a queue that has room; a READY that rises may interrupt cores that wait (R156, R165). Where the access before it was
a pop in the same CORE cycle, the two leave FILL unchanged and cause no crossing (R177, R179) (log 160). -/
def State.queueAdd (s : State) (q w : Nat) : State :=
  let ws := s.queue q
  let before := if tblGet s.queuePops none q = some (coreCycles s.time.elapsed) then ws.length + 1 else ws.length
  let s : State := { s with queuePops := tblSet s.queuePops none q none }
  ((s.setQueue q (ws ++ [w % 2 ^ 63])).crossing q before).wakeNext

/-- A core whose completion record waits for a queue. -/
def State.recordCore (s : State) (q : Nat) : Option Nat :=
  (List.range 8).find? (fun n => match (s.hawk n).record with | some r => r.1 == q | none => false)

/-- One completion record that waits for a queue lands where there is room, and its core becomes free; those of cancelled tasks go first, in
the order in which they came, and then the cores' in ascending number (R170, R176) (log 127). -/
def State.landRecord (s : State) (q : Nat) : State :=
  if s.queueOn q && decide (256 ≤ (s.queue q).length) then s
  else
    let put (s : State) (rec_ : Nat) : State := if s.queueOn q then s.queueAdd q rec_ else s.count (Reg.QUE_DISCARD q) 1
    match s.tsk.records.find? (fun r => r.1 == q) with
    | some r => put { s with tsk := { s.tsk with records := s.tsk.records.erase r } } r.2
    | none => match s.recordCore q with
      | some n => match (s.hawk n).record with
        | some r => put (s.setHawk n { s.hawk n with record := none }) r.2
        | none => s
      | none => s

/-- At most a number of completion records that wait for a queue land. -/
def State.landSome (s : State) (q : Nat) : Nat → State
  | 0 => s
  | k + 1 => (s.landRecord q).landSome q k

/-- The completion records that wait for a queue take its free slots ahead of any other push (R176). -/
def State.landRecords (s : State) (q : Nat) : State :=
  if s.tsk.records.any (fun r => r.1 == q) || (s.recordCore q).isSome then s.landSome q (s.tsk.records.length + 8) else s

/-- A push by the host or a core (R176, R178, R181, R182): records that wait for the queue go before it. -/
def State.queuePush (s : State) (q w : Nat) : State :=
  let s := s.landRecords q
  if q = 31 ∨ s.queueOn q = false then s.count (Reg.QUE_DISCARD q) 1
  else if 256 ≤ (s.queue q).length then
    let quiet := !s.flag (Reg.QUE_STAT_OVERFLOW q)
    let s := (s.setFlag (Reg.QUE_STAT_OVERFLOW q) true).count (Reg.QUE_OVFCNT q) 1
    if quiet then s.raise 0x0602 q [s.rd (Reg.QUE_OVFCNT q)] else s
  else s.queueAdd q w

/-- The empty word of a queue (R175). -/
def emptyWord (q : Nat) : Nat := q * 2 ^ 56

/-- A pop by the host or a core (R175, R176, R182): the head word with VALID, or the empty word. -/
def State.queuePop (s : State) (q : Nat) : State × Nat :=
  match s.queue q with
  | w :: t =>
    if q = 30 then (s, emptyWord q)
    else
      let s : State := { s with queuePops := tblSet s.queuePops none q (some (coreCycles s.time.elapsed)) }
      (s.setQueue q t, w + 2 ^ 63)
  | [] => (s, emptyWord q)

/-! ### Completion records and tasks -/

/-- The fields of a task word (R163). -/
def taskFunc (w : Nat) : Nat := bitsOf w 0 12
def taskCq (w : Nat) : Nat := bitsOf w 12 5
def taskCqEn (w : Nat) : Bool := bitOf w 17
def taskLate (w : Nat) : Bool := bitOf w 18
def taskBudget (w : Nat) : Nat := bitsOf w 20 4
def taskMask (w : Nat) : Nat := if bitsOf w 24 8 = 0 then 255 else bitsOf w 24 8
def taskArg (w : Nat) : Nat := bitsOf w 32 32

/-- Whether a task word names an invalid completion queue (R164). -/
def taskInvalid (w : Nat) : Bool := taskCqEn w && (taskCq w == 30 || taskCq w == 31)

/-- A completion record (R170). -/
def taskRecord (w status core run : Nat) (overrun : Bool) : Nat :=
  taskFunc w + core % 8 * 2 ^ 12 + status % 4 * 2 ^ 15 + b2n overrun * 2 ^ 17 + b2n (taskLate w) * 2 ^ 18 +
    taskArg w * 2 ^ 20 + min run 1023 * 2 ^ 52 + 2 ^ 62

/-- A record goes to its queue behind those that wait for it: discarded when that is disabled, waiting when it is full (R170). The answer
says whether it waits. -/
def State.pushRecord (s : State) (q rec : Nat) : State × Bool :=
  let s := s.landRecords q
  if s.queueOn q = false then (s.count (Reg.QUE_DISCARD q) 1, false)
  else if 256 ≤ (s.queue q).length then (s, true)
  else (s.queueAdd q rec, false)

/-- A task that reaches no core is cancelled (R164): counted, with a record when it asks for one. -/
def State.cancelTask (s : State) (w : Nat) : State :=
  let s := s.count Reg.TSK_CANCEL 1
  if taskCqEn w then
    let rec_ := taskRecord w 1 0 0 false
    let (s, waits) := s.pushRecord (taskCq w) rec_
    if waits then { s with tsk := { s.tsk with records := s.tsk.records ++ [(taskCq w, rec_)] } } else s
  else s

/-- The words of a ready queue, oldest first. -/
def State.readyQueue (s : State) (k : Nat) : List Nat := tblGet s.tsk.ready [] k

/-- A ready queue takes new contents; FILL and the head's time follow. `newHead` says that another word heads it now. -/
def State.setReady (s : State) (k : Nat) (ws : List Nat) (newHead : Bool) : State :=
  let since := if newHead then tblSet s.tsk.headSince 0 k s.time.elapsed else s.tsk.headSince
  let s : State := { s with tsk := { s.tsk with ready := tblSet s.tsk.ready [] k ws, headSince := since } }
  s.wr (Reg.TSK_Q_STAT_FILL k) ws.length

/-- Whether the scheduler and a ready queue both take words (R174). -/
def State.readyOn (s : State) (k : Nat) : Bool := s.flag Reg.TSK_CTRL_ENABLE && s.flag (Reg.TSK_Q_CTRL k)

/-- Whether a ready queue is full (R168). -/
def State.readyFull (s : State) (k : Nat) : Bool := decide (1024 ≤ (s.readyQueue k).length)

/-- A word lands in a ready queue that has room. -/
def State.readyAdd (s : State) (k w : Nat) : State :=
  let ws := s.readyQueue k
  s.setReady k (ws ++ [w]) ws.isEmpty

end Sys2Proof.Machine
end

