-- ==== Sys2Proof/Machine/Load.lean ====
section
/-! DEFINITION. What a host write does to the fields of a register by its access type (R15-R17). -/
namespace Sys2Proof.Machine

/-- Whether a field defines an encoding (R17). -/
def Legal.ok : Legal → Nat → Bool
  | .any, _ => true
  | .range lo hi, v => decide (lo ≤ v) && decide (v ≤ hi)
  | .zeroOr lo hi, v => v == 0 || (decide (lo ≤ v) && decide (v ≤ hi))
  | .mult k, v => v % k == 0
  | .codes l, v => l.contains v

/-- A field's new value under a write: loaded, cleared by ones, or kept (R15, R17). -/
def FieldInfo.written (f : FieldInfo) (old v : Nat) : Nat :=
  match f.acc with
  | .rw | .rws =>
    if f.legal.ok v then v / 2 ^ f.lowZero * 2 ^ f.lowZero else old
  | .w1c => Nat.xor old (Nat.land old v)
  | .ro | .wo => old

/-- A register word after a write, field by field. -/
def RegRow.written (r : RegRow) (w v : Nat) : Nat :=
  r.fields.foldl (fun w f => withBits w f.lsb f.width (f.written (bitsOf w f.lsb f.width) (bitsOf v f.lsb f.width))) w

/-- A write of a register by the access types of its fields; an offset that no table lists is not written (R15-R17, R27). -/
def State.loadReg (s : State) (off v : Nat) : State :=
  match regRow? off with
  | some r => s.setWord off (BitVec.ofNat 32 (r.written (s.word off).toNat v))
  | none => s

end Sys2Proof.Machine
end

