-- ==== Sys2Proof/Machine/Antenna.lean ====
section
/-! DEFINITION. Antenna's device time and its discipline: source selection, holdover, acquisition, measurements, steps, and
genlock (R41-R52). -/
namespace Sys2Proof.Machine

/-! ### Sources -/

/-- A list of codes up to its first 0. -/
def untilZero : List Nat → List Nat
  | [] => []
  | 0 :: _ => []
  | c :: t => c :: untilZero t

/-- The source codes of ANT_SRCSEL in priority order; the first 0 ends the list (R48, R76). -/
def State.sourceList (s : State) : List Nat :=
  untilZero [s.rd Reg.ANT_SRCSEL_SRC0, s.rd Reg.ANT_SRCSEL_SRC1, s.rd Reg.ANT_SRCSEL_SRC2, s.rd Reg.ANT_SRCSEL_SRC3]

/-- Whether a source code is valid (ANT_STAT.VALID). -/
def State.sourceValid (s : State) (c : Nat) : Bool := decide (c ≠ 0) && bitOf (s.rd Reg.ANT_STAT_VALID) (c - 1)

/-- The highest-priority valid source in the list. -/
def State.bestSource (s : State) : Option Nat := s.sourceList.find? s.sourceValid

def sourceIdle : SourceSt :=
  { validSince := none, expected := none, last := none, lastElapsed := 0, lastMaster := 0, bad := 0 }

def State.source (s : State) (c : Nat) : SourceSt := tblGet s.ant.sources sourceIdle c

def State.setSource (s : State) (c : Nat) (x : SourceSt) : State :=
  { s with ant := { s.ant with sources := tblSet s.ant.sources sourceIdle c x } }

/-- Whether ACQUIRE or LOCKED measures a source now. -/
def State.measuring (s : State) (c : Nat) : Bool :=
  (s.rd Reg.ANT_STAT_STATE == 1 || s.rd Reg.ANT_STAT_STATE == 2) && s.rd Reg.ANT_STAT_ACTIVE == c

/-! ### Show contexts as a step of device time sees them -/

def ctxIdle : CtxSt := { pb := 0, tb := 0, cmd := none, rewrite := false }

def State.ctx (s : State) (n : Nat) : CtxSt := tblGet s.ctxs ctxIdle n

def State.setCtx (s : State) (n : Nat) (x : CtxSt) : State := { s with ctxs := tblSet s.ctxs ctxIdle n x }

def pulseIdle : PulseSt :=
  { periodic := false, activeLow := false, width := 0, period := 0, next := none, pulseEnd := none }

def State.pulse (s : State) (k : Nat) : PulseSt := tblGet s.pulses pulseIdle k

def State.setPulse (s : State) (k : Nat) (x : PulseSt) : State := { s with pulses := tblSet s.pulses pulseIdle k x }

/-- A once-mode pulse whose instant a forward step skips fires at the next TIME cycle, late (R52, R72) (log 89). -/
def State.skipPulse (s : State) (old : Nat) (k : Nat) : State :=
  let p := s.pulse k
  match p.next with
  | some t =>
    if p.periodic = false ∧ old < t ∧ t ≤ s.time.acc then
      ((s.setPulse k { p with next := some (s.time.acc + timeInc s.time.rho) }).setFlag (Reg.ANT_TP_STAT_LATE k) true).raise 0x0707 k []
    else s
  | none => s

/-- An instant moved by a step of device time. -/
def stepped (d : Int) (t : Nat) : Nat := ((t : Int) + d).toNat

/-- What was measured before a step of `e` ns is held against the stepped device time: the events of sources and position references,
the open PTP exchanges, the tracker's beats and the last LTC word. No interval across the step changes (R52) (log 143). -/
def State.stepMeasures (s : State) (e : Int) : State :=
  let d := e * 2 ^ 32
  let src (x : SourceSt) : SourceSt := { x with expected := x.expected.map (stepped d), last := x.last.map (stepped d) }
  let p := s.ant.ptp
  let ptp : PtpSt := { p with sync := p.sync.map (fun y => { y with t2 := stepped e y.t2 }), lastDelay := p.lastDelay.map (· - e),
                              delayOpen := p.delayOpen.map (fun q => (q.1, stepped e q.2.1, stepped e q.2.2)),
                              lastAnnounce := p.lastAnnounce.map (stepped e) }
  let k := s.trk
  { s with
    ant := { s.ant with sources := s.ant.sources.map (fun x => (x.1, src x.2)), ptp := ptp }
    refs := s.refs.map (fun r => (r.1, { r.2 with last := if r.2.last = 0 then 0 else stepped d r.2.last }))
    trk := { k with onsets := k.onsets.map (stepped e), next := k.next.map (stepped e), taps := k.taps.map (stepped e),
                    last := k.last.map (stepped e), loudAt := stepped e k.loudAt }
    ltc := { s.ltc with last := if s.ltc.last = 0 then 0 else stepped e s.ltc.last } }

/-- A step of extended device time by `e` ns (R51, R52, R155): every context's anchor moves with it, so no position jumps. -/
def State.stepTime (s : State) (e : Int) : State :=
  let old := s.time.acc
  let s : State := { s.stepMeasures e with time := { s.time with acc := low 96 ((old : Int) + e * 2 ^ 32) } }
  let s := (List.range 128).foldl (fun s n => s.setCtx n { s.ctx n with tb := (s.ctx n).tb + e * 2 ^ 32 }) s.compareTime
  let s := s.raise 0x0704 0 [low 32 e, low 32 (e / 2 ^ 32)]
  (List.range 8).foldl (fun s k => s.skipPulse old k) s

/-! ### The discipline's states -/

/-- The phase target of PTP (R51). -/
def State.phaseTarget (s : State) : Int := sext 64 (s.rd64 Reg.ANT_OFFSET_LO Reg.ANT_OFFSET_HI)

def State.setPhaseTarget (s : State) (e : Int) : State := s.wr64 Reg.ANT_OFFSET_LO Reg.ANT_OFFSET_HI (low 64 e)

/-- What an entry to ACQUIRE with PTP from FREERUN or HOLDOVER does with E (R51). -/
def State.acquirePhase (s : State) (e : Int) : State :=
  let running := s.flag Reg.OTU_STAT_RUNNING
  let stepEn := s.flag Reg.ANT_CTRL_STEP_EN
  if e.natAbs ≤ s.rd Reg.ANT_STEPTHR then (s.setPhaseTarget 0).setFlag Reg.ANT_STAT_STEP_BLOCKED false
  else if stepEn && !running then ((s.setPhaseTarget 0).setFlag Reg.ANT_STAT_STEP_BLOCKED false).stepTime e
  else (s.setPhaseTarget e).setFlag Reg.ANT_STAT_STEP_BLOCKED (running && stepEn)

/-- FREERUN: the rate slews to 0 (R45). -/
def State.enterFreerun (s : State) : State :=
  let s := (s.wr Reg.ANT_STAT_STATE 0).wr Reg.ANT_STAT_ACTIVE 0
  { s with time := { s.time with rhoTarget := 0 }, ant := { s.ant with dwellUntil := none } }

/-- ACQUIRE of a source; `ptp` is the PTP time measured on entry, in ns (R45, R50, R51). -/
def State.enterAcquire (s : State) (c : Nat) (ptp : Nat) : State :=
  let s := (s.wr Reg.ANT_STAT_STATE 1).wr Reg.ANT_STAT_ACTIVE c
  let s : State := { s with ant := { s.ant with lockRun := 0, unlockRun := 0, needRef := c != 1, dwellUntil := none, integral := s.time.rho,
                                                lastUpdate := none } }
  if c = 1 then s.acquirePhase ((ptp : Int) - s.now) else s

/-- The holdover rate (R46): the mean of the last 16 rates the loop set, or the rate in force. -/
def State.holdoverRate (s : State) : Int :=
  if s.ant.rates.isEmpty then s.time.rho
  else roundDiv (s.ant.rates.foldl (· + ·) 0) s.ant.rates.length

/-- HOLDOVER (R45, R46); after a loss of the active source a dwell runs (R49). -/
def State.enterHoldover (s : State) (dwell : Bool) : State :=
  let r := s.holdoverRate
  let s := s.wr Reg.ANT_STAT_STATE 3
  let till := if dwell then some (s.time.elapsed + s.rd Reg.ANT_HOLDDWELL * 1000000) else none
  let s : State := { s with time := { s.time with rhoTarget := r }, ant := { s.ant with dwellUntil := till } }
  s.raise 0x0702 0 [s.rd Reg.ANT_STAT_ACTIVE, low 32 (rateUnits r)]

/-- Whether the list offers no source: in the PTP master state, source code 1 is not one (R45, R53; log 33). -/
def State.noSource (s : State) : Bool := s.sourceList.all (fun c => c == 1 && s.flag Reg.ANT_STAT_MASTER)

/-- HOLDOVER is left when it can be: to the best valid source, or to FREERUN when the list is empty (R45). -/
def State.leaveHoldover (s : State) (ptp : Nat) : State :=
  if s.flag Reg.ANT_CTRL_FORCE_HOLD then s
  else match s.bestSource with
    | some c => s.enterAcquire c ptp
    | none => if s.noSource then s.enterFreerun else s

/-- A source is lost (R46, R48, R49). Of the two notices of one cycle, TIME_HOLDOVER has the lower code (R98). -/
def State.loseSource (s : State) (c : Nat) : State :=
  if s.sourceValid c then
    let active := s.measuring c
    let s := (s.wr Reg.ANT_STAT_VALID (withBits (s.rd Reg.ANT_STAT_VALID) (c - 1) 1 0)).setSource c sourceIdle
    (if active then s.enterHoldover true else s).raise 0x0703 0 [c]
  else s

/-- The loop bandwidth of a source code, in 10 mHz (R48). -/
def loopBandwidth (c : Nat) : Nat := [0, 10, 100, 100, 5, 50, 10, 1].getD c 0

/-- A rate kept within ±100 ppm (R47). -/
def clampRate (r : Int) : Int := clampI (-(10 ^ 14 * 2 ^ 32)) (10 ^ 14 * 2 ^ 32) r

/-- The proportional part of the loop for a phase error in ns: twice the damping of 0.7, the natural frequency and the error (R48) (log
16). -/
def loopProportional (c : Nat) (phase : Int) : Int := 14 * (Config.loopOmega (loopBandwidth c)).toNat * phase * 10 ^ 8

/-- What `ns` of a phase error adds to the integral part of the loop: the square of the natural frequency, the error and the time (R48) (log
16). -/
def loopIntegral (c : Nat) (phase : Int) (ns : Nat) : Int :=
  roundDiv ((Config.loopOmega (loopBandwidth c)).toNat ^ 2 * phase * ns) (2 ^ 32)

/-- The second-order PI loop sets its rate (R47, R48): both parts act against the phase error, and neither passes ±100 ppm (log 16). -/
def State.loopRate (s : State) (c : Nat) (phase : Int) : State :=
  let ns := match s.ant.lastUpdate with | some t => s.time.elapsed - t | none => 0
  let sum := clampRate (s.ant.integral - loopIntegral c phase ns)
  let target := clampRate (sum - loopProportional c phase)
  { s.wr Reg.ANT_PHASE (low 32 phase) with
    time := { s.time with rhoTarget := target }
    ant := { s.ant with rates := (target :: s.ant.rates).take 16, integral := sum, lastUpdate := some s.time.elapsed } }

/-- ANT_MEASUREMENT (R45, R47, R48): an update of the loop and of the lock count. -/
def State.loopUpdate (s : State) (c : Nat) (phase : Int) : State :=
  let s := s.loopRate c phase
  let th := s.rd Reg.ANT_LOCKTHR
  if s.rd Reg.ANT_STAT_STATE = 1 then
    let run := if phase.natAbs ≤ th then s.ant.lockRun + 1 else 0
    let s : State := { s with ant := { s.ant with lockRun := run } }
    if 16 ≤ run then
      let s : State := { s.wr Reg.ANT_STAT_STATE 2 with ant := { s.ant with lockRun := 0, unlockRun := 0 } }
      s.raise 0x0701 0 [c]
    else s
  else
    let run := if 4 * th < phase.natAbs then s.ant.unlockRun + 1 else 0
    let s : State := { s with ant := { s.ant with unlockRun := run } }
    if 4 ≤ run then
      { s.wr Reg.ANT_STAT_STATE 1 with ant := { s.ant with lockRun := 0, unlockRun := 0, needRef := c != 1 } }
    else s

/-- A measurement of the source being measured (R47, R50): refused outside ±100 ppm; the first one after ACQUIRE of a source
other than PTP fixes the phase reference (log 87). -/
def State.measure (s : State) (c : Nat) (phase : Int) (outOfRange : Bool) : State :=
  if !s.measuring c then s
  else if outOfRange then s.setFlag Reg.ANT_STAT_RANGE true
  else if s.ant.needRef then { s.wr Reg.ANT_PHASE 0 with ant := { s.ant with needRef := false } }
  else s.loopUpdate c phase

/-- Whether a measured interval lies outside ±100 ppm of the interval it should last, both in 2^-32 ns of the oscillator's
time (R47). -/
def outside100ppm (interval nominal : Nat) : Bool :=
  decide (nominal < 10000 * ((interval : Int) - nominal).natAbs)

/-- The reference period of genlock, SDI and LTC in 2^-32 ns (R48). -/
def State.refPeriod (s : State) : Nat :=
  (roundDiv (10 ^ 9 * 2 ^ 32 * (s.rd Reg.ANT_REF_DEN : Int)) (s.rd Reg.ANT_REF_NUM)).toNat

/-- An event of a source that repeats with a period (R48): the edge now is compared with the expected edge. `frame` says that
an interval more than 1 % off does not count. The answer says whether the event counted (log 88). The edges expected lie on a grid of
the nominal period from the source's first edge, in device time (log 138). -/
def State.edge (s : State) (c per : Nat) (frame : Bool) : State × Bool :=
  let x := s.source c
  let t := s.time.acc
  let counts := match x.last with
    | some l => !frame || decide (100 * ((t - l : Int) - per).natAbs ≤ per)
    | none => true
  let x' := { x with last := some t, lastElapsed := s.time.elapsed }
  if !counts || per == 0 then (s.setSource c x', false)
  else
    let out := x.last.isSome && outside100ppm ((s.time.elapsed - x.lastElapsed) * 2 ^ 32) per
    let fresh := s.ant.needRef && s.measuring c
    let exp : Nat := match x.expected with
      | some e => if fresh then t else e + (roundDiv ((t : Int) - e) per).toNat * per
      | none => t
    let phase := roundDiv ((t : Int) - exp) (2 ^ 32)
    let s := s.setSource c { x' with expected := some (exp + per),
                                     bad := if 1000 < phase.natAbs then x.bad + 1 else 0 }
    (s.measure c phase out, true)

/-- A packet of the media clock arrives with its RTP timestamp (R47, R48): it is expected as long after the last packet's instant as
the timestamps lie apart. -/
def State.mediaEdge (s : State) (ts : Nat) : State :=
  let x := s.source 6
  let t := s.time.acc
  let span := (roundDiv (((ts : Int) - x.lastMaster) % 2 ^ 32 * (10 ^ 9 * 2 ^ 32)) 48000).toNat
  let out := x.last.isSome && outside100ppm ((s.time.elapsed - x.lastElapsed) * 2 ^ 32) span
  let exp : Nat := match x.expected with
    | some e => if s.ant.needRef && s.measuring 6 then t else e + span
    | none => t
  let s := s.setSource 6 { x with expected := some exp, last := some t, lastElapsed := s.time.elapsed, lastMaster := ts }
  s.measure 6 (roundDiv ((t : Int) - exp) (2 ^ 32)) out

/-- An interval of 2^log seconds in ns; `log` is a signed 4-bit field. -/
def logInterval (log : Nat) : Nat :=
  let l := sext 4 log
  if l < 0 then 10 ^ 9 / 2 ^ l.natAbs else 10 ^ 9 * 2 ^ l.natAbs

def State.syncInterval (s : State) : Nat := logInterval (s.rd Reg.ANT_PTP_CFG_SYNC_LOG)
def State.announceInterval (s : State) : Nat := logInterval (s.rd Reg.ANT_PTP_CFG_ANN_LOG)

/-- Time passes to where a source is lost if no event of it comes (R48): 8 Syncs, 4 frames, or 10 ms. The beat is lost by its
confidence alone (log 144). -/
def State.awaitLoss (s : State) (c : Nat) : Option State :=
  let x := s.source c
  let heard := if x.last.isSome then x.lastElapsed else x.validSince.getD s.time.elapsed
  if c = 1 then
    some (s.untilElapsed ((match s.ant.ptp.sync with | some y => y.at_ | none => heard) + 8 * s.syncInterval))
  else if c ≤ 4 then
    some (match x.expected with
      | some e => s.until ((e + 3 * s.refPeriod) / 2 ^ 32)
      | none => s.untilElapsed (heard + 4 * s.refPeriod / 2 ^ 32))
  else if c ≤ 6 then some (s.untilElapsed (heard + 10000000))
  else none

/-! ### Commands -/

/-- DEVICE_TIME_WRAP (R41): time passes to the next wrap of the 32-bit count. -/
def execDeviceTimeWrap (s : State) : Answer := s.whenOn 0x07 <| .next (s.until ((s.now / 2 ^ 32 + 1) * 2 ^ 32))

/-- A write of FORCE_HOLD (R45). -/
def State.forceHold (s : State) (v : Bool) (ptp : Nat) : State :=
  let old := s.flag Reg.ANT_CTRL_FORCE_HOLD
  let s := s.setFlag Reg.ANT_CTRL_FORCE_HOLD v
  if v && !old then
    (if s.rd Reg.ANT_STAT_STATE = 3 then { s with ant := { s.ant with dwellUntil := none } } else s.enterHoldover false)
  else if !v && old then s.leaveHoldover ptp
  else s

/-- ANT_FORCE_HOLD_WRITE (R45): `ptp` is the PTP time should an acquisition of PTP follow. -/
def execAntForceHoldWrite (v : Bool) (ptp : BitVec 64) (s : State) : Answer := s.byRegister 0x70008 <| .next (s.forceHold v ptp.toNat)

/-- What a change of ANT_SRCSEL does (R49): when it changes the active source, HOLDOVER, then the new source. -/
def State.sourceListChanged (s : State) (ptp : Nat) : State :=
  if s.flag Reg.ANT_CTRL_FORCE_HOLD then s
  else
    let st := s.rd Reg.ANT_STAT_STATE
    if st = 1 ∨ st = 2 then
      (if s.bestSource = some (s.rd Reg.ANT_STAT_ACTIVE) then s else (s.enterHoldover false).leaveHoldover ptp)
    else if st = 3 then s.leaveHoldover ptp
    else match s.bestSource with
      | some c => s.enterAcquire c ptp
      | none => s

/-- ANT_SRCSEL_WRITE (R49). A write that leaves ANT_SRCSEL as it stands changes nothing. -/
def execAntSrcselWrite (v : BitVec 16) (ptp : BitVec 64) (s : State) : Answer := s.byRegister 0x7000C <|
  let t := s.loadReg 0x7000C v.toNat
  .next (if t.word 0x7000C = s.word 0x7000C then t else t.sourceListChanged ptp.toNat)

/-- ANT_SOURCE_VALID (R45, R49): a source becomes valid; FREERUN, and HOLDOVER without a dwell to run, acquire. Source code 1
is never valid in the PTP master state (R53). -/
def execAntSourceValid (src : Fin 8) (ptp : BitVec 64) (s : State) : Answer := s.whenOn 0x07 <|
  let c := src.val
  .next (
    if c = 0 ∨ s.sourceValid c = true ∨ (c = 1 ∧ s.flag Reg.ANT_STAT_MASTER = true) then s
    else
      let s := s.wr Reg.ANT_STAT_VALID (withBits (s.rd Reg.ANT_STAT_VALID) (c - 1) 1 1)
      let s := s.setSource c { s.source c with validSince := some s.time.elapsed }
      let st := s.rd Reg.ANT_STAT_STATE
      if st = 0 ∨ (st = 3 ∧ s.ant.dwellUntil = none) then
        (if s.flag Reg.ANT_CTRL_FORCE_HOLD then s
         else match s.bestSource with
           | some b => s.enterAcquire b ptp.toNat
           | none => s)
      else s)

/-- ANT_SOURCE_LOST (R46, R48): no event of a source comes until its loss condition is met. -/
def execAntSourceLost (src : Fin 8) (s : State) : Answer := s.whenOn 0x07 <|
  .next (match s.awaitLoss src.val with
    | some t => if s.sourceValid src.val then t.loseSource src.val else s
    | none => s)

/-- ANT_HOLDDWELL_EXPIRY (R49). -/
def execAntHolddwellExpiry (ptp : BitVec 64) (s : State) : Answer := s.whenOn 0x07 <|
  .next (match s.ant.dwellUntil with
    | none => s
    | some t =>
      let s := s.untilElapsed t
      ({ s with ant := { s.ant with dwellUntil := none } } : State).leaveHoldover ptp.toNat)

/-- Whether a source stands before another in the list. -/
def State.ranksBefore (s : State) (a b : Nat) : Bool :=
  match s.sourceList.find? (fun c => c == a || c == b) with
  | some c => c == a && a != b
  | none => false

/-- ANT_REVERT_TIMER (R49): with REVERT = 1, a source of higher priority that has been valid for 1 s becomes active. -/
def execAntRevertTimer (src : Fin 8) (ptp : BitVec 64) (s : State) : Answer := s.whenOn 0x07 <|
  let c := src.val
  let st := s.rd Reg.ANT_STAT_STATE
  .next (
    match (s.source c).validSince with
    | some t =>
      if s.flag Reg.ANT_CTRL_REVERT && s.sourceValid c && (st == 1 || st == 2) &&
          s.ranksBefore c (s.rd Reg.ANT_STAT_ACTIVE) && !s.flag Reg.ANT_CTRL_FORCE_HOLD then
        ((s.untilElapsed (t + 1000000000)).enterHoldover false).enterAcquire c ptp.toNat
      else s
    | none => s)

/-! ### Position references -/

def refIdle : RefSt := { count := 0, last := 0, period := 0 }

def State.ref (s : State) (n : Nat) : RefSt := tblGet s.refs refIdle n

def State.setRef (s : State) (n : Nat) (x : RefSt) : State := { s with refs := tblSet s.refs refIdle n x }

/-- A reference frame or beat now, with its count; the period is measured from the one before (R54). -/
def State.refEvent (s : State) (n : Nat) (count : Int) : State :=
  let x := s.ref n
  s.setRef n { count := count, last := s.time.acc, period := if x.last = 0 then x.period else s.time.acc - x.last }

/-- GENLOCK_PULSE (R48): a frame-pulse edge at `t`. Four in a row more than 1 µs from their instant lose the source. -/
def execGenlockPulse (t : BitVec 64) (s : State) : Answer := s.whenOn 0x07 <|
  .next (
    if s.rd Reg.ANT_REF_CFG_GEN_MODE = 0 then s
    else
      let s := s.until t.toNat
      let (s, counted) := s.edge 2 s.refPeriod true
      if !counted then s
      else
        let s := s.refEvent 0 ((s.ref 0).count + 1)
        if 4 ≤ (s.source 2).bad then s.loseSource 2 else s)

end Sys2Proof.Machine
end

