-- ==== Sys2Proof/Machine/Position.lean ====
section
/-! DEFINITION. Show contexts: periods, positions, boundaries, sources, and the conversions between positions and device time
(R54-R57, R61, R62, R564). -/
namespace Sys2Proof.Machine

/-- A context's state (R57): 0 IDLE, 1 RUN, 2 HOLD, 3 CHASE, 4 FREEWHEEL. -/
def State.ctxState (s : State) (n : Nat) : Nat := s.rd (Reg.ANT_CTX_STAT_STATE n)

/-- Whether a context's position advances (R57). -/
def State.ctxMoving (s : State) (n : Nat) : Bool := s.ctxState n == 1 || s.ctxState n == 3 || s.ctxState n == 4

/-- The greatest effective period, in 2^-32 ns (R55). -/
def periodLimit : Nat := (2 ^ 32 - 1) * 2 ^ 32

/-- The effective period of a rate and a speed, when it exists and keeps to its limit (R55). -/
def effectivePeriod (num den speed : Nat) : Option Nat :=
  let nominal := (roundDiv (10 ^ 9 * 2 ^ 32 * (den : Int)) num).toNat
  let eff := (roundDiv ((nominal : Int) * 2 ^ 24) speed).toNat
  if num = 0 ∨ den = 0 ∨ speed = 0 ∨ eff = 0 ∨ periodLimit < eff then none else some eff

/-- The effective period that a context's registers give (R55); a BEAT context has the beat period over DIV (R54). -/
def State.ctxEffective (s : State) (n : Nat) : Option Nat :=
  if s.rd (Reg.ANT_CTX_CTRL_SOURCE n) = 4 then
    let p := (roundDiv ((s.rd Reg.AUD_TRK_PERIOD : Int) * 2 ^ 32) (s.rd (Reg.ANT_CTX_BEAT n))).toNat
    if p = 0 ∨ periodLimit < p then none else some p
  else effectivePeriod (s.rd (Reg.ANT_CTX_NUM n)) (s.rd (Reg.ANT_CTX_DEN n)) (s.rd (Reg.ANT_CTX_SPEED n))

/-- Whether a RUN finds rate, speed and period within their ranges (R55). -/
def State.ctxRateOk (s : State) (n : Nat) : Bool :=
  let num := s.rd (Reg.ANT_CTX_NUM n)
  let den := s.rd (Reg.ANT_CTX_DEN n)
  let speed := s.rd (Reg.ANT_CTX_SPEED n)
  decide (0 < den) && decide (den ≤ num) && decide (num ≤ 1000 * den) && decide (1 ≤ speed) &&
    decide (speed ≤ 0x08000000) && (effectivePeriod num den speed).isSome

/-- The effective period in force (R57, R76). -/
def State.ctxPeriod (s : State) (n : Nat) : Nat := s.rd64 (Reg.ANT_CTX_PERIOD_LO n) (Reg.ANT_CTX_PERIOD_HI n)

def State.setCtxPeriod (s : State) (n p : Nat) : State := s.wr64 (Reg.ANT_CTX_PERIOD_LO n) (Reg.ANT_CTX_PERIOD_HI n) p

/-- The offset and the LOCATE target of a context, signed 40.24 (R76). -/
def State.ctxOffset (s : State) (n : Nat) : Int := sext 64 (s.rd64 (Reg.ANT_CTX_OFS_LO n) (Reg.ANT_CTX_OFS_HI n))

def State.setCtxOffset (s : State) (n : Nat) (o : Int) : State :=
  s.wr64 (Reg.ANT_CTX_OFS_LO n) (Reg.ANT_CTX_OFS_HI n) (low 64 o)

def State.ctxLocate (s : State) (n : Nat) : Int := sext 64 (s.rd64 (Reg.ANT_CTX_LOC_LO n) (Reg.ANT_CTX_LOC_HI n))

/-- The position at an instant in 2^-32 ns, to the nearest 2^-24 frame as R564 rounds; held in IDLE and HOLD. -/
def State.ctxPosAt (s : State) (n : Nat) (t : Int) : Int :=
  let c := s.ctx n
  let p : Int := s.ctxPeriod n
  if s.ctxMoving n then c.pb + ((t - c.tb) * 2 ^ 25 + p) / (2 * p) else c.pb

/-- The instant of a position in 2^-32 ns of extended device time, by the anchor (R61). -/
def State.ctxInstant (s : State) (n : Nat) (p : Int) : Int :=
  (s.ctx n).tb + roundDiv ((p - (s.ctx n).pb) * s.ctxPeriod n) (2 ^ 24)

/-- t_b in whole ns, as the conversions of R61 and R564 take it (log 17). -/
def State.anchorNs (s : State) (n : Nat) : Int := roundDiv (s.ctx n).tb (2 ^ 32)

/-- The conversion of a position to extended device time in ns (R61, R62); none is NO_INSTANT. Its low 32 bits are t. -/
def State.ctxConvert (s : State) (n : Nat) (p : Int) : Option Int :=
  let dp := p - (s.ctx n).pb
  let dns := roundDiv (dp * s.ctxPeriod n) (2 ^ 56)
  if (!s.ctxMoving n && decide (0 < dp)) || decide (dns ≤ -(2 ^ 31)) || decide (2 ^ 31 ≤ dns) then none
  else some (s.anchorNs n + dns)

/-- The conversion of a device time back to a position (R564). -/
def State.ctxBackward (s : State) (n t : Nat) : Int :=
  let dt := sext 32 (low 32 ((t : Int) - s.anchorNs n))
  let p : Int := s.ctxPeriod n
  if s.ctxMoving n then (s.ctx n).pb + (dt * 2 ^ 57 + p) / (2 * p) else (s.ctx n).pb

/-- The next frame boundary (R57): each whole position of a moving context, each period of a held one. In 2^-32 ns. -/
def State.ctxNextBoundary (s : State) (n : Nat) : Int :=
  let c := s.ctx n
  if s.ctxMoving n then s.ctxInstant n ((c.pb / 2 ^ 24 + 1) * 2 ^ 24) else c.tb + s.ctxPeriod n

/-- Whether the reference that VREF names is present and locked (R54) (log 92). -/
def State.refOk (s : State) (vref : Nat) : Bool :=
  if vref = 0 then s.sourceValid 2 && decide (s.rd Reg.ANT_REF_CFG_GEN_MODE ≠ 0)
  else if vref ≤ 4 then s.flag (Reg.VIN_STAT_LOCK (vref - 1))
  else false

/-- SRC_OK (R76): whether a context's source is valid; a LINK context has its parent's. -/
def State.srcOkFuel : Nat → State → Nat → Bool
  | 0, _, _ => false
  | k + 1, s, n =>
    let src := s.rd (Reg.ANT_CTX_CTRL_SOURCE n)
    if src = 0 then true
    else if src = 1 then s.sourceValid 1
    else if src = 2 then s.refOk (s.rd (Reg.ANT_CTX_CTRL_VREF n))
    else if src = 3 then s.flag Reg.AUD_LTCIN_LOCK
    else if src = 4 then decide (s.rd Reg.AUD_TRK_STAT_STATE ≠ 0)
    else if src = 5 then State.srcOkFuel k s (s.rd (Reg.ANT_CTX_CTRL_PARENT n))
    else false

def State.srcOk (s : State) (n : Nat) : Bool := State.srcOkFuel 129 s n

/-- The position a reference gives at an instant: its count and the fraction of its period since its last event (R54). -/
def State.refPos (s : State) (k : Nat) (t scale : Int) : Int :=
  let x := s.ref k
  let frac : Int := if x.period = 0 then 0 else clampI 0 (2 ^ 24 - 1) ((t - x.last) * 2 ^ 24 / x.period)
  (x.count * 2 ^ 24 + frac) * scale

/-- The position of a context's source at an instant (R54). -/
def State.srcPos (s : State) (n : Nat) (t : Int) : Int :=
  let src := s.rd (Reg.ANT_CTX_CTRL_SOURCE n)
  let o := s.ctxOffset n
  if src = 1 then
    let ptp := t + s.phaseTarget * 2 ^ 32
    roundDiv (ptp * s.rd (Reg.ANT_CTX_NUM n) * 2 ^ 24) (10 ^ 9 * 2 ^ 32 * s.rd (Reg.ANT_CTX_DEN n)) + o
  else if src = 2 then s.refPos (s.rd (Reg.ANT_CTX_CTRL_VREF n)) t 1 + o
  else if src = 3 then s.refPos 5 t 1 + o
  else if src = 4 then s.refPos 6 t (s.rd (Reg.ANT_CTX_BEAT n)) + o
  else if src = 5 then
    roundDiv (s.ctxPosAt (s.rd (Reg.ANT_CTX_CTRL_PARENT n)) t * s.rd (Reg.ANT_CTX_SPEED n)) (2 ^ 24) + o
  else s.ctxPosAt n t

/-- The cycle that a context's chain of LINK parents meets, if any (R56). -/
def State.linkWalk : Nat → State → Nat → List Nat → List Nat
  | 0, _, _, _ => []
  | k + 1, s, n, seen =>
    if s.rd (Reg.ANT_CTX_CTRL_SOURCE n) ≠ 5 then []
    else if seen.contains n then n :: seen.takeWhile (· ≠ n)
    else State.linkWalk k s (s.rd (Reg.ANT_CTX_CTRL_PARENT n)) (n :: seen)

def State.linkCycle (s : State) (n : Nat) : List Nat := State.linkWalk 130 s n []

end Sys2Proof.Machine
end

