-- ==== Sys2Proof/Machine/OtuCore.lean ====
section
/-! DEFINITION. What the calendar shares with the output timing unit: commit words, the checks of their targets, and their
arrival (R201, R221, R244, R330, R331, R333). -/
namespace Sys2Proof.Machine

/-- The first address above the general area's tables (R128). -/
def tableTop : Nat := 0x1F800000

/-- The bases that a write of each NEXT register takes (R201, R221, R244). -/
def ltabOk (base : Nat) : Bool := base % 2048 == 0 && decide (base < tableTop)
def ftabOk (base : Nat) : Bool := base % 16384 == 0 && decide (base + 16384 ≤ tableTop)
def lampOk (base : Nat) : Bool := base % 256 == 0 && decide (base < tableTop)
def eptOk (base count : Nat) : Bool := base % 4096 == 0 && decide (base + 64 * count ≤ tableTop)

/-- The fields of a commit word (R330). -/
def commitTarget (w : Nat) : Nat := bitsOf w 0 8
def commitAux (w : Nat) : Nat := bitsOf w 16 19
def commitValue (w : Nat) : Nat := bitsOf w 35 29

/-- Whether a commit word may be stored (R330). -/
def commitOk (w : Nat) : Bool :=
  let v := commitValue w
  let a := commitAux w
  let t := commitTarget w
  bitsOf w 8 8 == 0 &&
    ((t == 1 && ltabOk v && a == 0) || (t == 2 && ftabOk v && a == 0) || (t == 3 && lampOk v && a == 0) ||
     (t == 4 && decide (a ≤ 262144) && eptOk v a) || (t == 5 && v == 0 && decide (a < 4)))

/-- The next composite start that the output has fixed (R326, R327). -/
def State.nextLatch (s : State) : Option Nat :=
  if s.otu.stopping then none
  else match s.otu.chain with
    | [] => none
    | [a] => some a.1
    | _ :: a :: _ => some a.1

/-- Whether the latch at or after an instant lies before the present TIME cycle (R331). -/
def State.latchPassed (s : State) (sched : Int) : Bool :=
  (match s.otu.lastLatch with | some t => decide (sched ≤ t) | none => false) ||
    (match s.nextLatch with | some l => decide (sched ≤ l) && decide (l + 2 ≤ s.now) | none => false)

/-- A commit reaches the OTU (R331, R333): discarded while output is disabled, refused for now while the queue is full,
otherwise queued, and late when the latch at or after its instant has passed. The answer says whether it was accepted. -/
def State.commitArrive (s : State) (w : Nat) (sched : Int) : State × Bool :=
  if !s.flag Reg.OTU_CTRL_ENABLE then (s.count Reg.OTU_CDISC 1, true)
  else if 256 ≤ s.otu.commits.length then (s, false)
  else
    let late := s.latchPassed sched
    let s : State := { s with otu := { s.otu with
      commits := s.otu.commits ++ [{ word := w, sched := sched, arrival := s.now }] } }
    if late then
      ((s.count Reg.OTU_CLATE 1).raise 0x0E01 0 [w % 2 ^ 32, w / 2 ^ 32, low 32 sched, s.now32], true)
    else (s, true)

end Sys2Proof.Machine
end

