-- ==== Sys2Proof/Machine/Calendar.lean ====
section
/-! DEFINITION. The event calendar: stored events, release instants, what boundaries and jumps do to them, and the CAL rows
(R62-R70, R331, R420). -/
namespace Sys2Proof.Machine

def State.setEvents (s : State) (es : List CalEvent) : State :=
  ({ s with cal := { s.cal with events := es } } : State).wr Reg.CAL_COUNT es.length

/-- The lead of an event's class, in frames (R65). -/
def State.eventLead (s : State) (e : CalEvent) : Nat :=
  if e.commit then s.rd Reg.CAL_CTRL_LEAD_COMMIT else s.rd Reg.CAL_CTRL_LEAD_TASK

/-- The position at whose instant an event is released (R65). -/
def State.releasePos (s : State) (e : CalEvent) : Int := (e.pos / 2 ^ 24 - s.eventLead e) * 2 ^ 24

/-- An event's release instant in ns of extended device time, unless the conversion gives NO_INSTANT (R61, R65). -/
def State.eventInstant (s : State) (e : CalEvent) : Option Int := s.ctxConvert e.ctx (s.releasePos e)

/-- Whether an event's instant lies before an instant in ns, or, where it has none, its position does not lie ahead of the anchor (log
93). -/
def State.eventBefore (s : State) (e : CalEvent) (ns : Nat) : Bool :=
  match s.eventInstant e with
  | some t => decide (t < ns)
  | none => decide (s.releasePos e ≤ (s.ctx e.ctx).pb)

/-- Whether an event's instant lies before the present TIME cycle (R66) (log 93). -/
def State.eventPassed (s : State) (e : CalEvent) : Bool := s.eventBefore e s.now

/-- The TIME cycle that holds an instant, counted from the present one; cycles that have passed count at the present rate (R66). -/
def State.cycleOf (s : State) (t : Int) : Int := ((t + 1) * 2 ^ 32 - 1 - s.time.acc) / timeInc s.time.rho

/-- The words a calendar notice carries (R68, R103). -/
def CalEvent.noticeWords (e : CalEvent) : List Nat := [e.ctx, e.tag, low 32 e.pos, low 32 (e.pos / 2 ^ 32)]

/-- Whether `a` goes before `b` of the same TIME cycle: jumped first, then ascending position, then order of add (R67, R68). -/
def CalEvent.before (a b : CalEvent) : Bool :=
  if a.jumped != b.jumped then a.jumped
  else if a.pos ≠ b.pos then decide (a.pos < b.pos)
  else decide (a.order < b.order)

/-- An event put among others in release order. -/
def insertEvent (e : CalEvent) : List CalEvent → List CalEvent
  | [] => [e]
  | a :: t => if e.before a then e :: a :: t else a :: insertEvent e t

/-- When an event may be released, in ns: when a boundary or jump made it due, or its own instant (R66-R68). -/
def State.eventDue (s : State) (e : CalEvent) : Option Int :=
  if !s.ctxMoving e.ctx then none
  else match e.due with
    | some t => some (t : Int)
    | none => if e.passed || e.jumped then none else s.eventInstant e

/-- The earliest instant at which an event may be released. -/
def State.firstDue (s : State) : Option Int :=
  s.cal.events.foldl (fun best e => match s.eventDue e, best with
    | some t, some b => some (min t b)
    | some t, none => some t
    | none, _ => best) none

/-- The event the calendar offers next, with its instant (R67): of those of one TIME cycle, as the cycles fall once time has come to the
earliest. -/
def State.nextEvent (s : State) : Option (CalEvent × Int) :=
  let at_ := match s.firstDue with | some t => s.into t.toNat | none => s
  s.cal.events.foldl (fun best e =>
    match s.eventDue e, best with
    | some t, some (b, tb) =>
      if at_.cycleOf t < at_.cycleOf tb ∨ (at_.cycleOf t = at_.cycleOf tb ∧ e.before b = true) then some (e, t) else best
    | some t, none => some (e, t)
    | none, _ => best) none

/-- At a boundary of a moving context with the calendar enabled, events whose instants have passed and events a jump marked
become due (R66, R68, R70). -/
def State.calBoundary (s : State) (n : Nat) : State :=
  if s.flag Reg.CAL_CTRL_ENABLE && s.ctxMoving n then
    s.setEvents (s.cal.events.map (fun e =>
      if e.ctx = n ∧ (e.passed || e.jumped) = true ∧ e.due = none then { e with due := some s.now } else e))
  else s

/-- A jump of a context, whose anchor has moved, acts on its pending events (R68): a forward one removes or marks those it
skips; after a backward one, events wait for their positions. An event that a forward jump has marked stays marked over a backward one (log
168). -/
def State.calJump (s : State) (n : Nat) (old new : Int) : State :=
  let hit (e : CalEvent) := e.ctx == n && decide (old ≤ e.pos) && decide (e.pos < new)
  let gone := (s.cal.events.filter (fun e => hit e && !e.catchup)).foldl (fun l e => insertEvent e l) []
  let now := s.flag Reg.CAL_CTRL_ENABLE && s.ctxMoving n
  let s := s.setEvents ((s.cal.events.filter (fun e => !(hit e && !e.catchup))).map (fun e =>
    if hit e then { e with jumped := true, due := if now then some (e.due.getD s.now) else e.due }
    else if e.ctx = n ∧ new ≤ old ∧ e.jumped = false ∧ s.eventPassed e = false then { e with passed := false, due := none }
    else e))
  gone.foldl (fun s e => (s.count Reg.CAL_SKIP 1).raise 0x0801 0 e.noticeWords) s

/-- The receiver takes an offered event, if it can (R67, R331): a ready queue for a TASK, cancelled when that queue or the
scheduler is disabled (R164, R174); the OTU for a COMMIT. -/
def State.handEvent (s : State) (e : CalEvent) : State × Bool :=
  if e.commit then s.commitArrive e.payload e.sched
  else
    let w := withBits (withBits e.payload 18 1 (b2n (e.passed || e.jumped))) 19 1 0
    if !s.readyOn e.queue then (s.cancelTask w, true)
    else if s.readyFull e.queue then (s, false)
    else (s.readyAdd e.queue w, true)

/-- The calendar holds an event, or none (CAL_STAT.HELD, R67). -/
def State.calHeld (s : State) (e : Option CalEvent) : State :=
  let s : State := { s with cal := { s.cal with held := e } }
  s.setFlag Reg.CAL_STAT e.isSome

/-- Where an event's 32 bytes stand in the store (R128) (log 94). -/
def CalEvent.slot (e : CalEvent) : Nat := 0x1F800000 + 32 * (e.order % 65536)

/-- Whether the calendar may offer an event (R67, R70). -/
def State.calOffers (s : State) : Bool := s.flag Reg.CAL_CTRL_ENABLE && s.cal.held.isNone

/-- The TIME cycle of an offer: that of the event's instant, and a later one than that of the last offer (R67). The commits of a latch's
own cycle have reached the OTU before it (R331) (log 141). -/
def State.toOffer (s : State) (e : CalEvent) (t : Int) : State :=
  let s := s.into t.toNat
  if s.cal.lastOffer = some s.time.elapsed ∨ (e.commit = true ∧ s.otu.latchedAt = some s.time.elapsed) then s.cycles 1 else s

/-- The calendar reads an event from its area of the store and offers it, now: it is released, late where its instant has passed or a jump
has skipped it (R66, R67). A receiver that cannot accept it holds the calendar. Of the notices of the cycle, those of a queue come before
CAL_LATE and those of a commit after it (R98). -/
def State.offer (s : State) (e : CalEvent) : State :=
  let e' := { e with sched := (s.eventInstant e).getD s.now }
  let s : State := { s with cal := { s.cal with lastOffer := some s.time.elapsed } }
  let s := (s.setEvents (s.cal.events.filter (fun x => x.order ≠ e.order))).touch 24 e.slot 32
  let late (s : State) : State := if e.passed || e.jumped then
      (s.count Reg.CAL_LATE 1).raiseWith 0x0803 0 e.noticeWords true 0 else s
  let (s, taken) := if e.commit then (late s).handEvent e' else (late (s.handEvent e').1, (s.handEvent e').2)
  if taken then s
  else
    let s := s.calHeld (some e')
    if e.commit then s
    else ({ s with tsk := { s.tsk with heldQueues := insertNat e.queue s.tsk.heldQueues } } : State).setFlag
      Reg.TSK_STAT_HELD true

/-- CAL_RELEASE (R65-R67): the next event's TIME cycle arrives and the calendar offers it. -/
def execCalRelease (s : State) : Answer := s.atStore .calRelease <| s.whenOn 0x08 <|
  .next (
    if !s.calOffers then s
    else match s.nextEvent with
    | none => s
    | some (e, t) => (s.toOffer e t).offer e)

/-- CAL_RELEASE_ACCEPTED (R67): the receiver accepts the held event. -/
def execCalReleaseAccepted (s : State) : Answer := s.whenOn 0x08 <|
  .next (match s.cal.held with
    | none => s
    | some e =>
      let (s', taken) := s.handEvent e
      if !taken then s
      else
        let s := s'.calHeld none
        if e.commit then s
        else
          let posts := (List.range 64).any (fun n => (s.ring n).descs.any (fun d =>
            d.phase == .held && d.opcode == 0x0501 && bitsOf (d.w 0) 0 4 == e.queue))
          let hq := if posts then s.tsk.heldQueues else s.tsk.heldQueues.filter (· ≠ e.queue)
          ({ s with tsk := { s.tsk with heldQueues := hq } } : State).setFlag Reg.TSK_STAT_HELD (!hq.isEmpty))

/-- CAL_ENABLE_WRITE (R70): a disable stops releases; an enable marks the events whose instants have passed. -/
def State.calEnable (s : State) (v : Bool) : State :=
  let old := s.flag Reg.CAL_CTRL_ENABLE
  let s := s.setFlag Reg.CAL_CTRL_ENABLE v
  if v && !old then s.setEvents (s.cal.events.map (fun e => { e with passed := s.eventPassed e, due := none }))
  else if !v && old then s.setEvents (s.cal.events.map (fun e => { e with due := none }))
  else s

def execCalEnableWrite (v : Bool) (s : State) : Answer := s.byRegister 0x80000 <| .next (s.calEnable v)

/-- CAL_LEAD_WRITE (R65): a lead from 1 to 15 applies to every pending event of its class from the next TIME cycle, so that an instant up to
the end of this one has passed; an event that is due in this cycle stays due. 0 is ignored (R17). -/
def State.calLead (s : State) (commit : Bool) (v : Nat) : State :=
  if v = 0 ∨ v = s.rd (if commit then Reg.CAL_CTRL_LEAD_COMMIT else Reg.CAL_CTRL_LEAD_TASK) then s
  else
    let dueNow (e : CalEvent) := s.flag Reg.CAL_CTRL_ENABLE && !e.passed && (match s.eventDue e with
      | some t => decide (s.cycleOf t = 0)
      | none => false)
    let s := s.setEvents (s.cal.events.map (fun e =>
      if e.commit = commit ∧ e.jumped = false ∧ dueNow e = true then { e with due := some s.now } else e))
    let s := s.wr (if commit then Reg.CAL_CTRL_LEAD_COMMIT else Reg.CAL_CTRL_LEAD_TASK) v
    s.setEvents (s.cal.events.map (fun e =>
      if e.commit = commit ∧ e.jumped = false ∧ (e.passed = true ∨ e.due = none) then
        { e with passed := s.eventBefore e ((s.time.acc + timeInc s.time.rho + 2 ^ 32 - 1) / 2 ^ 32), due := none }
      else e))

def execCalLeadWrite (commit : Bool) (v : BitVec 4) (s : State) : Answer := s.byRegister 0x80000 <| .next (s.calLead commit v.toNat)

/-- Whether the words of a CAL_ADD may be stored (R63, R89, R164, R330). -/
def addWordsOk (w : Nat → Nat) : Bool :=
  let w0 := w 0
  let payload := w 4 + w 5 * 2 ^ 32
  decide (withBits (withBits (withBits (withBits w0 0 7 0) 8 2 0) 12 1 0) 16 4 0 = 0) && decide (bitsOf w0 8 2 ≤ 1) &&
    (if bitsOf w0 8 2 = 1 then commitOk payload else !taskInvalid payload)

/-- CAL_ADD acts on the calendar (R63, R66, R69), which writes the event to its area of the store; the answer is its status. -/
def State.calAdd (s : State) (w : Nat → Nat) : State × Nat :=
  if 65536 ≤ s.cal.events.length then (s, stCalFull)
  else
    let w0 := w 0
    let e : CalEvent := { order := s.cal.nextOrder, ctx := bitsOf w0 0 7, commit := bitsOf w0 8 2 == 1,
                          catchup := bitOf w0 12, queue := bitsOf w0 16 4, pos := sext 64 (w 1 + w 2 * 2 ^ 32), tag := w 3,
                          payload := w 4 + w 5 * 2 ^ 32, passed := false, jumped := false, due := none, sched := 0 }
    let e := { e with passed := s.eventPassed e }
    let old := s.cal.events.length
    let s : State := { s with cal := { s.cal with nextOrder := s.cal.nextOrder + 1 } }
    let s := (s.setEvents (s.cal.events ++ [e])).storeUnlaid 24 e.slot 32
    let level := s.rd Reg.CAL_LEVEL
    (if old < level ∧ level ≤ old + 1 then s.raise 0x0802 0 [old + 1] else s, stOk)

/-- CAL_CANCEL acts on the calendar (R64); the answer is its status and the number of events removed. -/
def State.calCancel (s : State) (w : Nat → Nat) : State × Nat × Nat :=
  let w0 := w 0
  let hit (e : CalEvent) := e.ctx == bitsOf w0 8 7 && (bitsOf w0 0 2 == 1 || e.tag == w 3)
  let n := (s.cal.events.filter hit).length
  (s.setEvents (s.cal.events.filter (fun e => !hit e)), stOk, n)

/-- How a calendar descriptor is taken (R420): done at once by a lone unit, logged by rank 0 (one beyond the epoch's room waits
without completing), NOT_ACTIVE elsewhere. -/
def State.takeCue (s : State) (ring : Nat) (d : Desc) (kind : Nat) (act : State → State × Nat × List Nat) : State :=
  match s.cueMode with
  | .lone => let (s, st, ws) := act s; s.complete ring d.index st ws
  | .log =>
    if s.cueRoom then
      (s.logCue kind ((List.range 6).map d.w) (some (ring, d.index))).setPhase ring d.index .working
    else s
  | .reject => s.complete ring d.index 0x1540 []

/-- CAL_ADD (R63, R420). -/
def execCalAdd (ring : Fin 64) (s : State) : Answer :=
  s.atStore (.calAdd ring) <| .next (s.withDesc ring 0x0801 fun s d =>
    if !d.reservedOk false 6 || !addWordsOk d.w then s.complete ring d.index stBadParam []
    else s.takeCue ring d 1 (fun s => let (s, st) := s.calAdd d.w; (s, st, [])))

/-- CAL_CANCEL (R64, R420). -/
def execCalCancel (ring : Fin 64) (s : State) : Answer :=
  .next (s.withDesc ring 0x0802 fun s d =>
    let ok := d.reservedOk false 4 && decide (withBits (withBits (d.w 0) 0 2 0) 8 7 0 = 0) && decide (bitsOf (d.w 0) 0 2 ≤ 1) &&
      d.w 1 == 0 && d.w 2 == 0
    if !ok then s.complete ring d.index stBadParam []
    else s.takeCue ring d 2 (fun s => let (s, st, n) := s.calCancel d.w; (s, st, [n])))

end Sys2Proof.Machine
end

