-- ==== Sys2Proof/Machine/Context.lean ====
section
/-! DEFINITION. Show contexts at their boundaries: commands, the chase, jumps, and the rows that write a context (R54-R60,
R420). -/
namespace Sys2Proof.Machine

/-- The contexts that jump at one boundary, with the positions that they leave and take. -/
abbrev Jumps := List (Nat × Int × Int)

/-- A jump (R60) at an instant: the anchor moves and JUMPS counts, and so do those of the moving LINK children, at the same boundary
(R59). The count bounds the depth of the chain of children. -/
def State.moveCtx : Nat → Nat → Int → Int → State × Jumps → State × Jumps
  | 0, _, _, _, s => s
  | k + 1, n, new, t, (s, js) =>
    let old := s.ctxPosAt n t
    let s := (s.setCtx n { s.ctx n with pb := new, tb := t }).count (Reg.ANT_CTX_STAT_JUMPS n) 1
    (List.range 128).foldl (fun s c =>
      if s.1.rd (Reg.ANT_CTX_CTRL_SOURCE c) = 5 ∧ s.1.rd (Reg.ANT_CTX_CTRL_PARENT c) = n ∧ s.1.ctxMoving c = true ∧ c ≠ n then
        State.moveCtx k c (s.1.srcPos c t) t s
      else s) (s, js ++ [(n, old, new)])

/-- The jumps of one boundary are told: CTX_JUMP in the order of R98, and then the calendar follows each (R60, R68). -/
def State.tellJumps (s : State × Jumps) : State :=
  s.2.foldl (fun s j => s.calJump j.1 j.2.1 j.2.2) (s.1.raiseInOrder (s.2.map (fun j =>
    (0x0706, j.1, [low 32 j.2.1, low 32 (j.2.1 / 2 ^ 32), low 32 j.2.2, low 32 (j.2.2 / 2 ^ 32)]))))

/-- A jump of a context (R60) at an instant, with those of its LINK children. -/
def State.jumpCtx (s : State) (n : Nat) (new t : Int) : State := State.tellJumps (State.moveCtx 129 n new t (s, []))

/-- The chase of a sourced context in RUN or CHASE (R59): a jump, or a scaled period for the next frame, and the states'
thresholds (log 91). -/
def State.chase (s : State) (n : Nat) (t : Int) : State :=
  let pb := (s.ctx n).pb
  let src := s.srcPos n t
  let e := src - pb
  let s := if s.ctxState n = 3 ∧ e.natAbs * 256 < 2 ^ 24 then s.wr (Reg.ANT_CTX_STAT_STATE n) 1
    else if s.ctxState n = 1 ∧ 2 ^ 24 ≤ e.natAbs * 64 then s.wr (Reg.ANT_CTX_STAT_STATE n) 3
    else s
  if s.rd (Reg.ANT_CTX_CHASE_WIN n) * 2 ^ 24 < e.natAbs then s.jumpCtx n src t
  else
    let d : Int := 16 * 2 ^ 24 * 1000
    let lim : Int := s.rd (Reg.ANT_CTX_CHASE_VARI n) * 16 * 2 ^ 24
    let c := clampI (-lim) lim (e * 1000)
    let base := (s.ctxEffective n).getD (s.ctxPeriod n)
    s.setCtxPeriod n (min periodLimit (roundDiv (base * (d - c)) d.toNat).toNat)

/-- The offset of a context that is LOCATEd to a position (R58): rewritten so that a valid source yields it, or once the source is valid. -/
def State.locateOffset (s : State) (n : Nat) (loc t : Int) : State :=
  let sourced := decide (s.rd (Reg.ANT_CTX_CTRL_SOURCE n) ≠ 0)
  let s := if sourced && s.srcOk n then s.setCtxOffset n (s.ctxOffset n + loc - s.srcPos n t) else s
  s.setCtx n { s.ctx n with rewrite := sourced && !s.srcOk n }

/-- The command that waits acts at the boundary (R58); the answer says whether it was a LOCATE. A RUN is checked and refused (R55, R56) in a
context that already moves, too (log 163). -/
def State.ctxCommand (s : State) (n : Nat) (t : Int) : State × Bool :=
  let sourced := decide (s.rd (Reg.ANT_CTX_CTRL_SOURCE n) ≠ 0)
  let cmd := (s.ctx n).cmd
  let s := s.setCtx n { s.ctx n with cmd := none }
  match cmd with
  | none => (s, false)
  | some .run =>
    let badRate := !s.ctxRateOk n
    let badLink := !(s.linkCycle n).isEmpty
    let s := if badRate then s.setFlag (Reg.ANT_CTX_STAT_BADRATE n) true else s
    let s := if badLink then s.setFlag (Reg.ANT_CTX_STAT_BADLINK n) true else s
    if badRate || badLink || s.ctxMoving n then (s, false)
    else (s.wr (Reg.ANT_CTX_STAT_STATE n) (if sourced then 3 else 1), false)
  | some .hold => (s.wr (Reg.ANT_CTX_STAT_STATE n) 2, false)
  | some .stop => (s.wr (Reg.ANT_CTX_STAT_STATE n) 0, false)
  | some .locate =>
    let loc := s.ctxLocate n
    ((s.locateOffset n loc t).jumpCtx n loc t, true)

/-- An offset rewrite that waits for the source (R58); the answer says whether it was made here. -/
def State.ctxRewrite (s : State) (n : Nat) (t : Int) : State × Bool :=
  if (s.ctx n).rewrite && decide (s.rd (Reg.ANT_CTX_CTRL_SOURCE n) ≠ 0) && s.srcOk n then
    let s := s.setCtxOffset n (s.ctxOffset n + (s.ctx n).pb - s.srcPos n t)
    (s.setCtx n { s.ctx n with rewrite := false }, true)
  else (s, false)

/-- Whether a context keeps to the snapshots of rank 0: a BEAT context of a standby does not use its own beat source (R424). -/
def State.beatHeld (s : State) (n : Nat) : Bool :=
  s.rd (Reg.ANT_CTX_CTRL_SOURCE n) == 4 && (s.rd Reg.ROO_STAT_STATE == 2 || s.rd Reg.ROO_STAT_STATE == 3) &&
    s.rd Reg.ROO_STAT_RANK != 0

/-- CTX_FRAME_BOUNDARY (R57-R60, R424): time passes to the boundary; the anchor moves to it, rates take effect, the command acts, and
a sourced context chases its source. A held context whose registers give no period, or one beyond the limit, keeps the period in force (log
164). -/
def execCtxFrameBoundary (n : Fin 128) (s : State) : Answer := s.whenOn 0x07 <|
  let n := n.val
  let t := s.ctxNextBoundary n
  let s := s.until ((t + 2 ^ 32 - 1) / 2 ^ 32).toNat
  let pb := if s.ctxMoving n then ((s.ctx n).pb / 2 ^ 24 + 1) * 2 ^ 24 else (s.ctx n).pb
  let s := s.setCtx n { s.ctx n with pb := pb, tb := t }
  let s := if s.ctxState n = 4 ∨ s.beatHeld n = true then s else s.setCtxPeriod n ((s.ctxEffective n).getD (s.ctxPeriod n))
  let (s, located) := s.ctxCommand n t
  let (s, rewritten) := if located then (s, true) else s.ctxRewrite n t
  let chases := decide (s.rd (Reg.ANT_CTX_CTRL_SOURCE n) ≠ 0) && (s.ctxState n == 1 || s.ctxState n == 3) && s.srcOk n &&
    !s.beatHeld n
  let s := if chases && !rewritten then s.chase n t else s
  .next (s.calBoundary n)

/-! ### Writes of a context's registers, which are cues (R420) -/

/-- The offset of a context's register. -/
def ctxOff (n o : Nat) : Nat := 0x71000 + 0x40 * n + o

/-- A write of CTRL (R56): SOURCE and PARENT keep their values, and BADLINK is set, where the write would close a cycle of LINK
parents through a moving context. -/
def State.ctxCtrlWrite (s : State) (n v : Nat) : State :=
  let s' := s.loadReg (ctxOff n 0) v
  let cycle := s'.linkCycle n
  if cycle.contains n && cycle.any s.ctxMoving then
    let s' := (s'.wr (Reg.ANT_CTX_CTRL_SOURCE n) (s.rd (Reg.ANT_CTX_CTRL_SOURCE n))).wr (Reg.ANT_CTX_CTRL_PARENT n)
      (s.rd (Reg.ANT_CTX_CTRL_PARENT n))
    s'.setFlag (Reg.ANT_CTX_STAT_BADLINK n) true
  else s'

/-- A write of NUM, DEN or SPEED (R55): ignored while the context moves and the effective period would pass its limit, or there would be
none (log 165). -/
def State.ctxRateWrite (s : State) (n which v : Nat) : State :=
  let s' := s.loadReg (ctxOff n (4 + 4 * which)) v
  if s.ctxMoving n && (effectivePeriod (s'.rd (Reg.ANT_CTX_NUM n)) (s'.rd (Reg.ANT_CTX_DEN n))
      (s'.rd (Reg.ANT_CTX_SPEED n))).isNone then s
  else s'

/-- A command written to CMD waits for the next boundary; the last one stands (R58). -/
def State.ctxCmdWrite (s : State) (n v : Nat) : State :=
  let c := v % 8
  if c = 1 then s.setCtx n { s.ctx n with cmd := some .run }
  else if c = 2 then s.setCtx n { s.ctx n with cmd := some .hold }
  else if c = 3 then s.setCtx n { s.ctx n with cmd := some .locate }
  else if c = 4 then s.setCtx n { s.ctx n with cmd := some .stop }
  else s

/-- A write of a context's register takes effect. -/
def State.ctxWrite (s : State) (off v : Nat) : State :=
  let n := (off - 0x71000) / 0x40
  let o := (off - 0x71000) % 0x40
  if o = 0 then s.ctxCtrlWrite n v
  else if o = 4 then s.ctxRateWrite n 0 v
  else if o = 8 then s.ctxRateWrite n 1 v
  else if o = 12 then s.ctxRateWrite n 2 v
  else if o = 0x20 then s.ctxCmdWrite n v
  else s.loadReg off v

/-- A host write of a context's register that is a cue (R420). -/
def State.ctxCue (s : State) (n o v : Nat) : State := s.cueWrite (ctxOff n o) v (fun s => s.ctxWrite (ctxOff n o) v)

/-- CTX_RUN (R58). -/
def execCtxRun (n : Fin 128) (s : State) : Answer := s.byRegister (0x71020 + 0x40 * n.val) <| .next (s.ctxCue n.val 0x20 1)

/-- CTX_HOLD (R58). -/
def execCtxHold (n : Fin 128) (s : State) : Answer := s.byRegister (0x71020 + 0x40 * n.val) <| .next (s.ctxCue n.val 0x20 2)

/-- CTX_STOP (R58). -/
def execCtxStop (n : Fin 128) (s : State) : Answer := s.byRegister (0x71020 + 0x40 * n.val) <| .next (s.ctxCue n.val 0x20 4)

/-- CTX_LOCATE (R58). -/
def execCtxLocate (n : Fin 128) (s : State) : Answer := s.byRegister (0x71020 + 0x40 * n.val) <| .next (s.ctxCue n.val 0x20 3)

/-- CTX_CTRL_WRITE (R56). -/
def execCtxCtrlWrite (n : Fin 128) (v : Word) (s : State) : Answer :=
  s.byRegister (0x71000 + 0x40 * n.val) <| .next (s.ctxCue n.val 0 v.toNat)

/-- CTX_RATE_WRITE (R55): `which` is 0 NUM, 1 DEN, 2 SPEED. -/
def execCtxRateWrite (n : Fin 128) (which : Fin 3) (v : Word) (s : State) : Answer := s.byRegister (0x71004 + 4 * which.val + 0x40 * n.val) <|
  .next (s.ctxCue n.val (4 + 4 * which.val) v.toNat)

/-- CTX_SOURCE_LOST (R59): a context in RUN or CHASE whose source is not valid enters FREEWHEEL; a BEAT context of a standby has no source
of its own (R424). -/
def execCtxSourceLost (n : Fin 128) (s : State) : Answer := s.whenOn 0x07 <|
  let n := n.val
  .next (
    if (s.ctxState n == 1 || s.ctxState n == 3) && !s.srcOk n && !s.beatHeld n then (s.wr (Reg.ANT_CTX_STAT_STATE n) 4).raise 0x0705 n []
    else s)

/-- CTX_SOURCE_RETURN (R59): a context in FREEWHEEL whose source is valid again enters CHASE. -/
def execCtxSourceReturn (n : Fin 128) (s : State) : Answer := s.whenOn 0x07 <|
  let n := n.val
  .next (if s.ctxState n == 4 && s.srcOk n && !s.beatHeld n then s.wr (Reg.ANT_CTX_STAT_STATE n) 3 else s)

end Sys2Proof.Machine
end

