-- ==== Sys2Proof/Machine/ThmCore.lean ====
section
/-! DEFINITION. Node thermal models as the composites and the updates share them: class and model records, the state words of
the device work area, and band states (R236-R239, R472-R474, R479, R563). -/
namespace Sys2Proof.Machine

/-- A class record's fields (R472). -/
structure ThmClass where
  pe : List Nat
  rth : Nat
  alpha : Nat
  tlim : Int
  kp : Nat
  tb : List Int
  thmin : Nat
  kc : Nat
  valid : Bool
  deriving DecidableEq, Repr

def thmClassOf (k : Nat → Nat) : ThmClass :=
  { pe := [bitsOf (k 0) 0 16, bitsOf (k 0) 16 16, bitsOf (k 1) 0 16, bitsOf (k 1) 16 16], rth := k 2, alpha := bitsOf (k 3) 0 24,
    tlim := sext 16 (bitsOf (k 4) 0 16), kp := bitsOf (k 4) 16 16,
    tb := [sext 16 (bitsOf (k 5) 0 16), sext 16 (bitsOf (k 5) 16 16), sext 16 (bitsOf (k 6) 0 16)],
    thmin := bitsOf (k 6) 16 16, kc := bitsOf (k 7) 0 16, valid := bitOf (k 7) 31 }

/-- Whether a class record is invalid (R472). -/
def thmClassBad (k : Nat → Nat) : Bool :=
  let c := thmClassOf k
  let tb (i : Nat) := c.tb.getD i 0
  decide (c.alpha = 0) || decide (0x8000 < c.thmin) || decide (tb 1 < tb 0) || decide (tb 2 < tb 1) ||
    decide (k 3 / 2 ^ 24 ≠ 0) || decide (bitsOf (k 7) 16 15 ≠ 0)

/-- Which requester reads and writes the thermal tables: the spec's list names none for them, so it is open (R132; log 2). -/
def State.anyRequester (s : State) : State × Nat :=
  let (f, s) := s.free
  (s, f % 57)

/-- The words of a class record, unless one is POISON (R472, R563). -/
def State.classWords (s : State) (req c : Nat) : State × Option (List Nat) :=
  let a := s.rd Reg.THM_PTAB + 32 * c
  let s := s.touch req a 32
  (s, if s.poisonIn a 32 then none else some ((List.range 8).map (fun i => s.word32At (a + 4 * i))))

/-- Whether a class may be named: it is in use, and not invalid (R474). -/
def classUsable (ws : List Nat) : Bool := (thmClassOf (fun i => ws.getD i 0)).valid && !thmClassBad (fun i => ws.getD i 0)

/-- A model record's words, when it is in use and reads without POISON (R473, R563). -/
def State.thmModel (s : State) (req m : Nat) : State × Option (Nat × Nat) :=
  let a := s.rd Reg.THM_MTAB + 8 * m
  let s := s.touch req a 8
  (s, if !s.poisonIn a 8 && bitOf (s.word32At a) 0 then some (s.word32At a, s.word32At (a + 4)) else none)

def modelClass (g0 : Nat) : Nat := bitsOf g0 8 6
def modelZone (g0 : Nat) : Nat := bitsOf g0 16 3

/-- The work area of a model (R479). -/
def modelArea (m : Nat) : Nat := 0x1FC00000 + 16 * m

/-- A word of a model's state as the store holds it. -/
def State.modelWord (s : State) (m i : Nat) : Nat := s.word32At (modelArea m + 4 * i)

/-- A model's state is read; it may be used unless a word of it is POISON (R123, R125, R479) (log 162). -/
def State.readModel (s : State) (req m : Nat) : State × Bool :=
  let s := s.touch req (modelArea m) 16
  (s, !s.poisonIn (modelArea m) 16)

def State.setModelWord (s : State) (req m i v : Nat) : State := s.storeWrite req (modelArea m + 4 * i) (leBytes 4 v)

/-- The models in use whose class reads without POISON, with the words of record and class of each (R473, R476, R563). -/
def State.modelsInUse (s : State) (req : Nat) : State × List (Nat × (Nat × Nat) × List Nat) :=
  if !s.flag Reg.THM_CTRL_NODE_EN then (s, [])
  else (List.range 4096).foldl (fun p m =>
    let (s, g) := p.1.thmModel req m
    match g with
    | none => (s, p.2)
    | some g =>
      let (s, c) := s.classWords req (modelClass g.1)
      match c with
      | none => (s, p.2)
      | some c => (s, p.2 ++ [(m, g, c)])) (s, [])

/-- The models that endpoints may name (R474). -/
def State.namedModels (s : State) (req : Nat) : State × List (Nat × (Nat × Nat) × List Nat) :=
  let (s, ms) := s.modelsInUse req
  (s, ms.filter (fun m => classUsable m.2.2))

/-- A class record's fields from its words. -/
def classOf (ws : List Nat) : ThmClass := thmClassOf (fun i => ws.getD i 0)

/-- A band word at the next composite start (R236, R238, R239): the fade advances or completes, and a pending band starts. -/
def bandStep (xfade v3 : Nat) : Nat :=
  let k := bitsOf v3 4 8
  let from_ := bitsOf v3 0 2
  let target := bitsOf v3 2 2
  let pend := bitsOf v3 12 2
  let pendV := bitOf v3 14
  let build (f t k p : Nat) (pv : Bool) := withBits (withBits (withBits (withBits (withBits v3 0 2 f) 2 2 t) 4 8 k) 12 2 p) 14 1 (b2n pv)
  if k ≠ 0 ∧ k < xfade then build from_ target (k + 1) pend pendV
  else if pendV && decide (pend ≠ target) then build target pend 1 0 false
  else build target target 0 0 false

/-- Every model that may be named steps its band state; the answer is TH and the band word of each (R236). One whose state is POISON is
named by no endpoint of the frame (log 162). -/
def State.stepBands (s : State) (xfade : Nat) : State × List (Nat × (Nat × Nat)) :=
  let (s, req) := s.anyRequester
  let (s, ms) := s.namedModels req
  ms.foldl (fun p m =>
    let (s, ok) := p.1.readModel req m.1
    if !ok then (s, p.2)
    else
      let v3 := bandStep xfade (s.modelWord m.1 3)
      (s.setModelWord req m.1 3 v3, p.2 ++ [(m.1, (bitsOf (s.modelWord m.1 2) 0 16, v3))])) (s, [])

/-- THM_QUIESCENT (R481): from a composite start with NODE_EN = 0, endpoints name no model. -/
def State.thmQuiescent (s : State) : State :=
  if s.flag Reg.THM_CTRL_NODE_EN || s.flag Reg.THM_STAT_QUIESCENT then s
  else (s.setFlag Reg.THM_STAT_QUIESCENT true).raise 0x1705 0 []

end Sys2Proof.Machine
end

