-- ==== Sys2Proof/Machine/Scale.lean ====
section
/-! DEFINITION. The Scale unit: fixture type records, bin matrices, curves, and the conversion of XYZ to drive values
(R221-R237). -/
namespace Sys2Proof.Machine

/-- A fixture type record's fields (R223), from its words F0-F4. -/
structure FixtureType where
  valid : Bool
  emit : Nat
  wmode : Bool
  bands : Nat
  defBand : Nat
  scale : Bool
  dither : Bool
  xfen : Bool
  depth : Nat
  nbins : Nat
  mbase : Nat
  cbase : Nat
  wmix : Nat
  deriving DecidableEq, Repr

def fixtureOf (f : Nat → Nat) : FixtureType :=
  let f0 := f 0
  { valid := bitOf f0 0, emit := bitsOf f0 1 3, wmode := bitOf f0 4, bands := bitsOf f0 5 2 + 1, defBand := bitsOf f0 7 2,
    scale := bitOf f0 9, dither := bitOf f0 10, xfen := bitOf f0 11, depth := bitsOf f0 12 5, nbins := bitsOf (f 1) 0 13,
    mbase := bitsOf (f 2) 0 29, cbase := bitsOf (f 3) 0 29, wmix := bitsOf (f 4) 0 16 }

/-- The lowest cause for which a record fails (R224); 0 when it passes. -/
def fixtureCause (f : Nat → Nat) : Nat :=
  let t := fixtureOf f
  if t.emit = 0 ∨ 4 < t.emit ∨ (t.wmode = true ∧ t.emit ≠ 4) ∨ (t.wmode = false ∧ t.emit = 4) then 1
  else if t.bands ≤ t.defBand ∨ t.depth < 8 ∨ 16 < t.depth ∨ t.nbins = 0 ∨ 4096 < t.nbins ∨ 0x8000 < t.wmix then 2
  else if t.mbase % 64 ≠ 0 ∨ t.cbase % 256 ≠ 0 then 3
  else if 0x1F800000 < t.mbase + 64 * t.bands * t.nbins ∨ 0x1F800000 < t.cbase + 0x410 * t.emit then 4
  else if f 0 / 2 ^ 17 ≠ 0 ∨ f 1 / 2 ^ 13 ≠ 0 ∨ f 2 / 2 ^ 29 ≠ 0 ∨ f 3 / 2 ^ 29 ≠ 0 ∨ f 4 / 2 ^ 16 ≠ 0 ∨
      (List.range 11).any (fun i => f (5 + i) ≠ 0) = true then 5
  else 0

/-- A fixture type as a reader of a table finds it, and whether it reads as valid: the current table's check passed, and no
word of the record is POISON (R224, R563). -/
def State.fixtureAt (s : State) (req ftab : Nat) (stat : Nat → Nat) (t : Nat) : State × FixtureType :=
  let a := ftab + 64 * t
  if bitOf (stat (t / 32)) (t % 32) then
    let s := s.touch req a 64
    let ft := fixtureOf (fun i => s.word32At (a + 4 * i))
    (s, if s.poisonIn a 64 then { ft with valid := false } else ft)
  else (s, { fixtureOf (fun _ => 0) with valid := false })

/-- The current table's validity bits (SCL_FTSTAT, R221). -/
def State.ftStat (s : State) (j : Nat) : Nat := s.rd (Reg.SCL_FTSTAT j)

def State.fixture (s : State) (req t : Nat) : State × FixtureType := s.fixtureAt req (s.rd Reg.SCL_FTAB) s.ftStat t

/-- clampv of R228. -/
def clampV (a : Int) : Int := clampI 0 0x7FFFFFFF a

/-- White extraction (R229): the new intensities of emitters 0-2, then emitter 3's. -/
def whiteExtract (v : List Int) (wv : List Nat) (wmix : Nat) : List Int :=
  let qs := (v.zip wv).filterMap (fun p => if p.2 = 0 then none else some (p.1 * 2 ^ 24 / (p.2 : Int)))
  let m : Int := match qs with | [] => 0 | q :: t => t.foldl min q
  let w : Int := min ((m * wmix + 0x4000) / 2 ^ 15) 0x1000000
  (v.zip wv).map (fun p => max (p.1 - (w * p.2 + 2 ^ 23) / 2 ^ 24) 0) ++ [w]

/-- The over-range rule (R230). -/
def overRange (scale : Bool) (v : List Int) : List Int :=
  if scale then
    let mx := v.foldl max 0
    if 0x1000000 < mx then v.map (fun x => x * 2 ^ 24 / mx) else v
  else v.map (fun x => min x 0x1000000)

/-- The four low bits reversed. -/
def bitrev4 (x : Nat) : Nat := bitsOf x 0 1 * 8 + bitsOf x 1 1 * 4 + bitsOf x 2 1 * 2 + bitsOf x 3 1

/-- The dither offset (R231). -/
def ditherOffset (on : Bool) (n lamp e : Nat) : Nat :=
  if on then bitrev4 ((n + 9 * lamp + 5 * e) % 16) * 2 ^ 20 + 2 ^ 19 else 2 ^ 23

/-- The value written for a drive level (R231). -/
def driveCode (depth d delta : Nat) : Nat :=
  min ((d * (2 ^ depth - 1) + delta) / 2 ^ 24) (2 ^ depth - 1) * 2 ^ (16 - depth)

/-- A thermal model as the conversion sees it: TH, and the band word's FROM, TO and K (R236, R479). -/
def bandFrom (v3 : Nat) : Nat := bitsOf v3 0 2
def bandTo (v3 : Nat) : Nat := bitsOf v3 2 2
def bandK (v3 : Nat) : Nat := bitsOf v3 4 8

/-- The band records and weight of a pixel (R236, R237): the from and to bands and ω; ω is 0x8000 where one band applies. -/
def bandsOf (ft : FixtureType) (bandsEn : Bool) (xfade : Nat) (model : Option (Nat × Nat)) : Nat × Nat × Nat :=
  match model with
  | some (_, v3) =>
    if bandsEn then
      let f := min (bandFrom v3) (ft.bands - 1)
      let t := min (bandTo v3) (ft.bands - 1)
      if bandK v3 = 0 ∨ f = t ∨ ft.xfen = false then (t, t, 0x8000)
      else (f, t, (bandK v3 * 0x8000 + xfade / 2) / xfade)
    else (ft.defBand, ft.defBand, 0x8000)
  | none => (ft.defBand, ft.defBand, 0x8000)

/-- A blended coefficient (R237). -/
def blendBand (cf ct : Int) (w : Nat) : Int := cf + ((ct - cf) * w + 0x4000) / 2 ^ 15

/-- A matrix record's words M0-M11 at an address: nine signed and three unsigned (R225). -/
def State.matrixAt (s : State) (a : Nat) : List Int :=
  (List.range 12).map (fun i => let w := s.word32At (a + 4 * i); if i < 9 then sext 32 w else (w : Int))

/-- Steps 1 to 5 from XYZ to the intensities of the emitters, with the blended matrix words (R228-R230). The second answer
counts the emitter values above full before step 4. -/
def intensities (ft : FixtureType) (m : List Int) (trim th : Nat) (x y z : Nat) : List Nat × Nat :=
  let chroma := if ft.wmode then 3 else ft.emit
  let c (i : Nat) := m.getD i 0
  let v := (List.range chroma).map (fun e => clampV ((c (3 * e) * x + c (3 * e + 1) * y + c (3 * e + 2) * z + 2 ^ 19) / 2 ^ 20))
  let v := if ft.wmode then whiteExtract v ((List.range 3).map (fun k => (c (9 + k)).toNat)) ft.wmix else v
  let v := v.map (fun a => clampV ((a * trim + 0x4000) / 2 ^ 15))
  let clamps := (v.filter (fun a => decide (0x1000000 < a))).length
  ((overRange ft.scale v).map (fun a => ((a * th + 0x4000) / 2 ^ 15).toNat), clamps)

/-- The curve of emitter `e` (R226). -/
def curveBase (ft : FixtureType) (e : Nat) : Nat := ft.cbase + 0x410 * e

/-- The curve entries that an intensity of emitter `e` reads (R226, R231). -/
def curveAddrs (ft : FixtureType) (e v : Nat) : List Nat :=
  let a := v / 2 ^ 16
  let base := curveBase ft e
  if a < 256 then [base + 4 * a, base + 4 * (a + 1)] else [base + 1024]

/-- Steps 6 and 7 (R231): the curve at an intensity, and the value written. -/
def driveOf (ft : FixtureType) (curve : CurveSt) (dither : Bool) (n lamp e v : Nat) : Nat :=
  let f := bitsOf v 8 8
  let ts := (curveAddrs ft e v).map (fun a => ((curve.entries.getD ((a - curve.addr) / 4) 0 : Nat) : Int))
  let t0 := ts.headD 0
  let d := match ts with | [a, b] => a + ((b - a) * f + 128) / 256 | _ => t0
  driveCode ft.depth (clampI 0 0x1000000 d).toNat (ditherOffset (dither && ft.dither) n lamp e)

end Sys2Proof.Machine
end

