-- ==== Sys2Proof/Machine/EndpointCore.lean ====
section
/-! DEFINITION. Endpoint table entries: their fields, what makes the pipelines skip one, and its path faults (R204, R244-R247). -/
namespace Sys2Proof.Machine

/-- An endpoint entry's sixteen words at an address. -/
def State.entryAt (s : State) (a : Nat) : List Nat := (List.range 16).map (fun i => s.word32At (a + 4 * i))

def eptWord (e : List Nat) (i : Nat) : Nat := e.getD i 0
def eptValid (e : List Nat) : Bool := bitOf (eptWord e 0) 0
def eptCols (e : List Nat) : Nat := bitsOf (eptWord e 10) 0 16
def eptRows (e : List Nat) : Nat := bitsOf (eptWord e 10) 16 16
def eptPixels (e : List Nat) : Nat := eptCols e * eptRows e
def eptLayers (e : List Nat) : Nat := bitsOf (eptWord e 0) 16 16
def eptPbase (e : List Nat) : Nat := bitsOf (eptWord e 11) 0 24
def eptFtype (e : List Nat) : Nat := bitsOf (eptWord e 11) 24 8
def eptIofs (e : List Nat) : Nat := bitsOf (eptWord e 12) 0 27
def eptPath (e : List Nat) : Nat := bitsOf (eptWord e 13) 0 3
def eptApply (e : List Nat) : Nat := bitsOf (eptWord e 13) 4 2
def eptWide (e : List Nat) : Nat := bitsOf (eptWord e 13) 6 1
def eptAutolat (e : List Nat) : Bool := bitOf (eptWord e 13) 7
def eptSeg (e : List Nat) : Nat := bitsOf (eptWord e 13) 8 6
def eptThm (e : List Nat) : Nat := bitsOf (eptWord e 13) 16 12
def eptThmEn (e : List Nat) : Bool := bitOf (eptWord e 13) 28
def eptAddr (e : List Nat) (lsb width : Nat) : Nat := bitsOf (eptWord e 14) lsb width
def eptLat (e : List Nat) : Nat := bitsOf (eptWord e 15) 0 26

/-- The emitters that an entry's Imago span counts: 4 when its fixture type is not valid (R247). -/
def eptEmit (ft : FixtureType) : Nat := if ft.valid then ft.emit else 4

/-- Whether an entry with VALID = 1 is skipped (R204, R247) (log 99). -/
def eptBad (e : List Nat) (ft : FixtureType) (imagoLen : Nat) : Bool :=
  decide (eptCols e = 0) || decide (4096 < eptCols e) || decide (eptRows e = 0) || decide (4096 < eptRows e) ||
    decide (65536 < eptPixels e) || decide (bitsOf (eptWord e 0) 3 13 ≠ 0) || decide (eptWord e 12 / 2 ^ 27 ≠ 0) ||
    decide (eptIofs e % 2 = 1) || decide (imagoLen < eptIofs e + eptPixels e * 2 * eptEmit ft)

/-- The slots an sACN or DMX endpoint uses (R246). -/
def eptSlots (e : List Nat) (ft : FixtureType) : Nat := eptPixels e * eptEmit ft * (1 + eptWide e)

/-- The bits of E14 that an entry's path does not define (R246). -/
def eptAddrReserved (e : List Nat) : Nat :=
  let w := eptWord e 14
  let p := eptPath e
  if p = 1 then bitsOf w 26 6
  else if p = 3 then bitsOf w 4 4 + bitsOf w 26 6
  else if p = 4 then bitsOf w 3 13 + bitsOf w 26 6
  else 0

/-- The lowest path fault that the entry itself shows, causes 1 to 4 (R247); 0 for none. `tableOk` says whether the APT node
entry it names is valid; `noGroup` whether its segment has no sync universe or group. -/
def eptFault (e : List Nat) (ft : FixtureType) (nodeOk noGroup timedAsSync : Bool) : Nat :=
  let p := eptPath e
  let a := eptApply e
  let slots := eptSlots e ft
  let start := eptAddr e 16 10
  if p = 0 then 0
  else if 5 ≤ p ∨ bitOf (eptWord e 13) 3 = true ∨ bitsOf (eptWord e 13) 14 2 ≠ 0 ∨ bitsOf (eptWord e 13) 29 3 ≠ 0 ∨
      eptAddrReserved e ≠ 0 ∨ eptWord e 15 / 2 ^ 26 ≠ 0 then 1
  else if a = 3 ∨ (a = 1 ∧ (p = 3 ∨ p = 4)) ∨ (a = 2 ∧ p ≠ 2) ∨
      ((a = 1 ∨ (a = 2 ∧ timedAsSync = true)) ∧ (p = 1 ∨ p = 2) ∧ noGroup = true) then 2
  else if (p = 1 ∧ (eptAddr e 0 16 = 0 ∨ 63999 < eptAddr e 0 16)) ∨ (p = 2 ∧ nodeOk = false) then 3
  else if (p = 1 ∨ p = 4) ∧ (start = 0 ∨ 513 < start + slots) then 4
  else 0

end Sys2Proof.Machine
end

