-- ==== Sys2Proof/Machine/Colour.lean ====
section
/-! DEFINITION. Colour decoding: the transfer functions to U4.20, alpha, the narrow-range YCbCr equations, and the products of
colour and alpha (R209-R211). -/
namespace Sys2Proof.Machine

/-- The greatest number of `n` bits above `acc` that passes a test which holds up to some bound. -/
def searchMax : Nat → Nat → (Nat → Bool) → Nat
  | 0, acc, _ => acc
  | n + 1, acc, ok => if ok (acc + 2 ^ n) then searchMax n (acc + 2 ^ n) ok else searchMax n acc ok

/-- round((p / q) ^ (12 / 5) × 2^20), exactly: the greatest k with k - 1/2 at most the real value. -/
def power12over5 (p q : Nat) : Nat :=
  searchMax 26 0 (fun k => decide ((2 * k - 1) ^ 5 * q ^ 12 ≤ 2 ^ 105 * p ^ 12))

/-- A power, under a name of its own. -/
def powNat (b e : Nat) : Nat := b ^ e

/-- The PQ transfer function of ST 2084, scaled so that 203 cd/m² is 1.0 (R209): V^(1/m2) to 96 fraction bits, then the
power 1/m1, rounded (log 19). -/
def pqQ20 (num den : Nat) : Nat :=
  let n := searchMax 97 0 (fun n => decide (powNat n 2523 * den ^ 32 ≤ num ^ 32 * powNat 2 (96 * 2523)))
  let p := n * 4096 - 3424 * 2 ^ 96
  let q := 2413 * 32 * 2 ^ 96 - 2392 * 32 * n
  searchMax 26 0 (fun k => decide (
    powNat ((2 * k - 1) * 203) 1305 * powNat q 8192 ≤ powNat (2 ^ 21 * 10000) 1305 * powNat p 8192))

/-- round(EOTF(num / den) × 2^20), not clamped (R188, R209): 0 linear, 1 sRGB, 2 BT.1886 with γ 2.4, 3 PQ. -/
def eotfQ20 (transfer num den : Nat) : Nat :=
  if transfer = 0 then (2 * num * 2 ^ 20 + den) / (2 * den)
  else if transfer = 1 then
    (if 100000 * num ≤ 4045 * den then (2 * num * 100 * 2 ^ 20 + 1292 * den) / (2 * 1292 * den)
     else power12over5 (1000 * num + 55 * den) (1055 * den))
  else if transfer = 2 then power12over5 num den
  else pqQ20 num den

/-- The colour ceiling of U4.20. -/
def colourMax : Nat := 0xFFFFFF

/-- The entry T16[k] (R209). -/
def t16 (transfer k : Nat) : Nat := eotfQ20 transfer (min (16 * k) 65535) 65535

/-- A 16-bit colour code (R209). -/
def decode16 (transfer v : Nat) : Nat :=
  let a : Int := t16 transfer (v / 16)
  let b : Int := t16 transfer (v / 16 + 1)
  min (a + ((b - a) * (v % 16 : Nat) + 8) / 16).toNat colourMax

/-- A colour code of `d` bits (R209). -/
def decodeColour (transfer d v : Nat) : Nat :=
  if d = 16 then decode16 transfer v else min (eotfQ20 transfer v (2 ^ d - 1)) colourMax

/-- An alpha code of `d` bits (R209). -/
def decodeAlpha (d code : Nat) : Nat := (code * 0x8000 + (2 ^ d - 1) / 2) / (2 ^ d - 1)

/-- A value clamped to [0, 1] and rounded to 16 bits, from num / den. -/
def to16 (num : Int) (den : Nat) : Nat := (clampI 0 65535 (roundDiv (num * 65535) den)).toNat

/-- R′G′B′ of narrow-range 10-bit YCbCr as 16-bit codes (R209): BT.709 or BT.2020, by the standard's Kr and Kb in 10^-4
(log 20). -/
def yccToRgb (bt2020 : Bool) (y cb cr : Nat) : Nat × Nat × Nat :=
  let kr : Int := if bt2020 then 2627 else 2126
  let kb : Int := if bt2020 then 593 else 722
  let kg : Int := 10000 - kr - kb
  let yy : Int := (y : Int) - 64
  let b : Int := (cb : Int) - 512
  let r : Int := (cr : Int) - 512
  let den : Nat := 876 * 896 * 10000
  let luma : Int := yy * 896 * 10000
  let red := luma + 2 * (10000 - kr) * r * 876
  let blue := luma + 2 * (10000 - kb) * b * 876
  let greenDen : Nat := 876 * 896 * 10000 * kg.toNat
  let green := luma * kg - 2 * kb * (10000 - kb) * b * 876 - 2 * kr * (10000 - kr) * r * 876
  (to16 red den, to16 green greenDen, to16 blue den)

/-- colour × U1.15 (R210). -/
def mulc (c a : Nat) : Nat := min ((c * a + 0x4000) / 0x8000) colourMax

/-- alpha × U1.15 (R210). -/
def mula (x a : Nat) : Nat := min ((x * a + 0x4000) / 0x8000) 0x8000

/-- A texel or an accumulator: three channels in U4.20 and alpha in U1.15. -/
structure Texel where
  c0 : Nat
  c1 : Nat
  c2 : Nat
  alpha : Nat
  deriving DecidableEq, Repr

/-- A pixel's codes decoded and premultiplied (R189, R209, R210): FORMAT 0 RGBA8, 1 RGBA16, 2 YCC422_10, 3 L8. -/
def decodePixel (format transfer : Nat) (bt2020 : Bool) (codes : List Nat) : Texel :=
  let c (i : Nat) := codes.getD i 0
  if format = 2 then
    let (r, g, b) := yccToRgb bt2020 (c 0) (c 1) (c 2)
    ⟨decode16 transfer r, decode16 transfer g, decode16 transfer b, 0x8000⟩
  else if format = 3 then
    let v := decodeColour transfer 8 (c 0)
    ⟨v, v, v, 0x8000⟩
  else
    let d := if format = 1 then 16 else 8
    let a := decodeAlpha d (c 3)
    ⟨mulc (decodeColour transfer d (c 0)) a, mulc (decodeColour transfer d (c 1)) a, mulc (decodeColour transfer d (c 2)) a, a⟩

/-- The blend modes (R211). -/
def blend (mode : Nat) (acc s : Texel) : Texel :=
  let a := s.alpha
  let each (f : Nat → Nat → Nat) (al : Nat) : Texel := ⟨f acc.c0 s.c0, f acc.c1 s.c1, f acc.c2 s.c2, al⟩
  if mode = 0 then each (fun d s => min (s + mulc d (0x8000 - a)) colourMax) (a + mula acc.alpha (0x8000 - a))
  else if mode = 1 then each (fun d s => min (d + s) colourMax) (min (acc.alpha + a) 0x8000)
  else if mode = 2 then each (fun d s => d - s) acc.alpha
  else if mode = 3 then each (fun d s => max d s) (max acc.alpha a)
  else if mode = 4 then
    let f := min 0x8000 ((0x8000 - a) + (s.c1 + 16) / 32)
    each (fun d _ => mulc d f) acc.alpha
  else each (fun d _ => mulc d a) (mula acc.alpha a)

end Sys2Proof.Machine
end

