-- ==== Sys2Proof/Machine/Project.lean ====
section
/-! DEFINITION. Pixel positions and projections (R204-R207). -/
namespace Sys2Proof.Machine

/-- An angle of the first octant in units of 2^-88 turn: atan(num / den) for num ≤ den, both scaled numbers, by three halvings
and the series, to well below 2^-24 turn (log 18). -/
def atanSeries : Nat → Int → Int → Int → Int → Int
  | 0, _, _, _, acc => acc
  | k + 1, n, power, square, acc =>
    atanSeries k (n + 2) (-(power * square) / 2 ^ 128) square (acc + power / n)

def halfTan (t : Int) : Int :=
  let r : Nat := searchMax 130 0 (fun r => decide ((r : Int) * r ≤ 2 ^ 256 + t * t))
  t * 2 ^ 128 / (2 ^ 128 + r)

def atanOctant (num den : Nat) : Int :=
  let t := halfTan (halfTan (halfTan ((num * 2 ^ 128 / den : Nat) : Int)))
  let a := 8 * atanSeries 26 1 t (t * t / 2 ^ 128) 0
  a * 2 ^ 87 / 0x3243F6A8885A308D313198A2E03707344

/-- The angle of (x, y) in units of 2^-88 turn, in (-1/2, 1/2] turn, with its magnitudes given as scaled numbers. -/
def angleOf (yNeg xNeg : Bool) (ay ax : Nat) : Int :=
  let a : Int := if ax = 0 ∧ ay = 0 then 0 else if ay ≤ ax then atanOctant ay ax else 2 ^ 86 - atanOctant ax ay
  let a := if xNeg then 2 ^ 87 - a else a
  if yNeg then -a else a

/-- The part's atan2 in units of 2^-24 turn (R206): the choice among the results within 2^-24 turn of the exact angle is the
device's. `exact` says that the angle is a whole number of eighths of a turn. -/
def atan2Units (angle : Int) (exact : Bool) (choice : Int) : Int :=
  if exact then (angle + 2 ^ 63) / 2 ^ 64 + clampI (-1) 1 choice else angle / 2 ^ 64 + clampI 0 1 choice

/-- θ of CYLINDER and SPHERE, in [0, 2^24) (R207). -/
def theta (dy dx : Int) : Int :=
  if dx = 0 ∧ dy = 0 then 0
  else
    let exact := decide (dx = 0) || decide (dy = 0) || decide (dx.natAbs = dy.natAbs)
    atan2Units (angleOf (dy < 0) (dx < 0) dy.natAbs dx.natAbs) exact (Config.atan2Choice dy dx) % 2 ^ 24

/-- φ of SPHERE, in units of 2^-24 turn within a quarter turn (R207). -/
def phi (dz dy dx : Int) : Int :=
  let d2 := dx * dx + dy * dy
  if dz = 0 ∧ d2 = 0 then 0
  else
    let root := searchMax 200 0 (fun r => decide ((r : Int) * r ≤ d2 * 2 ^ 256))
    let exact := decide (dz = 0) || decide (d2 = 0) || decide (dz * dz = d2)
    clampI (-(2 ^ 22)) (2 ^ 22)
      (atan2Units (angleOf (dz < 0) false (dz.natAbs * 2 ^ 128) root) exact (Config.atan2Choice dz d2))

/-- A pixel's row and column (R205). -/
def pixelCell (order cols rows i : Nat) : Nat × Nat :=
  if order = 0 then (i / cols, i % cols)
  else if order = 1 then (i / cols, if i / cols % 2 = 1 then cols - 1 - i % cols else i % cols)
  else if order = 2 then (i % rows, i / rows)
  else (if i / rows % 2 = 1 then rows - 1 - i % rows else i % rows, i / rows)

/-- A coordinate in s15.16 (R205). -/
def coordinate (o u v : Nat) (r c : Nat) : Int :=
  clampI (-(2 ^ 31)) (2 ^ 31 - 1) ((sext 32 o * 256 + c * sext 32 u + r * sext 32 v + 128) / 256)

/-- Surface coordinates in units of 2^-8 pixel, or none where every texel counts as outside (R206, R207). `q` gives Q0-Q11 (log 95). -/
def project (proj : Nat) (q : Nat → Nat) (x y z : Int) : Option (Int × Int) :=
  let s (i : Nat) := sext 32 (q i)
  let row (i : Nat) := s i * x + s (i + 1) * y + s (i + 2) * z + s (i + 3) * 2 ^ 16
  let bound (v : Int) := clampI (-(2 ^ 23)) (2 ^ 23 - 1) v
  if proj = 0 then some (bound (roundDiv (row 0) (2 ^ 24)), bound (roundDiv (row 4) (2 ^ 24)))
  else if proj = 1 then
    let w := row 8
    if w ≤ 0 then none
    else some (bound (roundDiv (row 0 * 256) w.toNat), bound (roundDiv (row 4 * 256) w.toNat))
  else if proj = 2 then
    let t := (theta (y - s 1) (x - s 0) - q 2) % 2 ^ 24
    some (bound (roundDiv (s 4 * 2 ^ 24 + s 3 * t) (2 ^ 32)), bound (roundDiv (s 6 * 2 ^ 16 + s 5 * z) (2 ^ 24)))
  else
    let t := (theta (y - s 1) (x - s 0) - q 3) % 2 ^ 24
    let p := phi (z - s 2) (y - s 1) (x - s 0)
    some (bound (roundDiv (s 5 * 2 ^ 24 + s 4 * t) (2 ^ 32)), bound (roundDiv (s 7 * 2 ^ 24 + s 6 * p) (2 ^ 32)))

/-- A row or column of texels (i, j) that a kernel needs, with weights out of 2^16; BOX4 sums sixteen (R208). -/
def kernelTexels (kernel : Nat) (u v : Int) : List (Int × Int × Nat) :=
  if kernel = 0 then [(u / 256, v / 256, 65536)]
  else
    let i := (u - 128) / 256
    let j := (v - 128) / 256
    if kernel = 1 then
      let fu := ((u - 128) % 256).toNat
      let fv := ((v - 128) % 256).toNat
      [(i, j, (256 - fu) * (256 - fv)), (i + 1, j, fu * (256 - fv)), (i, j + 1, (256 - fu) * fv), (i + 1, j + 1, fu * fv)]
    else (List.range 16).map (fun k => (i - 1 + (k % 4 : Nat), j - 1 + (k / 4 : Nat), 4096))

/-- The kernel's sum of weighted values with its rounding (R208). -/
def kernelRound (kernel : Nat) (ts : List (Nat × Nat)) : Nat :=
  if kernel = 0 then (ts.map (·.1)).headD 0
  else if kernel = 1 then ((ts.map (fun t => t.1 * t.2)).foldl (· + ·) 0 + 2 ^ 15) / 2 ^ 16
  else ((ts.map (·.1)).foldl (· + ·) 0 + 8) / 16

/-- An index treated by EDGE (R208): none is a texel outside, colour 0 with alpha 0. -/
def edgeIndex (edge size : Nat) (i : Int) : Option Nat :=
  if 0 ≤ i ∧ i < size then some i.toNat
  else if edge = 0 then some (clampI 0 (size - 1) i).toNat
  else if edge = 1 then none
  else some (i % size).toNat

end Sys2Proof.Machine
end

