-- ==== Sys2Proof/Machine/Tile.lean ====
section
/-! DEFINITION. Tiles: the packing of uncompressed tiles and the compressed tile format (R189-R196). -/
namespace Sys2Proof.Machine

/-- Bits of a colour component, and bytes of a tile, by FORMAT (R189). -/
def formatBits (format : Nat) : Nat := if format = 1 then 16 else if format = 2 then 10 else 8
def tileBytes (format : Nat) : Nat :=
  if format = 0 then 1024 else if format = 1 then 2048 else if format = 2 then 640 else 256

/-- Bytes in groups of `n`, `k` groups. -/
def chunks (n : Nat) : Nat → Bytes → List Bytes
  | 0, _ => []
  | k + 1, b => b.take n :: chunks n k (b.drop n)

/-- The 16 pixels of a YCC422_10 row of 40 bytes, each [Y, Cb, Cr] (R190). -/
def yccRow (row : Bytes) : List (List Nat) :=
  let v := leNat row
  let sample (k : Nat) := bitsOf v (10 * k) 10
  (List.range 16).map (fun i => [sample (2 * i + 1), sample (i / 2 * 4), sample (i / 2 * 4 + 2)])

/-- The codes of an uncompressed tile's 256 pixels (R190). -/
def rawPixels (format : Nat) (b : Bytes) : List (List Nat) :=
  if format = 0 then (chunks 4 256 b).map (fun p => p.map (·.toNat))
  else if format = 1 then (chunks 8 256 b).map (fun p => (chunks 2 4 p).map leNat)
  else if format = 2 then (chunks 40 16 b).flatMap yccRow
  else b.map (fun x => [x.toNat])

/-- The pixel of a SOLID tile (R193). -/
def solidPixel (format : Nat) (b : Bytes) : List Nat :=
  if format = 0 then b.map (·.toNat)
  else if format = 1 then (chunks 2 4 b).map leNat
  else if format = 2 then
    let v := leNat b
    [bitsOf v 0 10, bitsOf v 10 10, bitsOf v 20 10]
  else b.map (·.toNat)

/-- The bits of bytes, bit 7 first (R195). -/
def bitsMsb (b : Bytes) : List Bool := b.flatMap (fun x => (List.range 8).map (fun i => bitOf x.toNat (7 - i)))

/-- A field of `n` bits, most significant first; none when the stream ends. -/
def readBits : Nat → Nat → List Bool → Option (Nat × List Bool)
  | 0, acc, s => some (acc, s)
  | _ + 1, _, [] => none
  | n + 1, acc, b :: t => readBits n (2 * acc + b2n b) t

/-- One-bits up to a zero-bit, at most the count given; `true` when that many came without a zero-bit. -/
def readOnes : Nat → Nat → List Bool → Option (Nat × Bool × List Bool)
  | 0, q, s => some (q, true, s)
  | _ + 1, _, [] => none
  | n + 1, q, b :: t => if b then readOnes n (q + 1) t else some (q, false, t)

/-- A coded value (R195). -/
def readValue (k d : Nat) (s : List Bool) : Option (Nat × List Bool) :=
  match readOnes 16 0 s with
  | none => none
  | some (_, true, s) => readBits d 0 s
  | some (q, false, s) => (readBits k 0 s).map (fun r => (q * 2 ^ k + r.1, r.2))

/-- `n` coded values of a group. -/
def readValues (k d : Nat) : Nat → List Bool → Option (List Nat × List Bool)
  | 0, s => some ([], s)
  | n + 1, s =>
    match readValue k d s with
    | none => none
    | some (m, s) => (readValues k d n s).map (fun r => (m :: r.1, r.2))

/-- Rows of a plane, each a group of `w` values after its 5-bit K; an error is the cause of R196. -/
def readRows (w d : Nat) : Nat → List Bool → Except Nat (List (List Nat) × List Bool)
  | 0, s => .ok ([], s)
  | h + 1, s =>
    match readBits 5 0 s with
    | none => .error 4
    | some (k, s) =>
      if d < k then .error 3
      else match readValues k d w s with
        | none => .error 4
        | some (ms, s) =>
          match readRows w d h s with
          | .ok (rows, s) => .ok (ms :: rows, s)
          | .error c => .error c

/-- The residual of a coded number (R194). -/
def residual (m : Nat) : Int := if m % 2 = 0 then (m / 2 : Nat) else -((m + 1) / 2 : Nat)

/-- The prediction from the left, above and above-left neighbours (R194). -/
def predict (a b c : Nat) : Nat :=
  if max a b ≤ c then min a b else if c ≤ min a b then max a b else a + b - c

/-- A row of values from its coded numbers, the row above (none for the first), and the left and above-left neighbours. -/
def planeRow (d : Nat) : Option (List Nat) → Option (Nat × Nat) → List Nat → List Nat
  | _, _, [] => []
  | above, prev, m :: t =>
    let b := above.map (fun l => l.headD 0)
    let p := match prev, b with
      | none, none => 0
      | some (a, _), none => a
      | none, some b => b
      | some (a, c), some b => predict a b c
    let x := (((p : Int) + residual m) % ((2 ^ d : Nat) : Int)).toNat
    x :: planeRow d (above.map (·.drop 1)) (some (x, b.getD 0)) t

/-- The values of a plane, row by row (R194). -/
def planeRows (d : Nat) : Option (List Nat) → List (List Nat) → List Nat
  | _, [] => []
  | above, ms :: t =>
    let row := planeRow d above none ms
    row ++ planeRows d (some row) t

/-- Planes one after another, each of a width. -/
def readPlanes (d : Nat) : List Nat → List Bool → Except Nat (List (List Nat) × List Bool)
  | [], s => .ok ([], s)
  | w :: ws, s =>
    match readRows w d 16 s with
    | .error c => .error c
    | .ok (rows, s) =>
      match readPlanes d ws s with
      | .error c => .error c
      | .ok (ps, s) => .ok (planeRows d none rows :: ps, s)

/-- The pixels of a predicted tile, or the cause of R196 (R194, R195). -/
def predPixels (format : Nat) (rgb : Bool) (b : Bytes) : Except Nat (List (List Nat)) :=
  let d := formatBits format
  let widths := if format = 2 then [16, 8, 8] else if format = 3 then [16] else [16, 16, 16, 16]
  match readPlanes d widths (bitsMsb b) with
  | .error c => .error c
  | .ok (ps, rest) =>
    if 8 ≤ rest.length ∨ rest.any id = true then .error 5
    else
      let at_ (k i : Nat) := (ps.getD k []).getD i 0
      let m := 2 ^ d
      .ok ((List.range 256).map (fun i =>
        if format = 2 then [at_ 0 i, at_ 1 (i / 16 * 8 + i % 16 / 2), at_ 2 (i / 16 * 8 + i % 16 / 2)]
        else if format = 3 then [at_ 0 i]
        else if rgb then [(at_ 1 i + at_ 0 i) % m, at_ 0 i, (at_ 2 i + at_ 0 i) % m, at_ 3 i]
        else [at_ 0 i, at_ 1 i, at_ 2 i, at_ 3 i]))

/-- The fields of a tile header (R192). -/
def headerOffset (h : Nat) : Nat := bitsOf h 0 24
def headerMode (h : Nat) : Nat := bitsOf h 24 4
def headerLen (h : Nat) : Nat := bitsOf h 32 12

/-- The bytes of a SOLID tile's payload (R193). -/
def solidBytes (format : Nat) : Nat := if format = 0 then 4 else if format = 1 then 8 else if format = 2 then 4 else 1

/-- What is wrong with a header, before its payload is read (R196); 0 for nothing. -/
def headerCause (format dlen h : Nat) : Nat :=
  let mode := headerMode h
  let len := headerLen h
  if 5 ≤ mode ∨ (mode = 3 ∧ 2 ≤ format) ∨ bitsOf h 28 4 ≠ 0 ∨ bitsOf h 44 20 ≠ 0 then 1
  else if dlen < 32 * headerOffset h + len ∨ (mode = 0 ∧ len ≠ tileBytes format) ∨ (mode = 1 ∧ len ≠ solidBytes format) ∨
      (mode = 4 ∧ len ≠ 0) then 2
  else 0

/-- The pixels of a compressed tile from its payload, or the cause of R196. -/
def tilePixels (format mode : Nat) (payload : Bytes) : Except Nat (List (List Nat)) :=
  if mode = 0 then .ok (rawPixels format payload)
  else if mode = 1 then .ok (List.replicate 256 (solidPixel format payload))
  else if mode = 4 then .ok (List.replicate 256 [0, 0, 0, 0])
  else predPixels format (mode == 3) payload

end Sys2Proof.Machine
end

