-- ==== Sys2Proof/Machine/PixCore.lean ====
section
/-! DEFINITION. The pixel pipelines: layer records, surfaces and tile fetches, layer-samples, compositing and conversion of one
pixel, and composite starts (R188-R216, R221-R235). -/
namespace Sys2Proof.Machine

/-! ### Layer records -/

def layW (l : List Nat) (i : Nat) : Nat := l.getD i 0
def layEnable (l : List Nat) : Bool := bitOf (layW l 0) 16
def layVideo (l : List Nat) : Bool := bitOf (layW l 0) 12
def layKernel (l : List Nat) : Nat := bitsOf (layW l 0) 17 2
def layHold (l : List Nat) : Bool := bitOf (layW l 0) 19
def layBlend (l : List Nat) : Nat := bitsOf (layW l 0) 20 4
def layEdge (l : List Nat) : Nat := bitsOf (layW l 0) 24 2
def layProj (l : List Nat) : Nat := bitsOf (layW l 0) 26 3
def layGen (l : List Nat) : Nat := bitsOf (layW l 1) 0 16
def layOpacity (l : List Nat) : Nat := bitsOf (layW l 1) 16 16
def layQ (l : List Nat) (i : Nat) : Nat := layW l (2 + i)
def layM (l : List Nat) (i : Nat) : Int := sext 16 (bitsOf (layW l (14 + i / 2)) (i % 2 * 16) 16)

/-- Projection parameters that a PROJ uses, Q0 onward (R207). -/
def projUses (proj : Nat) : Nat := if proj = 0 then 8 else if proj = 1 then 12 else if proj = 2 then 7 else 8

/-- Whether an enabled record must be treated as disabled (R203). -/
def layBad (l : List Nat) : Bool :=
  let w0 := layW l 0
  decide (layKernel l = 3) || decide (5 < layBlend l) || decide (layEdge l = 3) || decide (3 < layProj l) ||
    decide (0x8000 < layOpacity l) || decide (bitsOf w0 10 2 ≠ 0) || decide (bitsOf w0 13 3 ≠ 0) || decide (bitsOf w0 29 3 ≠ 0) ||
    (layVideo l && decide (bitsOf w0 4 6 ≠ 0)) || decide (bitsOf (layW l 18) 16 16 ≠ 0) || (l.drop 19).any (· ≠ 0) ||
    ((List.range 12).drop (projUses (layProj l))).any (fun i => layQ l i ≠ 0)

/-! ### Surfaces -/

/-- A surface as a layer-sample sees it: its key in the tile caches, base and payload area, size, format, compression, transfer
and matrix. -/
structure SurfaceOf where
  key : Nat
  base : Nat
  dbase : Nat
  dlen : Nat
  width : Nat
  height : Nat
  format : Nat
  comp : Bool
  transfer : Nat
  bt2020 : Bool
  deriving DecidableEq, Repr

/-- The eight words of a descriptor as committed (R188, R191). -/
def State.surfaceWords (s : State) (d : Nat) : List Nat :=
  (List.range 8).map (fun k => (s.word ((Reg.PIX_SURF_W d 0).off + 4 * k)).toNat)

/-- A surface descriptor's fields, from its words (R188). -/
def surfaceOf (d : Nat) (ws : List Nat) : SurfaceOf :=
  let w (k : Nat) := ws.getD k 0
  { key := d, base := bitsOf (w 0) 0 29, dbase := bitsOf (w 1) 0 29, dlen := bitsOf (w 2) 0 29, width := bitsOf (w 3) 0 16,
    height := bitsOf (w 3) 16 16, format := bitsOf (w 4) 0 3, comp := bitOf (w 4) 3, transfer := bitsOf (w 4) 4 3,
    bt2020 := bitOf (w 4) 8 }

/-- The surface of a video layer (R202, R387). -/
def videoSurface (i : Nat) (v : VideoTake) : SurfaceOf :=
  { key := 1024 + i, base := v.base, dbase := 0, dlen := 0, width := v.width, height := v.height, format := 2, comp := false,
    transfer := v.transfer, bt2020 := v.matrix == 1 }

/-- Tiles in a row of a surface. -/
def SurfaceOf.tilesWide (f : SurfaceOf) : Nat := (f.width + 15) / 16

/-- An event that is reported once per frame: whether it is new, and the state with it noted. -/
def State.oncePerFrame (s : State) (key : Nat) : State × Bool :=
  match s.pix.composite with
  | some c =>
    if c.seen.contains key then (s, false)
    else ({ s with pix := { s.pix with composite := some { c with seen := key :: c.seen } } }, true)
  | none => (s, false)

/-- A malformed tile is counted and raised once per layer per frame (R196). -/
def State.tileMalformed (s : State) (layer surf tile cause : Nat) : State :=
  let (s, new) := (s.count Reg.PIX_TILEERR 1).oncePerFrame (16 + layer)
  if new then s.raise 0x0A03 layer [surf, tile, cause] else s

/-- The bytes one pixel of a raw tile needs, relative to the tile (R190). -/
def pixelSpan (format i : Nat) : Nat × Nat :=
  if format = 0 then (4 * i, 4) else if format = 1 then (8 * i, 8) else if format = 2 then (i / 16 * 40 + i % 16 / 2 * 5, 4 + i % 2)
  else (i, 1)

/-- The pixels of raw data at an address that need a POISON word. -/
def State.rawBad (s : State) (format a : Nat) : List Nat :=
  if s.poisonIn a (tileBytes format) then
    (List.range 256).filter (fun i => let p := pixelSpan format i; s.poisonIn (a + p.1) p.2)
  else []

/-- A tile is fetched and decoded (R190, R192-R196, R125): codes, or none for a malformed tile, and the poisoned pixels. -/
def State.readTile (s : State) (req layer : Nat) (f : SurfaceOf) (tile : Nat) : State × Option (List (List Nat)) × List Nat :=
  if f.comp then
    let h := f.base + 8 * tile
    let s := s.touch req h 8
    if s.poisonIn h 8 then (s, some [], List.range 256)
    else
      let hdr := s.word32At h + 2 ^ 32 * s.word32At (h + 4)
      let cause := headerCause f.format f.dlen hdr
      if cause ≠ 0 then (s.tileMalformed layer f.key tile cause, none, [])
      else
        let a := f.dbase + 32 * headerOffset hdr
        let n := headerLen hdr
        let s := s.touch req a n
        if headerMode hdr = 0 then (s, some (rawPixels f.format (s.bytesAt a n)), s.rawBad f.format a)
        else if s.poisonIn a n ∧ n ≠ 0 then (s, some [], List.range 256)
        else match tilePixels f.format (headerMode hdr) (s.bytesAt a n) with
          | .ok px => (s, some px, [])
          | .error c => (s.tileMalformed layer f.key tile c, none, [])
  else
    let n := tileBytes f.format
    let a := f.base + tile * n
    let s := s.touch req a n
    (s, some (rawPixels f.format (s.bytesAt a n)), s.rawBad f.format a)

/-- A tile through a pipeline's cache of 64 (R197, R214): a cached copy as it was fetched, or a fetch that records the
descriptor's GEN of that moment. Which tile makes room is open: a free choice (R197; log 2). -/
def State.fetchTile (s : State) (req layer : Nat) (f : SurfaceOf) (tile : Nat) : State × TileSt :=
  match s.pix.tiles.find? (fun t => t.pipe == req && t.surface == f.key && t.tile == tile) with
  | some t => (s, t)
  | none =>
    let (s, codes, bad) := (s.count (Reg.PIX_PP_MISSES req) 1).readTile req layer f tile
    let gen := if f.key < 1024 then s.rd (Reg.PIX_SURF_S7_GEN f.key) else 0
    let t : TileSt := { pipe := req, surface := f.key, tile := tile, gen := gen, codes := codes, bad := bad }
    let mine := s.pix.tiles.filter (fun t => t.pipe == req)
    let others := s.pix.tiles.filter (fun t => t.pipe != req)
    let (victim, s) := if 64 ≤ mine.length then s.free else (0, s)
    let kept := if 64 ≤ mine.length then mine.eraseIdx (victim % 64) else mine
    ({ s with pix := { s.pix with tiles := others ++ kept ++ [t] } }, t)

/-- What a layer-sample found: its texel, or the fallback. -/
inductive SampleOf where
  | texel (t : Texel)
  | fallback
  deriving DecidableEq, Repr

/-- A generation mismatch is reported once per layer per frame (R197). -/
def State.genMismatch (s : State) (req layer : Nat) (l : List Nat) (found : Nat) : State :=
  let (s, new) := s.oncePerFrame layer
  let s := (s.wr (Reg.PIX_LAYER_LAST_EXPECT layer) (layGen l)).wr (Reg.PIX_LAYER_LAST_FOUND layer) found
  if new then
    (s.count (Reg.PIX_LAYER_MISMATCH layer) 1).raise 0x0A01 layer [bitsOf (layW l 0) 0 10, layGen l, found, req]
  else s

/-- One texel that a kernel needs (R189, R197, R208): none is the layer's fallback. -/
def State.texelAt (s : State) (req layer : Nat) (l : List Nat) (f : SurfaceOf) (i j : Int) : State × Option Texel :=
  match edgeIndex (layEdge l) f.width i, edgeIndex (layEdge l) f.height j with
  | some i, some j =>
    let (s, t) := s.fetchTile req layer f (j / 16 * f.tilesWide + i / 16)
    if f.key < 1024 ∧ t.gen ≠ layGen l then (s.genMismatch req layer l t.gen, none)
    else match t.codes with
      | none => (s, none)
      | some px =>
        let k := j % 16 * 16 + i % 16
        if t.bad.contains k then (s, none)
        else (s, some (decodePixel f.format f.transfer f.bt2020 (px.getD k [])))
  | _, _ => (s, some ⟨0, 0, 0, 0⟩)

/-- The texels of a kernel with their weights; none is the fallback, and what follows the first texel that fails is not fetched (log 172).
-/
def State.texels (req layer : Nat) (l : List Nat) (f : SurfaceOf) :
    List (Int × Int × Nat) → State → State × Option (List (Texel × Nat))
  | [], s => (s, some [])
  | (i, j, w) :: t, s =>
    let (s, x) := s.texelAt req layer l f i j
    match x with
    | none => (s, none)
    | some x =>
      let (s, r) := State.texels req layer l f t s
      (s, r.map (fun r => (x, w) :: r))

/-- The surface of a layer, when it may be sampled: a descriptor as it stood at composite start, whose GEN the layer expects then and
now, or a video input's buffer (R24, R36, R197, R199, R202) (log 120). -/
def State.layerSurface (s : State) (req layer : Nat) (l : List Nat) : State × Option SurfaceOf :=
  if layVideo l then
    let i := bitsOf (layW l 0) 0 4
    match s.pix.inputs.find? (fun p => p.1 == i) with
    | some (_, v) => (s, some (videoSurface i v))
    | none =>
      let (s, new) := s.oncePerFrame (32 + layer)
      (if new then s.raise 0x0A02 layer [i] else s, none)
  else
    let d := bitsOf (layW l 0) 0 10
    let ws := ((s.pix.surfaces.find? (fun p => p.1 == d)).map (·.2)).getD []
    let now := (s.word (Reg.PIX_SURF_S7_GEN d).off).toNat
    let fits (w : Nat) := bitOf w 31 && bitsOf w 0 16 == layGen l
    if !fits now then (s.genMismatch req layer l (bitsOf now 0 16), none)
    else if !fits (ws.getD 7 0) then (s.genMismatch req layer l (bitsOf (ws.getD 7 0) 0 16), none)
    else (s, some (surfaceOf d ws))

/-- A layer-sample (R206-R210): the kernel over premultiplied texels. -/
def State.sampleLayer (s : State) (req layer : Nat) (l : List Nat) (x y z : Int) : State × SampleOf :=
  let s := s.count (Reg.PIX_PP_SAMPLES req) 1
  let (s, f) := s.layerSurface req layer l
  match f with
  | none => (s, .fallback)
  | some f =>
    match project (layProj l) (layQ l) x y z with
    | none => (s, .texel ⟨0, 0, 0, 0⟩)
    | some (u, v) =>
      let k := layKernel l
      let (s, ts) := State.texels req layer l f (kernelTexels k u v) s
      match ts with
      | none => (s, .fallback)
      | some ts =>
        let each (g : Texel → Nat) := kernelRound k (ts.map (fun t => (g t.1, t.2)))
        (s, .texel ⟨each Texel.c0, each Texel.c1, each Texel.c2, each Texel.alpha⟩)

/-- A sample through the layer's matrix and opacity into the accumulator (R210, R211). -/
def layerInto (l : List Nat) (acc t : Texel) : Texel :=
  let m (k : Nat) := (clampI 0 colourMax
    ((layM l (3 * k) * t.c0 + layM l (3 * k + 1) * t.c1 + layM l (3 * k + 2) * t.c2 + 0x1000) / 2 ^ 13)).toNat
  let o := layOpacity l
  blend (layBlend l) acc ⟨mulc (m 0) o, mulc (m 1) o, mulc (m 2) o, mula t.alpha o⟩

/-- The sixteen layers of a pixel, bottom first (R210): the accumulator and whether a HOLD_LAST layer fell back. -/
def State.compositeLayers (req : Nat) (mask : Nat) (x y z : Int) :
    Nat → List (Option (List Nat)) → Texel → Bool → State → State × Texel × Bool
  | _, [], acc, hold, s => (s, acc, hold)
  | n, l :: t, acc, hold, s =>
    match l with
    | none => State.compositeLayers req mask x y z (n + 1) t acc hold s
    | some l =>
      if !bitOf mask n then State.compositeLayers req mask x y z (n + 1) t acc hold s
      else
        let (s, r) := s.sampleLayer req n l x y z
        match r with
        | .texel v => State.compositeLayers req mask x y z (n + 1) t (layerInto l acc v) hold s
        | .fallback =>
          State.compositeLayers req mask x y z (n + 1) t acc (hold || layHold l) (s.count (Reg.PIX_LAYER_FALLBACK n) 1)

/-! ### Drive values -/

/-- An Imago buffer's base (R233). -/
def State.imago (s : State) (b : Nat) : Nat := if b = 0 then s.rd Reg.SCL_IMAGO0 else s.rd Reg.SCL_IMAGO1

/-- Drive values are written to the back buffer (R233). -/
def State.writeDrive (s : State) (req at_ : Nat) (vs : List Nat) : State :=
  s.storeWrite req (s.imago (s.rd Reg.PIX_STAT_BUF) + at_) (vs.flatMap (leBytes 2))

/-- A held pixel is copied from the front buffer, poison with it (R198); poison in one of the words that it lies in makes every word that
its copy lies in poison (log 171). -/
def State.copyFront (s : State) (req at_ emit : Nat) : State :=
  let b := s.rd Reg.PIX_STAT_BUF
  let src := s.imago (1 - b) + at_
  let s := s.touch req src (2 * emit)
  let bad := s.poisonIn src (2 * emit)
  let dst := s.imago b + at_
  let s := s.storeWrite req dst (s.bytesAt src (2 * emit))
  if bad then (s.setMark (dst / 8 * 8) .poison).setMark ((dst + 2 * emit - 1) / 8 * 8) .poison else s

/-- Poison in a matrix record or a curve: the pixel is held, or written 0 without a front frame (R234). -/
def State.holdOrZero (s : State) (req at_ emit : Nat) : State :=
  if s.pix.frontValid then s.copyFront req at_ emit else s.writeDrive req at_ (List.replicate emit 0)

/-- SCALE_POISON (R234, R243): each pixel affected counts once, and it is raised once per frame. `first` says that the pixel has not
counted yet. -/
def State.scalePoison (s : State) (a ept pixel : Nat) (first : Bool) : State :=
  let (s, new) := (if first then s.count Reg.SCL_POISON 1 else s).oncePerFrame 67
  if new then s.raise 0x0B03 0 [a, ept, pixel] else s

/-- BIN_RANGE (R234): counted for each pixel, raised once per frame for each cause. -/
def State.binRange (s : State) (cause ept pixel bin : Nat) : State :=
  let (s, new) := (s.count Reg.SCL_BINERR 1).oncePerFrame (64 + cause)
  if new then s.raise 0x0B02 0 [cause, ept, pixel, bin] else s

/-- The lamp word of a pixel (R227, R234): BIN, DEAD and TRIM as the conversion uses them, and whether the word is POISON. -/
def State.lampWord (s : State) (req : Nat) (ft : FixtureType) (lamp ept pixel : Nat) : State × Nat × Bool × Nat × Bool :=
  let a := s.rd Reg.SCL_LAMP + 4 * lamp
  if !s.pix.lampCurrent || decide (0x1F800000 ≤ a) then (s.binRange 2 ept pixel 0, 0, false, 0x8000, false)
  else
    let s := s.touch req a 4
    if s.poisoned a then (s.scalePoison a ept pixel true, 0, false, 0x8000, true)
    else
      let w := s.word32At a
      let bin := bitsOf w 0 12
      if bitOf w 12 then (s, bin, true, 0, false)
      else if ft.nbins ≤ bin then (s.binRange 1 ept pixel bin, 0, false, 0x8000, false)
      else (s, bin, false, bitsOf w 16 16, false)

/-- An entry joins a cache of `n`; which one makes room is open: a free choice (R240; log 2). -/
def State.cacheIn {α : Type} (s : State) (n : Nat) (cache : List α) (x : α) : State × List α :=
  if cache.length < n then (s, cache ++ [x])
  else
    let (v, s) := s.free
    (s, cache.eraseIdx (v % n) ++ [x])

/-- A bin matrix record through the cache of 512 records (R225, R240): read from the store only when the cache does not hold it. -/
def State.fetchMatrix (s : State) (req a : Nat) : State × MatrixSt :=
  match s.pix.matrices.find? (fun m => m.addr == a) with
  | some m => (s, m)
  | none =>
    let s := s.touch req a 64
    let m : MatrixSt := { addr := a, words := s.matrixAt a, bad := s.poisonIn a 64 }
    let (s, l) := s.cacheIn 512 s.pix.matrices m
    ({ s with pix := { s.pix with matrices := l } }, m)

/-- A curve through the cache of 32 whole curves (R226, R240). -/
def State.fetchCurve (s : State) (req a : Nat) : State × CurveSt :=
  match s.pix.curves.find? (fun c => c.addr == a) with
  | some c => (s, c)
  | none =>
    let s := s.touch req a 1028
    let addrs := (List.range 257).map (fun i => a + 4 * i)
    let c : CurveSt := { addr := a, entries := addrs.map s.word32At,
                         bad := if s.poisonIn a 1028 then addrs.filter s.poisoned else [] }
    let (s, l) := s.cacheIn 32 s.pix.curves c
    ({ s with pix := { s.pix with curves := l } }, c)

/-- The curves of a pixel's emitters, in order of emitter. -/
def State.fetchCurves (req : Nat) (ft : FixtureType) : List Nat → State → State × List CurveSt
  | [], s => (s, [])
  | e :: t, s =>
    let (s, c) := s.fetchCurve req (curveBase ft e)
    let (s, cs) := State.fetchCurves req ft t s
    (s, c :: cs)

/-- The first POISON entry that intensities read from their curves. -/
def poisonEntry (ft : FixtureType) (v : List Nat) (cs : List CurveSt) : Option Nat :=
  ((v.zipIdx.zip cs).flatMap (fun p => (curveAddrs ft p.1.2 p.1.1).filter (p.2.bad.contains ·))).head?

/-- The conversion of a pixel that is not held (R228-R234). -/
def State.scalePixel (s : State) (req : Nat) (e : List Nat) (ept pixel n : Nat) (acc : Texel) : State :=
  let (s, ft) := s.fixture req (eptFtype e)
  if !ft.valid then s.writeDrive req (eptIofs e + pixel * 8) [0, 0, 0, 0]
  else
    let at_ := eptIofs e + pixel * 2 * ft.emit
    let lamp := eptPbase e + pixel
    let (s, bin, dead, trim, counted) := s.lampWord req ft lamp ept pixel
    if dead then s.writeDrive req at_ (List.replicate ft.emit 0)
    else
      let model := if eptThmEn e then (s.pix.models.find? (fun m => m.1 == eptThm e)).map (·.2) else none
      let th := match model with | some (th, _) => th | none => 0x8000
      let (bf, bt, w) := bandsOf ft (s.flag Reg.SCL_CTRL_BANDS_EN) s.pix.xfade model
      let af := ft.mbase + 64 * (bf * ft.nbins + bin)
      let at2 := ft.mbase + 64 * (bt * ft.nbins + bin)
      let (s, mf) := s.fetchMatrix req af
      let (s, mt) := s.fetchMatrix req at2
      if mf.bad || mt.bad then (s.scalePoison (if mf.bad then af else at2) ept pixel (!counted)).holdOrZero req at_ ft.emit
      else
        let m := (mf.words.zip mt.words).map (fun p => if af = at2 then p.2 else blendBand p.1 p.2 w)
        let (v, clamps) := intensities ft m trim th acc.c0 acc.c1 acc.c2
        let (s, cs) := State.fetchCurves req ft (List.range v.length) s
        match poisonEntry ft v cs with
        | some a => (s.scalePoison a ept pixel (!counted)).holdOrZero req at_ ft.emit
        | none =>
          let s : State := { s with pix := { s.pix with composite := s.pix.composite.map (fun c => { c with clamps := c.clamps + clamps }) } }
          s.writeDrive req at_ ((v.zipIdx.zip cs).map (fun p => driveOf ft p.2 (s.flag Reg.SCL_CTRL_DITHER_EN) n lamp p.1.2 p.1.1))

/-- One pixel of an endpoint: position, layers, and conversion or hold (R198, R205, R210). -/
def State.compositePixel (s : State) (req : Nat) (e : List Nat) (ept n pixel : Nat) : State :=
  let (r, c) := pixelCell (bitsOf (eptWord e 0) 1 2) (eptCols e) (eptRows e) pixel
  let coord (k : Nat) := coordinate (eptWord e (1 + k)) (eptWord e (4 + k)) (eptWord e (7 + k)) r c
  let s := s.count (Reg.PIX_PP_PIXELS req) 1
  let (s, acc, hold) := State.compositeLayers req (eptLayers e) (coord 0) (coord 1) (coord 2) 0 s.pix.layers ⟨0, 0, 0, 0⟩ false s
  if hold && s.pix.frontValid then
    let (s, ft) := s.fixture req (eptFtype e)
    s.copyFront req (eptIofs e + pixel * 2 * eptEmit ft) (eptEmit ft)
  else s.scalePixel req e ept pixel n acc

/-! ### The walk of the endpoint table -/

/-- Whether the pipelines composite an entry (R204, R247, R563); a bad one is captured and raised. -/
def State.admitEntry (s : State) (req ept : Nat) : State × Option (List Nat) :=
  let a := s.rd Reg.EPT_BASE + 64 * ept
  let s := s.touch req a 64
  if s.poisonIn a 64 then (s, none)
  else
    let e := s.entryAt a
    if !eptValid e then (s, none)
    else
      let (s, ft) := s.fixture req (eptFtype e)
      if eptBad e ft (s.rd Reg.EPT_IMAGOLEN) then
        (if s.flag Reg.PIX_EPTERR_EVALID then s
         else ((s.wr Reg.PIX_EPTERR_EINDEX ept).setFlag Reg.PIX_EPTERR_EVALID true).raise 0x0A06 0 [ept], none)
      else (s, some e)

/-- The next entry to composite from an index, among `k` that may remain (R213). -/
def State.nextEntry (req : Nat) : Nat → Nat → State → State × Option (Nat × List Nat)
  | 0, _, s => (s, none)
  | k + 1, i, s =>
    if s.rd Reg.EPT_COUNT ≤ i then (s, none)
    else
      let (s, e) := s.admitEntry req i
      match e with
      | some e => (s, some (i, e))
      | none => State.nextEntry req k (i + 1) s

/-- The composite in progress with its cursor moved. -/
def State.setCursor (s : State) (ept pixel done stalls : Nat) : State :=
  { s with pix := { s.pix with composite := s.pix.composite.map (fun c =>
      { c with ept := ept, pixel := pixel, pixels := c.pixels + done, stalls := c.stalls + stalls }) } }

/-- Adjacent pixels of an entry, `k` of them. -/
def State.pixelRun (req : Nat) (e : List Nat) (ept n : Nat) : Nat → Nat → State → State
  | 0, _, s => s
  | k + 1, i, s => State.pixelRun req e ept n k (i + 1) (s.compositePixel req e ept n i)

/-- The bits BUSY of the block and of its sixteen pipelines (R218, R219). -/
def State.setPixBusy (s : State) (b : Bool) : State :=
  (List.range 16).foldl (fun s p => s.setFlag (Reg.PIX_PP_STAT p) b) (s.setFlag Reg.PIX_STAT_BUSY b)

/-- Which pipeline makes a read that the spec assigns to none: open (R213; log 2) (log 100). -/
def State.anyPipe (s : State) : State × Nat :=
  let (f, s) := s.free
  (s, f % 16)

end Sys2Proof.Machine
end

