-- ==== Sys2Proof/Machine/Pixel.lean ====
section
/-! DEFINITION. Composite starts and the PIX, SCL and EPT rows: surface commits, NEXT writes, enable, pieces and completion
(R191, R201-R203, R213-R216, R221, R224, R235, R239, R244). -/
namespace Sys2Proof.Machine

/-! ### Composite start -/

/-- What a table's NEXT register latches (R201, R221, R244): the base and count that it and EPT_COUNT_NEXT hold, or, where one of them was
written in this TIME cycle, what was pending before it; and whether the register's PEND stays. -/
def State.latchNext (s : State) (k : Nat) (next pend : Fld) : Option (Nat × Nat) × Bool :=
  let now := if s.flag pend then some (s.rd next, s.rd Reg.EPT_COUNT_NEXT) else none
  match s.pix.nexts.lookup k with
  | some x => if x.at_ = s.time.elapsed then (x.before, x.again) else (now, false)
  | none => (now, false)

/-- The layer table latches (R201): whether it is newly taken (log 96). -/
def State.latchLayers (s : State) : State × Bool :=
  match s.latchNext 0 Reg.PIX_LTAB_NEXT_NEXT Reg.PIX_LTAB_NEXT_PEND with
  | (some (base, _), again) => ((s.wr Reg.PIX_LTAB base).setFlag Reg.PIX_LTAB_NEXT_PEND again, true)
  | (none, _) => (s, false)

/-- The layer records of the current table for one frame (R202, R203, R563). -/
def State.readLayers (s : State) (req : Nat) (taken : Bool) : State × List (Option (List Nat)) :=
  (List.range 16).foldl (fun p l =>
    let a := p.1.rd Reg.PIX_LTAB + 128 * l
    let s := p.1.touch req a 128
    if s.poisonIn a 128 then (s, p.2 ++ [none])
    else
      let ws := (List.range 32).map (fun i => s.word32At (a + 4 * i))
      if !layEnable ws then (s, p.2 ++ [none])
      else if layBad ws then
        let s := s.setFlag (Reg.PIX_LAYER_STAT l) true
        (if taken then s.raise 0x0A04 l [layW ws 0, layW ws 1] else s, p.2 ++ [none])
      else (s, p.2 ++ [some ws])) (s, [])

/-- The check of one fixture type record at the latch that makes its table current (R224, R563). -/
def State.checkFixture (s : State) (req t : Nat) : State :=
  let a := s.rd Reg.SCL_FTAB + 64 * t
  let s := s.touch req a 64
  let bit (s : State) (b : Bool) := s.wr (Reg.SCL_FTSTAT (t / 32)) (withBits (s.ftStat (t / 32)) (t % 32) 1 (b2n b))
  if s.poisonIn a 64 then bit s false
  else
    let f (i : Nat) := s.word32At (a + 4 * i)
    if !bitOf (f 0) 0 then bit s false
    else
      let c := fixtureCause f
      if c = 0 then bit s true
      else
        let s := bit s false
        let s := if s.flag Reg.SCL_FTERR_VALID then s
          else ((s.wr Reg.SCL_FTERR_TYPE t).wr Reg.SCL_FTERR_CAUSE c).setFlag Reg.SCL_FTERR_VALID true
        s.raise 0x0B01 0 [t, c]

/-- The Scale tables latch (R221, R224). -/
def State.latchScale (s : State) (req : Nat) : State :=
  let s := match s.latchNext 2 Reg.SCL_LAMP_NEXT_NEXT Reg.SCL_LAMP_NEXT_PEND with
    | (some (base, _), again) =>
      let s := (s.wr Reg.SCL_LAMP base).setFlag Reg.SCL_LAMP_NEXT_PEND again
      ({ s with pix := { s.pix with lampCurrent := true } } : State)
    | (none, _) => s
  match s.latchNext 1 Reg.SCL_FTAB_NEXT_NEXT Reg.SCL_FTAB_NEXT_PEND with
  | (some (base, _), again) =>
    let s := (s.wr Reg.SCL_FTAB base).setFlag Reg.SCL_FTAB_NEXT_PEND again
    (List.range 256).foldl (fun s t => s.checkFixture req t) s
  | (none, _) => s

/-- The endpoint table latches (R244). -/
def State.latchEndpoints (s : State) : State :=
  match s.latchNext 3 Reg.EPT_NEXT_NEXT Reg.EPT_NEXT_PEND with
  | (some (base, count), again) => ((s.wr Reg.EPT_BASE base).wr Reg.EPT_COUNT count).setFlag Reg.EPT_NEXT_PEND again
  | (none, _) => s

def vinIdle : VinSt :=
  { buf0 := .empty, buf1 := .empty, held := [], taken := [], emptyLater := [], started := none, predicted := false,
    doneAt := none, run := (0, 0), badAt := none, disabledAt := 0 }

def State.vin (s : State) (i : Nat) : VinSt := tblGet s.vins vinIdle i

def State.setVin (s : State) (i : Nat) (v : VinSt) : State := { s with vins := tblSet s.vins vinIdle i v }

/-- The picture size of an input: the SDI format's (R390), or the flow's CFG (R405). -/
def State.vinSize (s : State) (i : Nat) : Nat × Nat :=
  if i < 4 then
    let f := s.rd (Reg.VIN_STAT_FMT i)
    if f = 1 then (1280, 720) else if f = 5 ∨ f = 6 then (3840, 2160) else (1920, 1080)
  else (s.rd (Reg.VIN_CFG_WIDTH i), s.rd (Reg.VIN_CFG_HEIGHT i))

def VinSt.buf (v : VinSt) (b : Nat) : VinBuf := if b = 0 then v.buf0 else v.buf1

def VinBuf.isComplete : VinBuf → Bool
  | .complete _ => true
  | _ => false

/-- The buffer of an input's newest complete frame that a composite start sees: a frame completed in the same cycle is not seen
(R387). -/
def State.seenBuf (s : State) (i : Nat) : Option Nat :=
  let v := s.vin i
  let b := s.rd (Reg.VIN_STAT_NEWEST i)
  if !s.flag (Reg.VIN_STAT_HAVE i) then none
  else if v.doneAt ≠ some s.time.elapsed then some b
  else if (v.buf (1 - b)).isComplete then some (1 - b)
  else none

/-- A composite takes each input's newest complete frame and holds its buffer (R38, R202). -/
def State.takeInputs (s : State) : State × List (Nat × VideoTake) :=
  (List.range 16).foldl (fun p i =>
    let s := p.1
    match s.seenBuf i with
    | some b =>
      let (w, h) := s.vinSize i
      let t : VideoTake := { base := if b = 0 then s.rd (Reg.VIN_BASE0 i) else s.rd (Reg.VIN_BASE1 i), width := w, height := h,
                             transfer := s.rd (Reg.VIN_CFG_TRANSFER i), matrix := s.rd (Reg.VIN_CFG_YCCMAT i) }
      let v := s.vin i
      (s.setVin i { v with held := insertNat b v.held, taken := insertNat b v.taken }, p.2 ++ [(i, t)])
    | none => (s, p.2)) (s, [])

/-- COMPOSITE_START (R24, R36, R201, R221, R236, R240, R244, R327): pending tables latch, the records they name are read and the surface
descriptors named are taken; then, where the frame is composited, the pipelines start on it with empty caches. `n` is the whole-frame part
of its apex position, `models` what serves its thermal models (log 120). -/
def State.compositeStart (s : State) (frame n : Nat) (models : List (Nat × (Nat × Nat))) (composites : Bool) : State :=
  let (s, req) := s.anyPipe
  let (s, taken) := s.latchLayers
  let s := (s.latchScale req).latchEndpoints
  let (s, layers) := s.readLayers req taken
  let named := layers.filterMap (fun l => l.bind (fun l => if layVideo l then none else some (bitsOf (layW l 0) 0 10)))
  let s : State := { s with pix := { s.pix with layers := layers, surfaces := named.eraseDups.map (fun d => (d, s.surfaceWords d)),
                                                models := models, xfade := s.rd Reg.SCL_CTRL_XFADE } }
  if composites then
    let (s, inputs) := s.takeInputs
    let c : CompositeSt := { frame := frame, n := n, start := s.time.elapsed, ept := 0, pixel := 0, pixels := 0, seen := [],
                             clamps := 0, stalls := 0 }
    ({ s with pix := { s.pix with composite := some c, tiles := [], matrices := [], curves := [], inputs := inputs } } : State).setPixBusy true
  else s

/-! ### Surface descriptors -/

/-- The lowest cause for which shadow words fail a commit with VALID = 1 (R191); 0 when they pass. -/
def surfaceCause (w : Nat → Nat) (s7 : Nat) : Nat :=
  let width := bitsOf (w 3) 0 16
  let height := bitsOf (w 3) 16 16
  let tiles := ((width + 15) / 16) * ((height + 15) / 16)
  let comp := bitOf (w 4) 3
  if width = 0 ∨ 16384 < width ∨ height = 0 ∨ 16384 < height then 1
  else if 3 < bitsOf (w 4) 0 3 ∨ 3 < bitsOf (w 4) 4 3 ∨ w 0 / 2 ^ 29 ≠ 0 ∨ w 1 / 2 ^ 29 ≠ 0 ∨ w 2 / 2 ^ 29 ≠ 0 ∨
      bitOf (w 4) 7 = true ∨ w 4 / 2 ^ 9 ≠ 0 ∨ bitsOf s7 16 15 ≠ 0 ∨ w 5 ≠ 0 ∨ w 6 ≠ 0 ∨
      (comp = false ∧ (w 1 ≠ 0 ∨ w 2 ≠ 0)) then 2
  else if w 0 % 256 ≠ 0 ∨ w 1 % 256 ≠ 0 then 3
  else if (comp = false ∧ tableTop < w 0 + tiles * tileBytes (bitsOf (w 4) 0 3)) ∨
      (comp = true ∧ (tableTop < w 0 + 8 * tiles ∨ tableTop < w 1 + w 2)) then 4
  else 0

/-- A shadow word of a descriptor (R191). -/
def State.shadowWord (s : State) (d k : Nat) : Nat := tblGet s.pix.shadow 0 (8 * d + k)

/-- A write of S0-S6 goes to the shadow copy (R191). -/
def State.writeShadow (s : State) (d k v : Nat) : State :=
  { s with pix := { s.pix with shadow := tblSet s.pix.shadow 0 (8 * d + k) v } }

/-- SURF_COMMIT (R191): a write to S7 commits all eight words, with VALID = 0 where a check fails. -/
def State.surfCommit (s : State) (d v : Nat) : State :=
  let cause := if bitOf v 31 then surfaceCause (s.shadowWord d) v else 0
  let s := (List.range 7).foldl (fun s k => s.wr (Reg.PIX_SURF_W d k) (s.shadowWord d k)) s
  let s := (s.wr (Reg.PIX_SURF_S7_GEN d) v).setFlag (Reg.PIX_SURF_S7_VALID d) (bitOf v 31 && decide (cause = 0))
  if cause = 0 ∨ s.flag Reg.PIX_SURFERR_VALID = true then s
  else (((s.wr Reg.PIX_SURFERR_INDEX d).wr Reg.PIX_SURFERR_CAUSE cause).setFlag Reg.PIX_SURFERR_VALID true).raise 0x0A05 0 [d, cause]

def execSurfCommit (d : BitVec 10) (v : Word) (s : State) : Answer :=
  s.byRegister (Reg.PIX_SURF_S7_GEN d.toNat).off <| .next (s.surfCommit d.toNat v.toNat)

/-! ### NEXT writes -/

/-- The base that a write of a NEXT register carries. -/
def nextBase (v : Nat) : Nat := v % 2 ^ 29

/-- A write of a table's NEXT register, or of EPT_COUNT_NEXT, is noted with its TIME cycle (R201, R221, R244). -/
def State.noteNext (s : State) (k : Nat) (next pend : Fld) (base : Bool) : State :=
  let x : NextSt := match s.pix.nexts.lookup k with
    | some x => if x.at_ = s.time.elapsed then { x with again := x.again || base }
      else { at_ := s.time.elapsed, before := (s.latchNext k next pend).1, again := base }
    | none => { at_ := s.time.elapsed, before := (s.latchNext k next pend).1, again := base }
  { s with pix := { s.pix with nexts := (k, x) :: s.pix.nexts.filter (fun e => e.1 != k) } }

/-- A base is written to a table's NEXT register. -/
def State.putNext (s : State) (k : Nat) (next pend : Fld) (v : Nat) : State :=
  ((s.noteNext k next pend true).wr next (nextBase v)).setFlag pend true

def State.ltabNext (s : State) (v : Nat) : State :=
  if ltabOk (nextBase v) then s.putNext 0 Reg.PIX_LTAB_NEXT_NEXT Reg.PIX_LTAB_NEXT_PEND v else s

def State.ftabNext (s : State) (v : Nat) : State :=
  if ftabOk (nextBase v) then s.putNext 1 Reg.SCL_FTAB_NEXT_NEXT Reg.SCL_FTAB_NEXT_PEND v else s

def State.lampNext (s : State) (v : Nat) : State :=
  if lampOk (nextBase v) then s.putNext 2 Reg.SCL_LAMP_NEXT_NEXT Reg.SCL_LAMP_NEXT_PEND v else s

def State.eptNext (s : State) (v : Nat) : State :=
  if eptOk (nextBase v) (s.rd Reg.EPT_COUNT_NEXT) then s.putNext 3 Reg.EPT_NEXT_NEXT Reg.EPT_NEXT_PEND v else s

/-- A write of EPT_COUNT_NEXT. -/
def State.eptCountNext (s : State) (v : Nat) : State :=
  (s.noteNext 3 Reg.EPT_NEXT_NEXT Reg.EPT_NEXT_PEND false).loadReg 0xD000C v

/-- A table's NEXT register that a commit has written latches at once (R332). -/
def State.commitNext (s : State) (k : Nat) : State :=
  { s with pix := { s.pix with nexts := s.pix.nexts.filter (fun e => e.1 != k) } }

/-- PIX_LTAB_NEXT_WRITE (R201). -/
def execPixLtabNextWrite (v : Word) (s : State) : Answer := s.byRegister 0xA000C <| .next (s.ltabNext v.toNat)

/-- SCL_FTAB_NEXT_WRITE (R221). -/
def execSclFtabNextWrite (v : Word) (s : State) : Answer := s.byRegister 0xC0008 <| .next (s.ftabNext v.toNat)

/-- SCL_LAMP_NEXT_WRITE (R221). -/
def execSclLampNextWrite (v : Word) (s : State) : Answer := s.byRegister 0xC0010 <| .next (s.lampNext v.toNat)

/-- EPT_NEXT_WRITE (R244). -/
def execEptNextWrite (v : Word) (s : State) : Answer := s.byRegister 0xD0008 <| .next (s.eptNext v.toNat)

/-- SCL_IMAGO_WRITE (R235): taken only while the pipelines are quiescent, for a multiple of 256 below 0x1F80_0000. -/
def State.imagoWrite (s : State) (second : Bool) (v : Nat) : State :=
  let b := nextBase v
  if s.flag Reg.PIX_STAT_QUIESCENT && b % 256 == 0 && decide (b < tableTop) then
    s.wr (if second then Reg.SCL_IMAGO1 else Reg.SCL_IMAGO0) b
  else s

def execSclImagoWrite (second : Bool) (v : Word) (s : State) : Answer :=
  s.byRegister (if second then 0xC0018 else 0xC0014) <| .next (s.imagoWrite second v.toNat)

/-- SCL_XFADE_WRITE (R239): 0 is ignored; the length in force changes at the next composite start. -/
def execSclXfadeWrite (v : BitVec 8) (s : State) : Answer :=
  s.byRegister 0xC0000 <| .next (if v = 0 then s else s.wr Reg.SCL_CTRL_XFADE v.toNat)

/-! ### Enable and disable -/

/-- PIX_ENABLE (R216, R198): taken only while QUIESCENT = 1; the front buffer holds no frame of this enable yet. -/
def State.pixEnable (s : State) : State :=
  if s.flag Reg.PIX_STAT_QUIESCENT then
    { (s.setFlag Reg.PIX_CTRL true).setFlag Reg.PIX_STAT_QUIESCENT false with pix := { s.pix with frontValid := false } }
  else s

def execPixEnable (s : State) : Answer := s.byRegister 0xA0000 <| .next s.pixEnable

/-- PIX_DISABLE (R216): no further composite starts. -/
def execPixDisable (s : State) : Answer := s.byRegister 0xA0000 <| .next (s.setFlag Reg.PIX_CTRL false)

/-- PIX_QUIESCENT (R216): with ENABLE = 0 and no composite in progress, QUIESCENT is set and raised. -/
def execPixQuiescent (s : State) : Answer := s.whenOn 0x0A <|
  .next (
    if !s.flag Reg.PIX_CTRL && !s.flag Reg.PIX_STAT_QUIESCENT && s.pix.composite.isNone then
      (s.setFlag Reg.PIX_STAT_QUIESCENT true).raise 0x0A08 0 []
    else s)

/-! ### Pieces and completion -/

/-- PIX_PIECE (R213): a free pipeline takes up to 16 pixels at the cursor. `sclStalls` are the PIX cycles for
which a record or a curve that has not arrived holds the Scale unit, and `stalls` the other cycles that the pipeline stalls, which
the commands' sender knows; the first count in both places (R214, R240). -/
def execPixPiece (pipe : Fin 16) (stalls sclStalls : BitVec 16) (s : State) : Answer :=
  s.atStore (.pixPiece pipe stalls sclStalls) <| s.whenOn 0x0A <|
  .next (match s.pix.composite with
    | none => s
    | some c =>
      let all := stalls.toNat + sclStalls.toNat
      let s := (s.count (Reg.PIX_PP_STALLS pipe.val) all).count Reg.SCL_STALLS sclStalls.toNat
      let go (s : State) (i : Nat) (e : List Nat) (p : Nat) : State :=
        let k := min 16 (eptPixels e - p)
        let s := State.pixelRun pipe.val e i c.n k p s
        if p + k < eptPixels e then s.setCursor i (p + k) k all else s.setCursor (i + 1) 0 k all
      if c.pixel ≠ 0 then go s c.ept (s.entryAt (s.rd Reg.EPT_BASE + 64 * c.ept)) c.pixel
      else
        let (s, r) := State.nextEntry pipe.val (s.rd Reg.EPT_COUNT - c.ept) c.ept s
        match r with
        | some (i, e) => go s i e 0
        | none => s.setCursor (s.rd Reg.EPT_COUNT) 0 0 all)

/-- A frame's phase changes. -/
def State.setFramePhase (s : State) (n : Nat) (p : FramePhase) : State :=
  { s with otu := { s.otu with frames := s.otu.frames.map (fun f => if f.number = n then { f with phase := p } else f) } }

/-- COMPOSITE_COMPLETE (R213, R218, R230): at `t`, with every entry walked, the composite is complete in the back buffer. -/
def execCompositeComplete (t : BitVec 64) (s : State) : Answer := s.whenOn 0x0A <|
  .next (match s.pix.composite with
    | none => s
    | some c =>
      if c.ept < s.rd Reg.EPT_COUNT then s
      else
        let s := s.until t.toNat
        let s := (s.countMod Reg.PIX_FRAMES 1).wr Reg.PIX_LASTCYC ((s.time.elapsed - c.start) * 3 / 5)
        let s := (s.wr Reg.PIX_LASTSTALL c.stalls).wr Reg.SCL_OVER c.clamps
        let s : State := { s with pix := { s.pix with composite := none } }
        (s.setPixBusy false).setFramePhase c.frame .complete)

end Sys2Proof.Machine
end

