-- ==== Sys2Proof/Machine/Tracker.lean ====
section
/-! DEFINITION. The metre tracker: onsets, predicted beats, confidence, states and taps (R397-R399). -/
namespace Sys2Proof.Machine

def State.setTrk (s : State) (x : TrkSt) : State := { s with trk := x }

/-- The tracker's state: 0 SEARCH, 1 TRACK, 2 COAST (R398). -/
def State.trkState (s : State) : Nat := s.rd Reg.AUD_TRK_STAT_STATE

/-- The period range in ns that TMAX and TMIN give (R397). -/
def State.beatMin (s : State) : Nat := (60000000000 + s.rd Reg.AUD_TRK_RANGE_TMAX - 1) / s.rd Reg.AUD_TRK_RANGE_TMAX
def State.beatMax (s : State) : Nat := 60000000000 / s.rd Reg.AUD_TRK_RANGE_TMIN

/-- A value between two bounds that the spec leaves to the tracker's own analysis (R397, R398; log 26). -/
def State.freeBetween (s : State) (lo hi : Nat) : Nat × State :=
  let (f, s) := s.free
  (lo + f % (hi - lo + 1), s)

/-- Each state change raises TRK_STATE (R398). -/
def State.setTrkState (s : State) (st : Nat) : State :=
  if s.trkState = st then s
  else (s.wr Reg.AUD_TRK_STAT_STATE st).raise 0x1302 0 [st, s.rd Reg.AUD_TRK_STAT_CONF, s.rd Reg.AUD_TRK_PERIOD]

/-- CONF over the last 16 predicted beats (R397). -/
def trkConf (matched : List Bool) : Nat := (510 * (matched.take 16).count true + 16) / 32

/-- Whether TRK_SRC selects a channel (R407). -/
def State.trkSelects (s : State) (c : Nat) : Bool :=
  (List.range 4).any (fun m => bitsOf (s.rd Reg.AUD_TRK_SRC) (8 * m) 8 == 128 + c)

/-- TRK_ONSET (R397): an onset in the summed input, or a tap. Onsets of the last 8 s are kept. -/
def State.onset (s : State) (t : Nat) : State :=
  if s.flag Reg.AUD_CTRL_TRK_EN then
    s.setTrk { s.trk with onsets := s.trk.onsets.filter (fun o => decide (t < o + 8000000000)) ++ [t] }
  else s

/-- Whether a sum of 24-bit samples stands at or above GATE dB below full scale (R398). -/
def atGate (gate : Nat) (sum : Int) : Bool := decide (2 ^ 460 ≤ sum.natAbs ^ 20 * 10 ^ gate)

/-- A sample of a channel in the tracker's sum, now: the newest one of each selected channel counts, and the instant at which their sum last
stood at or above GATE is kept (R398; log 26). -/
def State.trkHear (s : State) (c : Nat) (sample : Int) : State :=
  if s.flag Reg.AUD_CTRL_TRK_EN && s.trkSelects c then
    let levels := tblSet s.trk.levels 0 c sample
    let sum := (levels.filter (fun x => s.trkSelects x.1)).foldl (fun a x => a + x.2) 0
    s.setTrk { s.trk with levels := levels, loudAt := if atGate (s.rd Reg.AUD_TRK_CFG_GATE) sum then s.now else s.trk.loudAt }
  else s

/-- Channels without a lock are left out of the sum (R397). -/
def State.trkForget (s : State) (c n : Nat) : State :=
  s.setTrk { s.trk with levels := s.trk.levels.filter (fun x => !(decide (c ≤ x.1) && decide (x.1 < c + n))) }

/-- A beat is emitted at `t` (R398): counted, and an event for source 7 and for contexts with the BEAT source (R48, R54). -/
def State.emitBeat (s : State) (t : Nat) : State :=
  let s := (s.countMod Reg.AUD_TRK_BEATS 1).wr Reg.AUD_TRK_BEAT_TIME (t % 2 ^ 32)
  let s := s.setTrk { s.trk with last := some t }
  let s := s.refEvent 6 (s.rd Reg.AUD_TRK_BEATS)
  let (s, _) := s.edge 7 (s.trk.period * 2 ^ 32) false
  let low := if s.rd Reg.AUD_TRK_STAT_CONF < s.rd Reg.ANT_BEAT_CFG then s.trk.low + 1 else 0
  let s := s.setTrk { s.trk with low := low }
  if 4 ≤ low then s.loseSource 7 else s

/-- The period takes a value. -/
def State.setBeatPeriod (s : State) (p : Nat) : State := (s.setTrk { s.trk with period := p }).wr Reg.AUD_TRK_PERIOD p

/-- The interval to the beat after this one (R398): free in SEARCH, within 1/8 of the one before after a match in TRACK, held
otherwise. -/
def State.nextInterval (s : State) (hit : Bool) : Nat × State :=
  let p := s.trk.period
  if s.trkState = 0 then
    let (q, s) := s.freeBetween s.beatMin s.beatMax
    let s := s.setBeatPeriod q
    s.freeBetween s.beatMin s.beatMax
  else if s.trkState = 1 ∧ hit = true then
    let lo := max s.beatMin (p - p / 8)
    let hi := min s.beatMax (p + p / 8)
    if hi < lo then (p, s)
    else
      let (q, s) := s.freeBetween lo hi
      (q, s.setBeatPeriod q)
  else (p, s)

/-- The state that follows a predicted beat (R398). -/
def State.trkNextState (s : State) : Nat :=
  let conf := s.rd Reg.AUD_TRK_STAT_CONF
  let st := s.trkState
  if st = 1 then (if conf < 64 then 2 else 1)
  else if 128 ≤ conf then 1
  else if st = 2 ∧ s.rd Reg.AUD_TRK_CFG_COASTMAX ≤ s.trk.coast then 0
  else st

/-- TRACK is left before an instant at which the summed input will have stayed below GATE for 1 s (R398). -/
def State.trkGate (s : State) (t : Nat) : State :=
  if s.trkState = 1 ∧ s.trk.loudAt + 1000000000 ≤ t then (s.until (s.trk.loudAt + 1000000000)).setTrkState 2 else s

/-- TRK_PREDICTED_BEAT (R397, R398): the next predicted beat arrives. `after` says that an onset follows it, by `ms` milliseconds. -/
def execTrkPredictedBeat (after : Bool) (ms : Fin 64) (s : State) : Answer := s.whenOn 0x13 <|
  .next (
    if !s.flag Reg.AUD_CTRL_TRK_EN then s
    else
      let (t, s) := match s.trk.next with
        | some t => (t, s)
        | none => let (d, s) := s.nextInterval false; (s.now + d, s)
      let s := (s.trkGate t).until t
      let w := s.rd Reg.AUD_TRK_CFG_BEATWIN * 1000000
      let hit := (after && decide (ms.val ≤ s.rd Reg.AUD_TRK_CFG_BEATWIN)) || s.trk.onsets.any (fun o => decide (o ≤ t + w) && decide (t ≤ o + w))
      let matched := (hit :: s.trk.matched).take 16
      let s := (s.setTrk { s.trk with matched := matched }).wr Reg.AUD_TRK_STAT_CONF (trkConf matched)
      let st := s.trkState
      let s := if st = 0 then s else s.emitBeat t
      let s := s.setTrk { s.trk with coast := if st = 2 then s.trk.coast + 1 else 0 }
      let new := s.trkNextState
      let (d, s) := s.nextInterval hit
      let s := s.setTrkState new
      let next := match s.trk.last with
        | some l => if st = 0 ∧ new = 1 then max (t + d) (l + s.trk.period) else t + d
        | none => t + d
      s.setTrk { s.trk with next := some next })

/-- A tap at an instant (R399): its interval, when in the tempo range, sets the period and the next beat and enters TRACK; one
outside starts a new series. -/
def State.tap (s : State) (t : Nat) : State :=
  if !(s.flag Reg.AUD_CTRL_TRK_EN && s.flag Reg.AUD_TRK_CFG_TAP_EN) then s
  else
    let s := s.onset t
    match s.trk.taps with
    | [] => s.setTrk { s.trk with taps := [t] }
    | l :: older =>
      if t < l + s.beatMin ∨ l + s.beatMax < t then s.setTrk { s.trk with taps := [t] }
      else
        let series := (t :: l :: older).take 5
        let p := (t - series.getLastD t) / (series.length - 1)
        let search := s.trkState == 0
        let s := (s.setTrk { s.trk with taps := series, coast := 0 }).setBeatPeriod p
        let s := s.setTrkState 1
        let next := match s.trk.last with
          | some b => max (t + p) (if search then b + p else b + 1)
          | none => t + p
        s.setTrk { s.trk with next := some next }

/-- TRK_TAP (R399): a write of TRK_TAP with 1. -/
def execTrkTap (s : State) : Answer := s.whenOn 0x13 <| .next (s.tap s.now)

/-- The tracker starts (R407) and stops (R403): nothing heard, SEARCH, CONF 0; the last beat and BEATS are kept. -/
def State.trkRestart (s : State) : State :=
  let s := (s.setTrk { trkReset with last := s.trk.last, loudAt := s.now }).wr Reg.AUD_TRK_STAT_CONF 0
  s.setTrkState 0

end Sys2Proof.Machine
end

