-- ==== Sys2Proof/Machine/Video.lean ====
section
/-! DEFINITION. Video inputs: frames and their two buffers, SDI lock, ST 2110 flows, and their disabling (R386-R395, R403). -/
namespace Sys2Proof.Machine

/-! ### Buffers -/

def VinSt.setBuf (v : VinSt) (b : Nat) (x : VinBuf) : VinSt := if b = 0 then { v with buf0 := x } else { v with buf1 := x }

/-- The buffer that a frame is being written to. -/
def VinSt.writing (v : VinSt) : Option Nat :=
  if v.buf0 = .writing then some 0 else if v.buf1 = .writing then some 1 else none

/-- A buffer is emptied; HAVE and NEWEST follow (R389, R405). -/
def State.emptyBuf (s : State) (i b : Nat) : State :=
  let v := s.vin i
  let s := s.setVin i { v.setBuf b .empty with taken := v.taken.filter (· != b), emptyLater := v.emptyLater.filter (· != b) }
  if s.flag (Reg.VIN_STAT_HAVE i) && s.rd (Reg.VIN_STAT_NEWEST i) == b then
    (if (v.buf (1 - b)).isComplete then s.wr (Reg.VIN_STAT_NEWEST i) (1 - b) else s.setFlag (Reg.VIN_STAT_HAVE i) false)
  else s

/-- A buffer is emptied at once, or at the deadline of the composite that holds it (R389, R403). -/
def State.emptyOrLater (s : State) (i b : Nat) : State :=
  let v := s.vin i
  if v.held.contains b then s.setVin i { v with emptyLater := insertNat b v.emptyLater } else s.emptyBuf i b

/-- A frame that was predicted to complete in time does not: it is missed (R388). -/
def State.missPredicted (s : State) (i : Nat) : State :=
  if (s.vin i).predicted then (s.count (Reg.VIN_MISS i) 1).setVin i { s.vin i with predicted := false } else s

/-- The frame being written is discarded, and its buffer holds nothing (R389); one that was predicted to complete is missed (R388). -/
def State.discardFrame (s : State) (i : Nat) : State :=
  match (s.vin i).writing with
  | some b => (s.emptyBuf i b).missPredicted i
  | none => s

/-- Loss of lock, or of the rest of a frame (R389). -/
def State.loseFrame (s : State) (i : Nat) : State :=
  let s := s.discardFrame i
  if s.flag (Reg.VIN_CTRL_LOSS i) && s.flag (Reg.VIN_STAT_HAVE i) then s.emptyOrLater i (s.rd (Reg.VIN_STAT_NEWEST i)) else s

/-- Whether a frame that starts now is predicted to complete at least 100 µs before the next composite start (R388). -/
def State.completesInTime (s : State) (i : Nat) : Bool :=
  match s.nextLatch with
  | some a => decide (s.now + s.rd (Reg.VIN_PERIOD i) + 100000 ≤ a)
  | none => true

/-- The buffer a frame that starts now is written to, if any, and whether only by the prediction of step 2 (R388). -/
def State.pickBuffer (s : State) (i : Nat) : Option (Nat × Bool) :=
  let v := s.vin i
  let have_ := s.flag (Reg.VIN_STAT_HAVE i)
  let newest := s.rd (Reg.VIN_STAT_NEWEST i)
  let other := if have_ then 1 - newest else if v.held.contains 0 then 1 else 0
  if !v.held.contains other then some (other, false)
  else if have_ && !v.taken.contains newest && s.completesInTime i then some (newest, true)
  else none

/-- The start of the first active line of a frame, now (R388, R391, R405). -/
def State.startFrame (s : State) (i : Nat) : State :=
  let s := if (s.vin i).writing.isSome then s.loseFrame i else s
  let v := s.vin i
  let s := match v.started with
    | some t => s.wr (Reg.VIN_PERIOD i) (min (2 ^ 32 - 1) (s.now - t))
    | none => s
  let s := (s.wr (Reg.VIN_SOFTIME i) s.now32).setVin i { v with started := some s.now }
  match s.pickBuffer i with
  | none => s.count (Reg.VIN_DROP i) 1
  | some (b, p) =>
    let s := s.emptyBuf i b
    s.setVin i { (s.vin i).setBuf b .writing with predicted := p }

/-- The last beat of a frame is performed (R387): its buffer holds a complete frame, the newest, and a flow's input shows LOCK (R405). -/
def State.completeFrame (s : State) (i : Nat) : State :=
  match (s.vin i).writing with
  | none => s
  | some b =>
    let s := s.countMod (Reg.VIN_FRAMES i) 1
    let v := s.vin i
    let v := v.setBuf b (.complete (s.rd (Reg.VIN_FRAMES i)))
    let s := s.setVin i { v with predicted := false, doneAt := some s.time.elapsed, taken := v.taken.filter (· != b) }
    let s := (s.wr (Reg.VIN_STAT_NEWEST i) b).setFlag (Reg.VIN_STAT_HAVE i) true
    if 4 ≤ i then s.setFlag (Reg.VIN_STAT_LOCK i) true else s

/-- At a composite start, a frame that has not completed as predicted is missed (R388). -/
def State.countMisses (s : State) : State :=
  (List.range 16).foldl (fun s i => s.missPredicted i) s

/-- At the deadline of a composite, the buffers it held are released (R38, R389). -/
def State.releaseVideo (s : State) : State :=
  (List.range 16).foldl (fun s i =>
    let later := (s.vin i).emptyLater
    let s := s.setVin i { s.vin i with held := [] }
    later.foldl (fun s b => s.emptyBuf i b) s) s

/-- The base of the buffer being written. -/
def State.videoBase (s : State) (i b : Nat) : Nat := if b = 0 then s.rd (Reg.VIN_BASE0 i) else s.rd (Reg.VIN_BASE1 i)

/-! ### SDI inputs -/

/-- VIN_FORMAT_BAD, at most once per second (R391). -/
def State.formatBad (s : State) (i cause : Nat) : State :=
  let v := s.vin i
  let due := match v.badAt with | some t => decide (t + 1000000000 ≤ s.time.elapsed) | none => true
  let s := s.setFlag (Reg.VIN_STAT_FAMILY i) (cause == 2)
  if due then (s.setVin i { v with badAt := some s.time.elapsed, run := (0, 0) }).raise 0x1202 i [cause]
  else s.setVin i { v with run := (0, 0) }

/-- Whether an SDI input's block and reference clock run (R443, R543). -/
def State.sdiRuns (s : State) : Bool := !s.isOff 0x12 && !s.pwr.lostClocks.contains 4

/-- An input loses lock (R389, R391): a format changed to one of the table has cause 0. -/
def State.loseLock (s : State) (i cause : Nat) : State :=
  let s := (s.setFlag (Reg.VIN_STAT_LOCK i) false).loseFrame i
  if 4 ≤ i then s
  else
    let s := s.setVin i { s.vin i with run := (0, 0) }
    let s := if s.rd Reg.ANT_REF_CFG_SDI_SEL = i then s.loseSource 3 else s
    let s := s.raise 0x1201 i [0, s.rd (Reg.VIN_STAT_FMT i)]
    if cause = 0 then s else s.formatBad i cause

/-- The FMT of a format: 0 for one that the table of R390 does not list. -/
def sdiFmt (x : SdiFormat) : Nat :=
  let film := x.rate == 24 || x.rate == 25 || x.rate == 30
  let fast := x.rate == 50 || x.rate == 60
  let rates := !(x.divided && (x.rate == 25 || x.rate == 50))
  if !(x.ycc422 && rates) then 0
  else if x.width = 1280 ∧ x.height = 720 ∧ !x.interlaced ∧ fast ∧ x.link = .g1_5 then 1
  else if x.width = 1920 ∧ x.height = 1080 ∧ x.interlaced ∧ (x.rate = 25 ∨ x.rate = 30) ∧ x.link = .g1_5 then 2
  else if x.width = 1920 ∧ x.height = 1080 ∧ !x.interlaced ∧ film ∧ x.link = .g1_5 then 3
  else if x.width = 1920 ∧ x.height = 1080 ∧ !x.interlaced ∧ fast ∧ x.link = .g3a then 4
  else if x.width = 3840 ∧ x.height = 2160 ∧ !x.interlaced ∧ film ∧ x.link = .g6 then 5
  else if x.width = 3840 ∧ x.height = 2160 ∧ !x.interlaced ∧ fast ∧ x.link = .g12 then 6
  else 0

/-- What keeps an input from locking to a format, as VIN_FORMAT_BAD reports it: 0 nothing, 1 the format, 2 its rate family against SDIREF's,
3 its payload identifier (R391, R404; log 83). -/
def sdiBad (x : SdiFormat) (against : SdiCheck) : Nat :=
  if sdiFmt x = 0 then 1
  else if x.divided != against.refDivided then 2
  else if against.ident.any (· != x) then 3
  else 0

/-- VIN_FRAME_START (R388, R390, R391): a frame of an SDI signal begins at `t`; a locked input loses lock where its format changes. The
frames of a flow begin with its packets, and here only time passes. -/
def execVinFrameStart (i : Fin 16) (signal : SdiFormat) (against : SdiCheck) (t : BitVec 64) (s : State) : Answer := s.whenOn 0x12 <|
  let i := i.val
  let fmt := sdiFmt signal
  let cause := sdiBad signal against
  .next (
    let s := s.until t.toNat
    if 4 ≤ i then s
    else if !s.flag (Reg.VIN_CTRL_ENABLE i) || !s.sdiRuns then s
    else if cause ≠ 0 then (if s.flag (Reg.VIN_STAT_LOCK i) then s.loseLock i cause else s.formatBad i cause)
    else
      let s := if s.flag (Reg.VIN_STAT_LOCK i) && s.rd (Reg.VIN_STAT_FMT i) != fmt then s.loseLock i 0 else s
      let v := s.vin i
      let s := s.setVin i { v with run := (fmt, if v.run.1 = fmt then v.run.2 + 1 else 1) }
      let s := s.setFlag (Reg.VIN_STAT_FAMILY i) false
      if !s.flag (Reg.VIN_STAT_LOCK i) then s.setVin i { s.vin i with started := some s.now }
      else
        let s := s.startFrame i
        let s := s.refEvent (i + 1) ((s.ref (i + 1)).count + 1)
        if s.rd Reg.ANT_REF_CFG_SDI_SEL = i then (s.edge 3 s.refPeriod true).1 else s)

/-- Where a pair of pixels lies in a YCC422_10 buffer (R190). -/
def pairAt (width x y : Nat) : Nat := (y / 16 * ((width + 15) / 16) + x / 16) * 640 + y % 16 * 40 + x % 16 / 2 * 5

/-- The 40 bytes of a tile's row: 32 samples of 10 bits in the order Cb Y Cr Y, sample k in bits 10k+9:10k (R190). -/
def tileRow (samples : List (BitVec 10)) : Bytes := leBytes 40 (samples.foldr (fun x n => x.toNat + 2 ^ 10 * n) 0)

/-- The line of the picture that the `n`-th active line of a frame is: the two fields of an interlaced frame are woven, the first one giving
lines 0, 2, ... (R390; log 175). -/
def wovenLine (fmt height n : Nat) : Nat :=
  if fmt = 2 then (if n < height / 2 then 2 * n else 2 * (n - height / 2) + 1) else n

/-- The active samples of a frame, in the order of their arrival, go to their tiles 16 pixels at a time (R190, R387, R390). -/
def State.writeSamples (s : State) (req base width height fmt : Nat) : Nat → Nat → List (BitVec 10) → State
  | 0, _, _ => s
  | k + 1, n, l =>
    let y := n * 16 / width
    if l.isEmpty ∨ height ≤ y then s
    else (s.storeWrite req (base + pairAt width (n * 16 % width) (wovenLine fmt height y)) (tileRow (l.take 32))).writeSamples
      req base width height fmt k (n + 1) (l.drop 32)

/-- VIN_FRAME_COMPLETE (R387, R390, R391): at `t` the last beat of an SDI frame is performed. `data` are its active samples as they arrived,
one field after the other for an interlaced frame, and `crc` its line CRC errors. A flow's frames complete with their packets, and here only
time passes. -/
def execVinFrameComplete (i : Fin 16) (t : BitVec 64) (data : List (BitVec 10)) (crc : BitVec 16) (s : State) : Answer :=
  s.atStore (.vinFrameComplete i t data crc) <| s.whenOn 0x12 <|
  let i := i.val
  .next (
    let s := s.until t.toNat
    if 4 ≤ i then s
    else
      let s := s.count (Reg.VIN_CRCERR i) crc.toNat
      let (w, h) := s.vinSize i
      match (s.vin i).writing with
      | some b => (s.writeSamples (51 + i) (s.videoBase i b) w h (s.rd (Reg.VIN_STAT_FMT i)) ((data.length + 31) / 32) 0 data).completeFrame i
      | none => s)

/-- VIN_LOCK (R391): an SDI input that has received 4 consecutive frames of one format locks (log 83). -/
def execVinLock (i : Fin 4) (s : State) : Answer := s.whenOn 0x12 <|
  let i := i.val
  let fmt := (s.vin i).run.1
  .next (
    if s.flag (Reg.VIN_CTRL_ENABLE i) && s.sdiRuns && !s.flag (Reg.VIN_STAT_LOCK i) && decide (4 ≤ (s.vin i).run.2) then
      ((s.setFlag (Reg.VIN_STAT_LOCK i) true).wr (Reg.VIN_STAT_FMT i) fmt).raise 0x1201 i [1, fmt]
    else s)

/-- VIN_LOCK_LOST (R389, R391, R405): an SDI input loses clock recovery now, or, where it is `silent`, two frame periods have passed since
its last frame; or no frame of a flow completes until 2 periods after the last. -/
def execVinLockLost (i : Fin 16) (silent : Bool) (s : State) : Answer := s.whenOn 0x12 <|
  let i := i.val
  .next (
    if s.flag (Reg.VIN_STAT_LOCK i) = false then s
    else if i < 4 then
      (if silent then s.until ((s.vin i).started.getD s.now + 2 * s.rd (Reg.VIN_PERIOD i)) else s).loseLock i 0
    else
      let heard := (s.vin i).doneAt.getD s.time.elapsed
      (s.untilElapsed (heard + 2 * s.rd (Reg.VIN_PERIOD i))).loseLock i 0)

/-! ### Flows -/

def State.flowOn (s : State) (f kind : Nat) : Bool :=
  s.flag (Reg.VIN_FLOW_CTRL_ENABLE f) && s.rd (Reg.VIN_FLOW_CTRL_KIND f) == kind

def State.flowTarget (s : State) (f : Nat) : Nat := s.rd (Reg.VIN_FLOW_CTRL_TARGET f)

/-- The requester of the port a packet arrives on (R132). -/
def flowPort (h : FlowHead) : Nat := 25 + h.port.val

/-- The pixel rate of a video flow's target (R393). -/
def State.flowRate (s : State) (f : Nat) : Nat :=
  let i := s.flowTarget f
  s.rd (Reg.VIN_CFG_WIDTH i) * s.rd (Reg.VIN_CFG_HEIGHT i) * s.rd (Reg.VIN_RATE i)

/-- The cause for which an ENABLE of a flow is refused (R393, R404); 0 when it is admitted. -/
def State.flowRefusal (s : State) (f : Nat) : Nat :=
  let k := s.rd (Reg.VIN_FLOW_CTRL_KIND f)
  let others := (List.range 32).filter (fun g => g != f)
  let sum := ((others.filter (fun g => s.flowOn g 1)).map s.flowRate).foldl (· + ·) (s.flowRate f)
  if k = 1 ∧ 1000000000 < sum then 1
  else if (k = 1 ∨ k = 2) ∧ others.any (fun g => !s.flag (Reg.VIN_FLOW_CTRL_QUIESCENT g) &&
      s.rd (Reg.VIN_FLOW_CTRL_KIND g) == k && s.flowTarget g == s.flowTarget f) = true then 2
  else if k = 0 ∨ (k = 1 ∧ s.flowTarget f < 4) ∨ (k = 2 ∧ 7 < s.flowTarget f) then 3
  else 0

/-- An ENABLE of a flow entry (R393, R403): taken only while it is quiescent; refused, ENABLE reads 0. -/
def State.flowEnable (s : State) (f : Nat) : State :=
  if s.flag (Reg.VIN_FLOW_CTRL_ENABLE f) || !s.flag (Reg.VIN_FLOW_CTRL_QUIESCENT f) then s
  else
    let c := s.flowRefusal f
    if c ≠ 0 then s.raise 0x1203 (16 + f) [c]
    else ((s.setFlag (Reg.VIN_FLOW_CTRL_ENABLE f) true).setFlag (Reg.VIN_FLOW_CTRL_QUIESCENT f) false).setFlow f flowIdle

/-- FLOW_ENABLE (R393). -/
def execFlowEnable (f : Fin 32) (s : State) : Answer := s.byRegister (0x1A2000 + 0x20 * f.val) <| .next (s.flowEnable f.val)

/-- A pair of pixels of ST 2110-20, Cb Y0 Cr Y1 from the first bit on, as R190 keeps it (log 27). -/
def pairBytes (b : Bytes) : Bytes :=
  let v := beNat b
  leBytes 5 (bitsOf v 30 10 + bitsOf v 20 10 * 2 ^ 10 + bitsOf v 10 10 * 2 ^ 20 + bitsOf v 0 10 * 2 ^ 30)

/-- The pairs of one sample row data header are written at their line and offset (R393). -/
def State.writePairs (s : State) (req base width y : Nat) : Nat → Nat → Bytes → State
  | 0, _, _ => s
  | k + 1, x, b => (s.storeWrite req (base + pairAt width x y) (pairBytes (b.take 5))).writePairs req base width y k (x + 2) (b.drop 5)

/-- Whether a sample row data header lies within the picture (R393). -/
def segFits (width height : Nat) (g : RowData) : Bool :=
  decide (g.line.toNat < height) && decide (g.offset.toNat + 2 * (g.data.length / 5) ≤ width)

/-- A gap in a frame (R389, R393): it is discarded, and LOST counts once for it. -/
def State.flowGap (s : State) (f : Nat) : State :=
  if (s.flow f).gap then s
  else
    let s := (s.count (Reg.VIN_FLOW_LOST f) 1).loseFrame (s.flowTarget f)
    s.setFlow f { s.flow f with gap := true, inFrame := false }

/-- The pixels of a packet reach the buffer of the frame being written. -/
def State.flowPixels (s : State) (f req : Nat) (segs : List RowData) : State :=
  let i := s.flowTarget f
  match (s.vin i).writing with
  | none => s
  | some b => segs.foldl (fun s g => s.writePairs req (s.videoBase i b) (s.rd (Reg.VIN_CFG_WIDTH i)) g.line.toNat
      (g.data.length / 5) g.offset.toNat g.data) s

/-- Whether a packet is the first of a picture. -/
def firstOfPicture (segs : List RowData) : Bool :=
  match segs with
  | g :: _ => g.line == 0 && g.offset == 0
  | [] => false

/-- A packet's place in the sequence, its number extended: a gap is met; a frame starts with the packet after a marker, and where packets
have been missed, or none has come since the enable, with the first of a picture (R388, R393; log 28). -/
def State.flowSequence (s : State) (f seq : Nat) (first : Bool) : State :=
  let missing := match (s.flow f).seq with | some q => q != seq | none => false
  let s := if missing then s.flowGap f else s
  let s := s.setFlow f { s.flow f with seq := some ((seq + 1) % 2 ^ 32), gap := (s.flow f).gap && !first }
  if (s.flow f).gap || (s.flow f).inFrame then s
  else (s.startFrame (s.flowTarget f)).setFlow f { (s.startFrame (s.flowTarget f)).flow f with inFrame := true }

/-- The marker bit ends a frame: without a gap it is complete (R393, R405). -/
def State.flowMarker (s : State) (f : Nat) : State :=
  let s := if (s.flow f).gap then s else s.completeFrame (s.flowTarget f)
  s.setFlow f { s.flow f with gap := false, inFrame := false }

/-- FLOW_VIDEO_PACKET (R388, R392, R393): a packet with its sequence number, up to three sample row data headers, and its marker bit. A
disabled flow takes only the rest of the frame being written (R403). -/
def execFlowVideoPacket (head : FlowHead) (seq : BitVec 16) (marker : Bool) (segs : List RowData) (t : BitVec 64) (s : State) : Answer :=
  s.atStore (.flowVideoPacket head seq marker segs t) <| s.whenOn 0x12 <|
  .next (
    match s.flowFor head 1 with
    | none => s
    | some f =>
      let segs := segs.take 3
      let s := (s.until t.toNat).flowSequence f (extendSeq (s.flow f).seq seq.toNat) (firstOfPicture segs)
      let i := s.flowTarget f
      let s := if segs.all (segFits (s.rd (Reg.VIN_CFG_WIDTH i)) (s.rd (Reg.VIN_CFG_HEIGHT i))) then
          (s.countMod (Reg.VIN_FLOW_PACKETS f) 1).flowPixels f (flowPort head) segs
        else s.count (Reg.VIN_FLOW_LOST f) 1
      if marker then s.flowMarker f else s)

/-! ### Disabling (R403) -/

/-- VIN_DISABLE (R403, R490): an SDI input (0-15) or a flow entry (16 + f) takes no further frame. -/
def State.vinDisable (s : State) (k : Nat) : State :=
  let began (s : State) (i : Nat) : State := s.setVin i { s.vin i with disabledAt := s.time.elapsed }
  if k < 16 then (began (s.setFlag (Reg.VIN_CTRL_ENABLE k) false) k).cancelCalRun 0x12 k
  else
    let f := k - 16
    let s := s.setFlag (Reg.VIN_FLOW_CTRL_ENABLE f) false
    let kind := s.rd (Reg.VIN_FLOW_CTRL_KIND f)
    if kind = 1 then began s (s.flowTarget f)
    else
      let s := s.setFlag (Reg.VIN_FLOW_CTRL_QUIESCENT f) true
      if kind = 2 then s.trkForget (8 + 8 * s.flowTarget f) 8 else s

def execVinDisable (k : Fin 48) (s : State) : Answer :=
  s.byRegister (if k.val < 16 then 0x1A0000 + 0x100 * k.val else 0x1A2000 + 0x20 * (k.val - 16)) <| .next (s.vinDisable k.val)

/-- Both buffers of an input are emptied, a held one at its composite's deadline; whether both are empty (R403). -/
def State.emptyInput (s : State) (i : Nat) : State × Bool :=
  let s := (s.emptyOrLater i 0).emptyOrLater i 1
  (s, (s.vin i).emptyLater.isEmpty)

/-- The last of a disabled input: a frame still being written has had 42 ms since the disable and is discarded; both buffers are emptied,
and QUIESCENT is set once none is held (R403, R404). -/
def State.vinEnd (s : State) (i : Nat) (quiescent : Fld) : State :=
  let s := if (s.vin i).writing.isSome then (s.untilElapsed ((s.vin i).disabledAt + 42000000)).discardFrame i else s
  let (s, done) := s.emptyInput i
  if done then (s.setFlag quiescent true).raise 0x1204 i [] else s

/-- VIN_QUIESCENT (R403): the frame being written has ended, both buffers are emptied, and QUIESCENT is set. -/
def execVinQuiescent (k : Fin 48) (s : State) : Answer := s.whenOn 0x12 <|
  let k := k.val
  .next (
    if k < 16 then
      (if s.flag (Reg.VIN_CTRL_ENABLE k) || s.flag (Reg.VIN_STAT_QUIESCENT k) then s
       else s.vinEnd k (Reg.VIN_STAT_QUIESCENT k))
    else
      let f := k - 16
      if s.flag (Reg.VIN_FLOW_CTRL_ENABLE f) || s.flag (Reg.VIN_FLOW_CTRL_QUIESCENT f) then s
      else (s.vinEnd (s.flowTarget f) (Reg.VIN_FLOW_CTRL_QUIESCENT f)).setFlow f flowIdle)

/-- An SDI input is enabled, while it is quiescent (R403, R405). -/
def State.vinEnable (s : State) (i : Nat) : State :=
  if s.flag (Reg.VIN_STAT_QUIESCENT i) then
    ((s.setFlag (Reg.VIN_CTRL_ENABLE i) true).setFlag (Reg.VIN_STAT_QUIESCENT i) false).setVin i
      { s.vin i with started := none, run := (0, 0) }
  else s

end Sys2Proof.Machine
end

