-- ==== Sys2Proof/Machine/Audio.lean ====
section
/-! DEFINITION. Audio channels, AES3 inputs, audio and ancillary flows, LTC in and out, and their disabling (R394-R396, R400,
R401, R403). -/
namespace Sys2Proof.Machine

/-! ### Channels -/

/-- A sample lands in a channel's ring (R396). -/
def State.putSample (s : State) (req c word time : Nat) : State :=
  if !s.flag (Reg.AUD_CH_CFG_ENABLE c) then s
  else
    let w := s.rd (Reg.AUD_CH_WIDX c)
    let s := s.storeWrite req (s.rd (Reg.AUD_CH_BASE c) + 4 * (w % 2 ^ s.rd (Reg.AUD_CH_CFG_LOG2LEN c))) (leBytes 4 word)
    (s.wr (Reg.AUD_CH_WIDX c) (w + 1)).wr (Reg.AUD_CH_TS c) (time % 2 ^ 32)

/-! ### AES3 -/

/-- An AES3 input hears a valid block start, or locks, now. -/
def State.aesHear (s : State) (k : Nat) : State := { s with aesHeard := tblSet s.aesHeard 0 k s.time.elapsed }

/-- AES_LOCK (R396): input `k` locks to a rate (1 to 4), or loses lock (0) 10 ms after its last valid block start, and with it
source 5 where it is the input that AUD_SEL names. -/
def execAesLock (k : Fin 4) (rate : Fin 5) (s : State) : Answer := s.whenOn 0x13 <|
  let k := k.val
  .next (
    if (rate.val != 0 && !bitOf (s.rd Reg.AUD_CTRL_AES_EN) k) || s.rd (Reg.AUD_AES_STAT_RATE k) == rate.val then s
    else
      let s := if rate.val = 0 then s.untilElapsed (tblGet s.aesHeard 0 k + 10000000) else s.aesHear k
      let s := (s.setFlag (Reg.AUD_AES_STAT_LOCK k) (rate.val != 0)).wr (Reg.AUD_AES_STAT_RATE k) rate.val
      let s := if rate.val = 2 ∨ rate.val = 4 then s else s.trkForget (2 * k) 2
      let s := if rate.val = 0 ∧ s.rd Reg.ANT_REF_CFG_AUD_SEL = k then s.loseSource 5 else s
      s.raise 0x1301 k [b2n (rate.val != 0), rate.val])

/-- The sample rate of an AES_k.RATE value (R407). -/
def aesHz (rate : Nat) : Nat := if rate = 1 then 44100 else if rate = 2 then 48000 else if rate = 3 then 88200 else 96000

/-- AES3_SAMPLE (R396, R397): a sample of a subframe at `t`, with its validity bit; `err` says that it had a parity or biphase
error, `onset` that the tracker detects an onset with it. -/
def execAes3Sample (k : Fin 4) (second : Bool) (sample : BitVec 24) (v err onset : Bool) (t : BitVec 64) (s : State) : Answer :=
  s.atStore (.aes3Sample k second sample v err onset t) <| s.whenOn 0x13 <|
  let k := k.val
  let c := 2 * k + b2n second
  .next (
    if !bitOf (s.rd Reg.AUD_CTRL_AES_EN) k then s
    else
      let s := s.until t.toNat
      let s := if err then s.count (Reg.AUD_AES_ERR k) 1 else s
      if !s.flag (Reg.AUD_AES_STAT_LOCK k) then s
      else
        let (s, req) := s.anyRequester
        let s := s.putSample req c (sample.toNat * 256 + b2n v) s.now
        let rate := s.rd (Reg.AUD_AES_STAT_RATE k)
        if rate == 2 || rate == 4 then
          let s := s.trkHear c sample.toInt
          if onset && s.trkSelects c then s.onset s.now else s
        else s)

/-- AES3_BLOCK_START (R48, R396): a 192-frame block starts at `t`. -/
def execAes3BlockStart (k : Fin 4) (t : BitVec 64) (s : State) : Answer := s.whenOn 0x13 <|
  let k := k.val
  .next (
    if !(bitOf (s.rd Reg.AUD_CTRL_AES_EN) k && s.flag (Reg.AUD_AES_STAT_LOCK k)) then s
    else
      let s := (s.until t.toNat).aesHear k
      if s.rd Reg.ANT_REF_CFG_AUD_SEL = k then
        (s.edge 5 (roundDiv (192 * 10 ^ 9 * 2 ^ 32) (aesHz (s.rd (Reg.AUD_AES_STAT_RATE k)))).toNat false).1
      else s)

/-! ### Audio and ancillary flows -/

/-- The device time of an RTP timestamp of a 48 kHz media clock that runs with PTP (R394): the instant nearest to now. -/
def State.rtpTime (s : State) (ts : Nat) : Int :=
  let count : Int := ((s.now : Int) + s.phaseTarget) * 48000 / 10 ^ 9
  let n := count + sext 32 (low 32 ((ts : Int) - count))
  roundDiv (n * 10 ^ 9) 48000 - s.phaseTarget

/-- Whether sample times come from RTP timestamps (R394). -/
def State.ptpHeld (s : State) : Bool :=
  s.rd Reg.ANT_STAT_ACTIVE == 1 && (s.rd Reg.ANT_STAT_STATE == 2 || s.rd Reg.ANT_STAT_STATE == 3)

/-- `n` samples of 48 kHz in ns. -/
def samplesNs (n : Nat) : Nat := (roundDiv (n * 10 ^ 9) 48000).toNat

/-- The samples of a packet are written, one frame of channels after the other (R394, R396). -/
def State.putFrames (s : State) (req base chans size : Nat) (t0 : Int) : Nat → Nat → Bytes → State
  | 0, _, _ => s
  | k + 1, i, b =>
    let time := low 32 (t0 + samplesNs i)
    let s := (List.range chans).foldl (fun s j =>
      let v := beNat ((b.drop (size * j)).take size)
      (s.putSample req (base + j) (v * 2 ^ (32 - 8 * size)) time).trkHear (base + j) (sext 24 (v * 2 ^ (24 - 8 * size)))) s
    s.putFrames req base chans size t0 k (i + 1) (b.drop (size * chans))

/-- FLOW_AUDIO_PACKET (R394, R397): a packet with its sequence number and RTP timestamp arrives at `t`; `onset` says that the
tracker detects an onset in it. A packet that arrives out of order is not written (log 28). The flow that CLKSTREAM names feeds source 6
whatever ANT_REF_CFG.AUD_SEL selects (log 139). -/
def execFlowAudioPacket (head : FlowHead) (seq : BitVec 16) (ts : Word) (data : Bytes) (onset : Bool) (t : BitVec 64) (s : State) : Answer :=
  s.atStore (.flowAudioPacket head seq ts data onset t) <| s.whenOn 0x12 <| s.whenOn 0x13 <|
  .next (
    match s.flowFor head 2 with
    | none => s
    | some f =>
      let s := (s.until t.toNat).countMod (Reg.VIN_FLOW_PACKETS f) 1
      let chans := s.rd (Reg.VIN_FLOW_CTRL_CHANS f) + 1
      let size := if s.flag (Reg.VIN_FLOW_CTRL_L24 f) then 3 else 2
      let n := data.length / (size * chans)
      let seq := extendSeq (s.flow f).seq seq.toNat
      let lost := match (s.flow f).seq with | some q => (seq + 2 ^ 32 - q) % 2 ^ 32 | none => 0
      if 2 ^ 31 ≤ lost then s
      else
        let s := s.setFlow f { s.flow f with seq := some ((seq + 1) % 2 ^ 32) }
        let base := 8 + 8 * s.flowTarget f
        let s := (List.range chans).foldl (fun s j =>
          if s.flag (Reg.AUD_CH_CFG_ENABLE (base + j)) then s.countMod (Reg.AUD_CH_WIDX (base + j)) (lost * n) else s) s
        let t0 : Int := if s.ptpHeld then s.rtpTime ts.toNat else (s.now : Int) - samplesNs n
        let s := s.putFrames (flowPort head) base chans size t0 n 0 data
        let s := if s.rd Reg.AUD_CTRL_CLKSTREAM = s.flowTarget f then s.mediaEdge ts.toNat else s
        if onset && (List.range chans).any (fun j => s.trkSelects (base + j)) then s.onset s.now else s)

/-- Bytes written around a ring (R395). -/
def State.ringWrite (s : State) (req base size at_ : Nat) (b : Bytes) : State :=
  let head := size - at_ % size
  (s.storeWrite req (base + at_ % size) (b.take head)).storeWrite req base (b.drop head)

/-- FLOW_ANC_PACKET (R395): a payload and its length word go into the ancillary ring at `t`. -/
def execFlowAncPacket (head : FlowHead) (data : Bytes) (t : BitVec 64) (s : State) : Answer :=
  s.atStore (.flowAncPacket head data t) <| s.whenOn 0x12 <|
  .next (
    match s.flowFor head 3 with
    | none => s
    | some f =>
      let s := (s.until t.toNat).countMod (Reg.VIN_FLOW_PACKETS f) 1
      let b := leBytes 4 data.length ++ data
      (s.ringWrite (flowPort head) (s.rd Reg.VIN_ANC_BASE) (2 ^ s.rd Reg.VIN_ANC_LOG2) (s.rd Reg.VIN_ANC_WIDX) b).countMod
        Reg.VIN_ANC_WIDX b.length)

/-! ### LTC -/

/-- The frames in a second of timecode labels (R400). -/
def ltcFps (rate : Nat) : Nat := if rate = 0 then 24 else if rate = 1 then 25 else 30

/-- Two BCD digits. -/
def bcd2 (v : Nat) : Nat := v / 16 % 16 * 10 + v % 16

def bcdOk (v : Nat) : Bool := decide (v % 16 < 10) && decide (v / 16 % 16 < 10)

/-- Whether hh:mm:ss:ff is a timecode of a rate. -/
def tcOk (rate tc : Nat) : Bool :=
  (List.range 4).all (fun i => bcdOk (bitsOf tc (8 * i) 8)) && decide (bcd2 (bitsOf tc 24 8) < 24) &&
    decide (bcd2 (bitsOf tc 16 8) < 60) && decide (bcd2 (bitsOf tc 8 8) < 60) && decide (bcd2 (bitsOf tc 0 8) < ltcFps rate)

/-- The real frames that a timecode counts (R400). -/
def tcCount (rate tc : Nat) : Nat :=
  let h := bcd2 (bitsOf tc 24 8)
  let m := bcd2 (bitsOf tc 16 8)
  let n := ltcFps rate * (3600 * h + 60 * m + bcd2 (bitsOf tc 8 8)) + bcd2 (bitsOf tc 0 8)
  let mm := 60 * h + m
  if rate = 2 then n - 2 * (mm - mm / 10) else n

/-- The real frames in 24 hours of a rate's labels. -/
def tcDay (rate : Nat) : Nat := if rate = 2 then 2589408 else ltcFps rate * 86400

/-- The label number of a count of real frames: drop-frame labels skip two in each minute that is no multiple of ten (R400). -/
def tcLabel (rate n : Nat) : Nat :=
  if rate = 2 then
    let d := n / 17982
    let m := n % 17982
    n + 18 * d + (if m < 2 then 0 else 2 * ((m - 2) / 1798))
  else n

def toBcd (v : Nat) : Nat := v / 10 * 16 + v % 10

/-- The timecode of a count of real frames. -/
def tcOf (rate n : Nat) : Nat :=
  let l := tcLabel rate n
  let fps := ltcFps rate
  toBcd (l % fps) + toBcd (l / fps % 60) * 2 ^ 8 + toBcd (l / (60 * fps) % 60) * 2 ^ 16 + toBcd (l / (3600 * fps)) * 2 ^ 24

/-- The nominal period of a rate in 2^-32 ns (R400, R401). -/
def ltcPeriod (rate : Nat) : Nat :=
  if rate = 2 then (roundDiv (10 ^ 9 * 2 ^ 32 * 1001) 30000).toNat else (roundDiv (10 ^ 9 * 2 ^ 32) (ltcFps rate)).toNat

/-- LTC_WORD_RX (R48, R54, R400): a word whose sync word ends at `t`; `good` says that it is forward, in speed and well formed (log 82). -/
def execLtcWordRx (tc ubits : Word) (flags : BitVec 4) (good : Bool) (t : BitVec 64) (s : State) : Answer := s.whenOn 0x13 <|
  .next (
    let rate := s.rd Reg.AUD_LTCIN_RATE
    if !s.flag Reg.AUD_CTRL_LTCIN_EN then s
    else
      let s := s.until t.toNat
      if !(good && tcOk rate tc.toNat) then { s with ltc := { s.ltc with run := 0, count := none } }
      else
        let n := tcCount rate tc.toNat
        let inSeq := match s.ltc.count with | some c => decide ((c + 1) % tcDay rate = n) | none => false
        let run := if inSeq then s.ltc.run + 1 else 1
        let s := ((s.wr Reg.AUD_LTCIN_TC tc.toNat).wr Reg.AUD_LTCIN_UBITS ubits.toNat).wr Reg.AUD_LTCIN_FLAGS flags.toNat
        let s : State := { s with ltc := { count := some n, run := run, last := s.now } }
        let s := if !s.flag Reg.AUD_LTCIN_LOCK && decide (4 ≤ run) then
            (s.setFlag Reg.AUD_LTCIN_LOCK true).raise 0x1303 0 [1] else s
        if s.flag Reg.AUD_LTCIN_LOCK then ((s.refEvent 5 n).edge 4 s.refPeriod true).1 else s)

/-- The LTC input is lost (R400). -/
def State.ltcLose (s : State) : State :=
  if s.flag Reg.AUD_LTCIN_LOCK then
    let s := ({ s with ltc := { s.ltc with run := 0, count := none } } : State).setFlag Reg.AUD_LTCIN_LOCK false
    (s.loseSource 4).raise 0x1303 0 [0]
  else s

/-- LTC_LOSS (R48, R400): four frames have gone missing since the last valid word. -/
def execLtcLoss (s : State) : Answer := s.whenOn 0x13 <|
  .next (
    if s.flag Reg.AUD_LTCIN_LOCK then
      (s.until (s.ltc.last + 4 * ltcPeriod (s.rd Reg.AUD_LTCIN_RATE) / 2 ^ 32)).ltcLose
    else s)

/-- The cause for which the LTC output sends nothing: 1 period, 2 not running; 0 for none (R401, R404). -/
def State.ltcOutBad (s : State) (n : Nat) : Nat :=
  let p := s.ctxPeriod n
  let nom := ltcPeriod (s.rd Reg.AUD_LTCOUT_RATE)
  if nom < 10 * ((p : Int) - nom).natAbs then 1
  else if !s.ctxMoving n && !s.flag Reg.AUD_LTCOUT_HOLDSEND then 2
  else 0

/-- LTC_OUT_WORD (R401): at the boundary that LTCOUT.CTX stands at, the word of its whole position + OFS. -/
def execLtcOutWord (s : State) : Answer := s.whenOn 0x13 <|
  .next (
    let n := s.rd Reg.AUD_LTCOUT_CTX
    if !s.flag Reg.AUD_CTRL_LTCOUT_EN then s
    else
      let c := s.ltcOutBad n
      if c ≠ 0 then s.raise 0x1304 0 [n, c]
      else
        let rate := s.rd Reg.AUD_LTCOUT_RATE
        let frame := ((s.ctx n).pb / 2 ^ 24 + sext 32 (s.rd Reg.AUD_LTCOUT_OFS)) % (tcDay rate : Int)
        s.emit (.ltc (tcOf rate frame.toNat)))

/-! ### Enabling and disabling (R403, R407) -/

/-- The enable bit of an AUD_CTRL function: AES3 inputs 0-3, 4 tracker, 5 LTC input, 6 LTC output. -/
def audFld (fn : Nat) : Fld := ⟨0x1B0000, fn, 1⟩

/-- An AUD_CTRL function is enabled, while it is quiescent. -/
def State.audEnable (s : State) (fn : Nat) : State :=
  if !bitOf (s.rd Reg.AUD_STAT) fn then s
  else
    let s := (s.setFlag (audFld fn) true).wr Reg.AUD_STAT (withBits (s.rd Reg.AUD_STAT) fn 1 0)
    if fn = 4 then s.trkRestart else if fn = 5 then { s with ltc := { count := none, run := 0, last := s.now } } else s

/-- An AUD_CTRL function is disabled: what is being written or sent ends with this, and QUIESCENT is set and raised. -/
def State.audDisable (s : State) (fn : Nat) : State :=
  if !s.flag (audFld fn) then s
  else
    let s := s.setFlag (audFld fn) false
    let s := if fn = 4 then s.trkRestart else s
    let stat := withBits (s.rd Reg.AUD_STAT) fn 1 1
    (s.wr Reg.AUD_STAT stat).raise 0x1305 0 [stat]

/-- An audio channel reports QUIESCENT in two places (R403). -/
def State.channelQuiescent (s : State) (c : Nat) (b : Bool) : State :=
  let s := s.setFlag (Reg.AUD_CH_CFG_QUIESCENT c) b
  s.wr (Reg.AUD_CHQ (c / 32)) (withBits (s.rd (Reg.AUD_CHQ (c / 32))) (c % 32) 1 (b2n b))

def State.channelEnable (s : State) (c : Nat) : State :=
  if s.flag (Reg.AUD_CH_CFG_QUIESCENT c) then (s.setFlag (Reg.AUD_CH_CFG_ENABLE c) true).channelQuiescent c false else s

/-- A channel's disable ends with the sample being written; it raises no notice. -/
def State.channelDisable (s : State) (c : Nat) : State :=
  if s.flag (Reg.AUD_CH_CFG_ENABLE c) then (s.setFlag (Reg.AUD_CH_CFG_ENABLE c) false).channelQuiescent c true else s

/-- AUD_DISABLE (R403): an AUD_CTRL function (0-6) or an audio channel (7 + c). -/
def execAudDisable (fn : Fin 79) (s : State) : Answer := s.byRegister (if fn.val < 7 then 0x1B0000 else 0x1B1004 + 0x10 * (fn.val - 7)) <|
  .next (if fn.val < 7 then s.audDisable fn.val else s.channelDisable (fn.val - 7))

end Sys2Proof.Machine
end

