-- ==== Sys2Proof/Machine/MkaCore.lean ====
section
/-! DEFINITION. MKA as the MACsec engine and Chrysalis share it: settings records, key slots, the live peers of a port, and a new
SAK (R507, R508, R520). -/
namespace Sys2Proof.Machine

/-! ### Settings and key slots -/

/-- A settings record of the running area (R520). -/
def State.setting (s : State) (id : Nat) : Option Bytes := (s.chy.settings.find? (fun e => e.1 == id)).map (·.2)

/-- The CAK of a port's key slot (R507). -/
def State.cak (s : State) (p : Nat) : Option Bytes := (s.chy.caks.find? (fun e => e.1 == p)).map (·.2)

/-- CHY_KEYS and ROO_STAT.KEY show the key slots (R509, R528). -/
def State.showKeys (s : State) : State :=
  let c := s.chy
  let ports := (List.range 8).foldl (fun w p => w + b2n (s.cak p).isSome * 2 ^ (2 + p)) 0
  let s := s.wr Reg.CHY_KEYS (b2n c.rooActive.isSome + 2 * b2n c.rooPending.isSome + ports)
  s.setFlag Reg.ROO_STAT_KEY c.rooActive.isSome

/-! ### MKA -/

def mkaIdle : MkaSt := { peers := [], an := none, nextHello := 0 }

def State.mka (s : State) (p : Nat) : MkaSt := tblGet s.chy.mka mkaIdle p

def State.setMka (s : State) (p : Nat) (x : MkaSt) : State :=
  { s with chy := { s.chy with mka := tblSet s.chy.mka mkaIdle p x } }

/-- Whether Chrysalis runs MKA on a port: RX_EN is 1 and its key slot holds a CAK (R508). -/
def State.mkaRuns (s : State) (p : Nat) : Bool :=
  s.chyUp && !s.isOff 0x11 && s.flag (Reg.MSC_CTRL_RX_EN p) && (s.cak p).isSome

/-- The unit's key server priority on a port (R508). -/
def State.mkaPriority (s : State) (p : Nat) : Nat := (((s.setting (0x80000010 + p)).bind (·.head?)).map (·.toNat)).getD 16

/-- Whether the unit is the key server of a port: it comes before every live peer by priority, then SCI (R508; log 42). -/
def State.keyServer (s : State) (p : Nat) : Bool :=
  let own := s.mkaPriority p * 2 ^ 64 + (s.macAddr p * 65536 + 1)
  (s.mka p).peers.all (fun e => decide (own < e.2.1 * 2 ^ 64 + e.1))

/-- An MKPDU leaves on a port (R508). -/
def State.sendMka (s : State) (p : Nat) : State :=
  let body := Config.mkaBody s.fresh
  let s : State := { s with fresh := s.fresh + 1 }
  s.macPut p { kind := .mka, bytes := beBytes 6 0x0180C2000003 ++ beBytes 6 (s.macAddr p) ++ beBytes 2 0x888E ++ body, express := false,
               launch := none, tci := none, prpSeq := none, poison := false, done := none }

/-- A SAK is installed in a port's engine under an AN: on transmit in place of the last, on receive beside it for each live peer
(R376, R508). -/
def State.installSak (s : State) (p an : Nat) : State :=
  let peers := (s.mka p).peers
  let sa : SaSt := { an := an, pn := 1, high := false }
  let old (sci : Nat) : List SaSt := match (s.msc p).rx.find? (fun c => c.sci == sci) with
    | some c => (c.sas.filter (fun a => a.an != an && some a.an == (s.mka p).an))
    | none => []
  let rx : List RxScSt := peers.map (fun e => { sci := e.1, sas := old e.1 ++ [sa] })
  let s := s.setMsc p { tx := [sa], rx := rx }
  let s := (s.wr (Reg.MSC_STAT_TX_AN p) an).setFlag (Reg.MSC_STAT_TX_SA p) true
  let s := (s.wr64 (Reg.MSC_NEXTPN_LO p) (Reg.MSC_NEXTPN_HI p) 1).wr (Reg.MSC_STAT_RX_SCS p) peers.length
  s.setMka p { s.mka p with an := some an }

/-- The key server distributes a new SAK under the next AN (R508). -/
def State.newSak (s : State) (p : Nat) : State :=
  if s.mkaRuns p && !(s.mka p).peers.isEmpty && s.keyServer p then
    let an := match (s.mka p).an with | some a => (a + 1) % 4 | none => 0
    (s.installSak p an).sendMka p
  else s

/-- MKA_STATE (R508): the live peers of a port have changed; without one the session is down and the port has no SA. -/
def State.mkaPeers (s : State) (p : Nat) (peers : List (Nat × Nat × Nat)) : State :=
  let s := s.setMka p { s.mka p with peers := peers }
  let s := s.setFlag (Reg.MSC_STAT_MKA_UP p) (!peers.isEmpty)
  let s := if peers.isEmpty then
      ((s.setMsc p mscIdle).setFlag (Reg.MSC_STAT_TX_SA p) false).wr (Reg.MSC_STAT_RX_SCS p) 0
    else s
  s.raise 0x180B p [b2n !peers.isEmpty, peers.length]

end Sys2Proof.Machine
end

