-- ==== Sys2Proof/Machine/Caches.lean ====
section
/-! DEFINITION. The cores' caches: lines in the L1s and the L2, fills, write-backs, cacheable reads and writes, and the ranges that
cache operations act on (R152, R154, R157, R161, R162). -/
namespace Sys2Proof.Machine

/-- The lines that an L1 data cache and the L2 hold (R152). -/
def l1Lines : Nat := 1024
def l2Lines : Nat := 32768

/-- The line of an address in a core's L1. -/
def State.l1 (s : State) (n a : Nat) : Option LineSt := tblGet (s.hawk n).lines none a

def State.setL1 (s : State) (n a : Nat) (l : Option LineSt) : State :=
  s.setHawk n { s.hawk n with lines := tblSet (s.hawk n).lines none a l }

def State.setL2 (s : State) (a : Nat) (l : Option LineSt) : State := { s with l2 := tblSet s.l2 none a l }

/-- The lines of a list within a range. -/
def linesIn (ls : List (Nat × Option LineSt)) (a n : Nat) : List (Nat × LineSt) :=
  ls.filterMap (fun e => match e.2 with
    | some l => if a ≤ e.1 ∧ e.1 < a + n then some (e.1, l) else none
    | none => none)

/-- A line is stored by a requester; its poisoned words are stored poisoned (R157, R162). -/
def State.storeLine (s : State) (r a : Nat) (data : Bytes) (poison : List Nat) : State :=
  poison.foldl (fun s k => if s.hostMayWrite (a + 8 * k) && !s.dieLost (dieOf a) then s.setMark (a + 8 * k) .poison else s)
    (s.hostStore r a (data.map some))

/-- A dirty line is written back through a core's port, by an access of the command (R154, R157). -/
def State.writeBack (s : State) (core a : Nat) (l : LineSt) : State :=
  if !l.dirty then s else (s.reach (16 + core) a 64).storeLine (16 + core) a l.data l.poison

/-- A dirty line that makes room for another is written back through a core's port: at once, or behind the requests that the port holds
and once its region and die are free (R133, R157, R159). -/
def State.evict (s : State) (core a : Nat) (l : LineSt) : State :=
  if l.dirty && s.heldUp (16 + core) a 64 then
    s.setPort (16 + core) (s.port (16 + core) ++
      [{ requester := Fin.ofNat 57 (16 + core), addr := BitVec.ofNat 29 a, op := .writeBack l.data l.poison }])
  else s.writeBack core a l

/-- The entry of a list of lines that makes room, which is open: a free choice (R157; log 2). -/
def State.victim (s : State) (ls : List (Nat × Option LineSt)) : State × Option (Nat × LineSt) :=
  let (v, s) := s.free
  (s, match ls[v % ls.length]? with | some (a, some l) => some (a, l) | _ => none)

/-- A line joins the L2; the one that makes room is written back (R157). -/
def State.keepL2 (s : State) (core a : Nat) (l : LineSt) : State :=
  if s.l2.length < l2Lines ∨ (tblGet s.l2 none a).isSome = true then s.setL2 a (some l)
  else
    match s.victim s.l2 with
    | (s, some (b, x)) => ((s.evict core b x).setL2 b none).setL2 a (some l)
    | (s, none) => s.setL2 a (some l)

/-- A line joins a core's L1; a dirty one that makes room goes to the L2 (R157). -/
def State.keepL1 (s : State) (n a : Nat) (l : LineSt) : State :=
  if (s.hawk n).lines.length < l1Lines ∨ (s.l1 n a).isSome = true then s.setL1 n a (some l)
  else
    match s.victim (s.hawk n).lines with
    | (s, some (b, x)) => ((if x.dirty then s.keepL2 n b x else s).setL1 n b none).setL1 n a (some l)
    | (s, none) => s.setL1 n a (some l)

/-- The copy of a line that the caches hold between them: an L1's, or the L2's (R157). -/
def State.cachedCopy (s : State) (a : Nat) : Option LineSt :=
  match (List.range 8).findSome? (fun m => s.l1 m a) with
  | some l => some { l with dirty := false }
  | none => tblGet s.l2 none a

/-- A line as a read of the store has returned it: clean, its POISON words poisoned (R162). -/
def State.readLine (s : State) (a : Nat) (data : Bytes) : LineSt :=
  { data := data, dirty := false, poison := (List.range 8).filter (fun k => decide (a + 8 * k < 0x1FE00000) && s.poisoned (a + 8 * k)) }

/-- A line comes into a core's L1: from the caches where they hold it, and otherwise with the bytes that a read of the store has returned
(R157, R162). A dirty line that moves up from the L2 leaves it. -/
def State.fillLine (s : State) (core a : Nat) (data : Bytes) : State :=
  match s.cachedCopy a with
  | some l => (if l.dirty then s.setL2 a none else s).keepL1 core a l
  | none => (s.keepL2 core a (s.readLine a data)).keepL1 core a (s.readLine a data)

/-- A line is brought into a core's L1, by one 2-beat request where the caches do not hold it (R157). -/
def State.bringLine (s : State) (core a : Nat) : State :=
  if (s.l1 core a).isSome then s
  else if (s.cachedCopy a).isSome then s.fillLine core a []
  else
    let (s, data) := (s.reach (16 + core) a 64).hostLoad (16 + core) a 64
    s.fillLine core a data

/-- The bytes that a core's cacheable access reads; none where they lie in a POISON word (R162). -/
def State.cacheRead (s : State) (core a n : Nat) : State × Option Nat :=
  let line := a / 64 * 64
  let s := s.bringLine core line
  match s.l1 core line with
  | some l => (s, if l.poison.contains (a % 64 / 8) then none else some (leNat ((l.data.drop (a % 64)).take n)))
  | none => (s, none)

/-- A line leaves every cache but a core's own L1, and the reservations of the others on it end (R157). -/
def State.ownLine (s : State) (core a : Nat) : State :=
  ((List.range 8).filter (· != core)).foldl (fun s m =>
    let h := s.hawk m
    s.setHawk m { h with lines := tblSet h.lines none a none, reserved := if h.reserved = some a then none else h.reserved })
    (s.setL2 a none)

/-- A core's cacheable store; the answer is false where it reaches a POISON word in part (R157, R162) (log 126). -/
def State.cacheWrite (s : State) (core a n v : Nat) : State × Bool :=
  let line := a / 64 * 64
  let s := s.bringLine core line
  match s.l1 core line with
  | some l =>
    let w := a % 64 / 8
    if l.poison.contains w && n != 8 then (s, false)
    else
      let data := l.data.take (a % 64) ++ leBytes n v ++ l.data.drop (a % 64 + n)
      ((s.ownLine core line).setL1 core line (some { data := data, dirty := true, poison := l.poison.filter (· != w) }), true)
  | none => (s, false)

/-- A core's program has stored lines through its cache: they stand dirty in its L1 (R157). -/
def State.dirtyLines (s : State) (core base len : Nat) (dirty : List (BitVec 29 × Bytes)) : State :=
  dirty.foldl (fun s e =>
    let a := e.1.toNat / 64 * 64
    if base ≤ a ∧ a < base + len then
      (s.ownLine core a).keepL1 core a { data := (e.2 ++ List.replicate 64 0).take 64, dirty := true, poison := [] }
    else s) s

/-- The line of an address in a core's L1 instruction cache (R152). -/
def State.l1i (s : State) (n a : Nat) : Option LineSt := tblGet (s.hawk n).ilines none a

/-- A line joins a core's L1 instruction cache; the one that makes room is dropped (R152). -/
def State.keepL1i (s : State) (n a : Nat) (l : LineSt) : State :=
  if (s.hawk n).ilines.length < l1Lines ∨ (s.l1i n a).isSome = true then
    s.setHawk n { s.hawk n with ilines := tblSet (s.hawk n).ilines none a (some l) }
  else
    match s.victim (s.hawk n).ilines with
    | (s, some (b, _)) => s.setHawk n { s.hawk n with ilines := tblSet (tblSet (s.hawk n).ilines none b none) none a (some l) }
    | (s, none) => s.setHawk n { s.hawk n with ilines := tblSet (s.hawk n).ilines none a (some l) }

/-- A line comes into a core's L1 instruction cache, as the coherent caches have it, or from the store by one 2-beat request (R152,
R157). -/
def State.bringCode (s : State) (core a : Nat) : State :=
  if (s.l1i core a).isSome then s
  else
    match s.cachedCopy a with
    | some l => s.keepL1i core a { l with dirty := false }
    | none =>
      let (s, data) := (s.reach (16 + core) a 64).hostLoad (16 + core) a 64
      (s.keepL2 core a (s.readLine a data)).keepL1i core a (s.readLine a data)

/-- The bytes that a core's fetch from the cacheable range reads; none where they lie in a POISON word (R152, R162). -/
def State.codeRead (s : State) (core a n : Nat) : State × Option Nat :=
  let line := a / 64 * 64
  let s := s.bringCode core line
  match s.l1i core line with
  | some l => (s, if l.poison.contains (a % 64 / 8) then none else some (leNat ((l.data.drop (a % 64)).take n)))
  | none => (s, none)

/-- An uncorrectable error that a cache finds in a word poisons it, in every cache that holds its line between an access of this kind and
the store (R162). -/
def State.spoil (s : State) (core a : Nat) (code : Bool) : State :=
  let line := a / 64 * 64
  let bad (l : LineSt) : LineSt := { l with poison := insertNat (a % 64 / 8) l.poison }
  let h := s.hawk core
  match if code then s.l1i core line else s.l1 core line with
  | some l =>
    s.setHawk core (if code then { h with ilines := tblSet h.ilines none line (some (bad l)) }
      else { h with lines := tblSet h.lines none line (some (bad l)) })
  | none =>
    match s.cachedCopy line with
    | some _ =>
      let s := match tblGet s.l2 none line with | some l => s.setL2 line (some (bad l)) | none => s
      (List.range 8).foldl (fun s m => match s.l1 m line with | some l => s.setL1 m line (some (bad l)) | none => s) s
    | none => s

/-- Dirty lines of a range are written back from every L1 and the L2 through the port of the core whose operation it is, and stay valid
(R153, R154, R157) (log 155). -/
def State.cleanRange (s : State) (core a n : Nat) : State :=
  let clean (ls : List (Nat × Option LineSt)) := ls.map (fun e =>
    (e.1, if a ≤ e.1 ∧ e.1 < a + n then e.2.map (fun l => { l with dirty := false }) else e.2))
  let s := (linesIn s.l2 a n).foldl (fun s e => s.writeBack core e.1 e.2) s
  let s : State := { s with l2 := clean s.l2 }
  (List.range 8).foldl (fun s c =>
    let s := (linesIn (s.hawk c).lines a n).foldl (fun s e => s.writeBack core e.1 e.2) s
    s.setHawk c { s.hawk c with lines := clean (s.hawk c).lines }) s

/-- The lines of a range are invalidated, dirty data included (R154). -/
def State.dropRange (s : State) (a n : Nat) : State :=
  let drop_ (ls : List (Nat × Option LineSt)) := ls.filter (fun e => !(decide (a ≤ e.1) && decide (e.1 < a + n)))
  let s : State := { s with l2 := drop_ s.l2 }
  (List.range 8).foldl (fun s c => s.setHawk c { s.hawk c with lines := drop_ (s.hawk c).lines }) s

end Sys2Proof.Machine
end

