-- ==== Sys2Proof/Machine/Arbiter.lean ====
section
/-! DEFINITION. The store's arbiter, locks, error write-back, die loss, scrubber and BAR2 window (R118-R147). -/
namespace Sys2Proof.Machine

/-! ### Ports -/

/-- A requester's alive bit (R140, R151). -/
def State.alive (s : State) (r : Nat) : Bool :=
  if r < 32 then bitOf (s.rd Reg.ARB_ALIVE0) r else bitOf (s.rd Reg.ARB_ALIVE1) (r - 32)

def State.setAlive (s : State) (r : Nat) (b : Bool) : State :=
  if r < 32 then s.wr Reg.ARB_ALIVE0 (withBits (s.rd Reg.ARB_ALIVE0) r 1 (b2n b))
  else s.wr Reg.ARB_ALIVE1 (withBits (s.rd Reg.ARB_ALIVE1) (r - 32) 1 (b2n b))

/-! ### Locks -/

/-- The held locks change; ARB_LOCKS follows. -/
def State.setLocks (s : State) (ls : List LockSt) : State :=
  ({ s with arb := { s.arb with locks := ls } } : State).wr Reg.ARB_LOCKS ls.length

/-- A lock word (R141). -/
def lockWord (state : Nat) (recover : Bool) (owner seq time : Nat) : Nat :=
  state + b2n recover * 4 + owner % 64 * 2 ^ 8 + seq % 65536 * 2 ^ 16 + time % 2 ^ 32 * 2 ^ 32

/-- The answer of a load that reaches a lock window with no lock (R142, R143, R160). -/
def lockRefused : Nat := 3

/-- A lock word that a requester's load returns: a core's, or the low word of it to Chrysalis, whose loads are of 32 bits (R160, R498). -/
def State.returnLock (s : State) (r addr w : Nat) : State :=
  if r = 56 then s.emit (.chyLoad addr (w % 2 ^ 32)) else s.emit (.coreLoad (r - 16) addr w)

/-- A requester's load of a lock word that is POISON fails: a core faults, and nothing is returned to Chrysalis (R125) (log 123). -/
def State.failLock (s : State) (r addr : Nat) : State := if r < 24 then s.hawkFault (r - 16) 5 addr else s

/-- The lock word is read, and a lock is taken unless the requester holds one (R142). The answer is the old word; none where it is
POISON. -/
def State.takeLock (s : State) (r base size : Nat) : State × Option Nat :=
  if (s.lockOf r).isSome then (s, some lockRefused)
  else if s.poisonIn base 8 then (s.accountRead r base 8, none)
  else
    let s := s.accountRead r base 8
    let old := leNat (s.bytesAt base 8)
    let recover := bitsOf old 0 2 == 2 || bitOf old 2
    let new := lockWord 1 recover r (bitsOf old 16 16 + 1) s.now32
    let s := s.putMasked r base ((leBytes 8 new).map some)
    let l : LockSt := { owner := r, base := base, size := size, since := s.time.elapsed, prio := s.rd (Reg.ARB_PRIO r) }
    (s.setLocks (s.arb.locks ++ [l]), some old)

/-- The lock word is written and the region released (R143). The answer is the word as written; none where it is POISON, and the lock
stays. -/
def State.endLock (s : State) (r : Nat) (recovered : Bool) : State × Option Nat :=
  match s.lockOf r with
  | none => (s, some lockRefused)
  | some l =>
    if s.poisonIn l.base 8 then (s.accountRead r l.base 8, none)
    else
    let s := s.accountRead r l.base 8
    let old := leNat (s.bytesAt l.base 8)
    let free := !bitOf old 2 || recovered
    let new := lockWord (if free then 0 else 2) (!free) (bitsOf old 8 6) (bitsOf old 16 16) s.now32
    let s := s.putMasked r l.base ((leBytes 8 new).map some)
    (s.setLocks (s.arb.locks.filter (fun x => x.owner != r)), some new)

/-! ### Bursts -/

/-- A granted read: its accounting, the bytes returned with the words marked POISON, and a core's line fill or fault (R119, R125, R162).
What a BAR2 read meets of a refused range has counted at its arrival (R128). -/
def State.performRead (s : State) (r a n : Nat) : State :=
  let core := r - 16
  if 16 ≤ r ∧ r < 24 then
    let (s, data) := s.hostLoad r a n
    let s := s.emit (.loadData a data (s.poisonWords a n))
    if n = 64 ∧ a % 64 = 0 then s.fillLine core a data
    else if s.poisonIn a n then s.hawkFault core 5 a
    else s
  else if r = 55 then
    let (s, data) := s.readableBytes r a n
    s.emit (.loadData a data (s.poisonWords a n))
  else
    let s := s.accountRead r a n
    s.emit (.loadData a (s.bytesAt a n) (s.poisonWords a n))

/-- The first `k` beats of a burst move: a write stores their bytes, and a read of all its beats returns its data, where one of fewer has
been cut and its data is discarded (R118, R119, R121, R140, R150). A lock request has acted at its grant. -/
def State.moveBurst (s : State) (b : BurstSt) (k : Nat) : State :=
  let q := b.request
  let r := q.requester.val
  let a := q.addr.toNat
  let n := a / 32 * 32 + 32 * k - a
  let s := if s.dieLost (dieOf a) then s else s.count (Reg.STO_DIE_BUSY (dieOf a)) k
  match q.op with
  | .read _ =>
    if k = reqBeats q then s.performRead r a (reqBytes q) else (s.accountRead r a n).emit (.dropData r a (a + reqBytes q))
  | .write data => if 16 ≤ r ∧ r < 24 then s.hostStore r a (data.take n) else s.putMasked r a (data.take n)
  | .writeBack data poison => s.storeLine r a (data.take n) (poison.filter (fun w => decide (8 * w < n)))
  | _ => s

/-- The bursts of a die that have moved their last beat are performed, oldest first. -/
def State.landDie (d : Nat) : List BurstSt → State → State
  | [], s => s.setBursts d []
  | b :: t, s =>
    if b.lastBeat ≤ s.time.elapsed then State.landDie d t (s.moveBurst b (reqBeats b.request)) else s.setBursts d (b :: t)

/-- The bursts that have moved their last beat are performed (R119, R121) (log 124). -/
def State.landBursts (s : State) : State :=
  if s.arb.bursts.isEmpty then s else (List.range 8).foldl (fun s d => State.landDie d (s.bursts d) s) s

/-- The bursts of a die in flight are performed as far as a lock word's read and write at a grant are behind them (R142). -/
def State.flushDie (s : State) (d : Nat) : State :=
  (s.bursts d).foldl (fun s b => s.moveBurst b (reqBeats b.request)) (s.setBursts d [])

/-- A requester's bursts in flight are cut: the beats that have moved stand, and the others are dropped (R140, R145). -/
def State.cutBursts (s : State) (r : Nat) : State :=
  (List.range 8).foldl (fun s d =>
    let mine := (s.bursts d).filter (fun b => b.request.requester.val == r)
    mine.foldl (fun s b => s.moveBurst b (s.movedBeats b))
      (s.setBursts d ((s.bursts d).filter (fun b => b.request.requester.val != r)))) s.landBursts

/-! ### Abandoned locks -/

/-- A lock is abandoned (R145), in the order of its steps. The word keeps its RECOVER bit beside OWNER and SEQ (log 125). -/
def State.abandonLock (s : State) (r cause : Nat) : State :=
  match s.lockOf r with
  | none => s
  | some l =>
    let s := s.cutBursts r
    let old := leNat (s.bytesAt l.base 8)
    let new := lockWord 2 (bitOf old 2) (bitsOf old 8 6) (bitsOf old 16 16) s.now32
    let s := (s.putMasked r l.base ((leBytes 8 new).map some)).moveBeats l.base 8
    let s := s.setLocks (s.arb.locks.filter (fun x => x.owner != r))
    let s := if s.flag Reg.STO_LOCKFAULT_ABANDONED then s.setFlag Reg.STO_LOCKFAULT_MULTI true
      else (((s.wr Reg.STO_LOCKFAULT_CAUSE cause).wr Reg.STO_LOCKFAULT_OWNER r).wr Reg.STO_LOCKFAULT_BASE l.base).setFlag
        Reg.STO_LOCKFAULT_ABANDONED true
    (s.count Reg.STO_LOCKFAULT_COUNT 1).raise 0x0301 0 [r, l.base, cause, bitsOf old 16 16]

/-! ### Grants -/

/-- A request is granted: its burst holds the die's next slots; a lock request acts as one atomic step, after what moved before it (R118,
R119, R134, R135, R142, R143). -/
def State.perform (s : State) (q : StoreRequest) : State :=
  let r := q.requester.val
  let a := q.addr.toNat
  let d := dieOf a
  let turn := s.time.elapsed == s.slotFree d && (s.bursts d).getLast?.any (fun b => reqWritesLast b.request != reqWritesFirst q)
  let b : BurstSt := { request := q, granted := s.time.elapsed, turn := turn }
  let s := (s.wr (Reg.ARB_REQ_STAT_AGE r) 0).count (Reg.ARB_REQ_GRANTS r) (reqBeats q)
  match q.op with
  | .lockBegin size =>
    let at_ := 0x60000000 + a + 8 * size.val
    let (s, w) := (s.flushDie d).takeLock r a size.val
    let s := (s.setBursts d (s.bursts d ++ [b])).setSlot d b.slotAfter
    match w with | some w => s.returnLock r at_ w | none => s.failLock r at_
  | .lockEnd rec =>
    let at_ := 0x80000000 + a + 8 * b2n rec
    let (s, w) := (s.flushDie d).endLock r rec
    let s := (s.setBursts d (s.bursts d ++ [b])).setSlot d b.slotAfter
    match w with | some w => s.returnLock r at_ w | none => s.failLock r at_
  | _ => (s.setBursts d (s.bursts d ++ [b])).setSlot d b.slotAfter

/-- The early hint of a losing head request (R138): beats left in the winner's burst and those of the eligible requests that
outrank it, from 1 to 255. -/
def State.hintFor (s : State) (winner q : StoreRequest) (cands : List StoreRequest) : Nat :=
  let ahead := cands.filter (fun x => x != winner && x != q && s.outranks x q)
  min 255 (max 1 (reqBeats winner + (ahead.map reqBeats).sum))

/-- Bit errors strike words before a read finds them. -/
def State.strike (s : State) (x : Strike) : State :=
  let w := x.addr.toNat / 8 * 8
  s.setMark w (if x.double then .double else match s.mark w with
    | .single false => .double
    | .clean => .single false
    | m => m)

/-- What the window refuses of a BAR2 request is taken from it at its arrival, and counts once (R128). -/
def State.admitBar2 (s : State) (q : StoreRequest) : State × StoreRequest :=
  let a := q.addr.toNat
  if q.requester.val ≠ 55 then (s, q)
  else match q.op with
    | .write data => (s.denyWrite a data, { q with op := .write (s.allowedBytes a data) })
    | _ => (s.denyRead a (reqBytes q), q)

/-- A request joins its port; a requester that is not alive has none (R133, R140). -/
def State.enqueue (s : State) (q : StoreRequest) : State :=
  if s.alive q.requester.val && q.op != .command then
    let (s, q) := s.admitBar2 q
    s.setPort q.requester.val (s.port q.requester.val ++ [q])
  else s

/-- The head requests that lose a slot get their hints (R138). -/
def State.hintLosers (s : State) (d : Nat) (w : StoreRequest) : State :=
  ((s.heads d).filter (· != w)).foldl (fun s' q =>
    s'.wr (Reg.ARB_REQ_STAT_HINT q.requester.val) (s.hintFor w q ((s.heads d).filter (fun q => s.eligible q)))) s

/-- A head request leaves its port (R133), and the command whose access it was with it. -/
def State.leavePort (s : State) (q : StoreRequest) : State :=
  let r := q.requester.val
  (if q.op = .command then s.setHeld r (s.heldAt r).tail else s).setPort r (s.port r).tail

/-- A die grants its slot: the winner is performed, the losers get their hints (R134, R138). A command's access keeps the slot for the
idle step in which the command runs (log 122). -/
def State.grant (s : State) (d : Nat) : State :=
  match s.winner d with
  | none => s
  | some w => if w.op = .command then s.hintLosers d w else ((s.hintLosers d w).leavePort w).perform w

/-- ARB_GRANT (R119, R123, R124, R134, R138): requests arrive at their ports, and the die grants its next free slot. -/
def execArbGrant (die : Fin 8) (arrivals : List StoreRequest) (strikes : List Strike) (s : State) : Answer := s.whenOn 0x03 <|
  let s := strikes.foldl (fun s x => s.strike x) s
  let s := arrivals.foldl (fun s q => s.enqueue q) s
  .next ((s.untilElapsed (s.slotFree die)).landBursts.grant die)

/-- ECC_WRITEBACK (R123): a corrected word is written back, unless a write has reached it. -/
def execEccWriteback (addr : BitVec 29) (s : State) : Answer := s.whenOn 0x02 <|
  let w := addr.toNat / 8 * 8
  .next (if s.mark w = .single true then s.setMark w .clean else s)

/-- POISON_STORE (R124): an uncorrectable word is stored poisoned, unless a write has reached it. -/
def execPoisonStore (addr : BitVec 29) (s : State) : Answer := s.whenOn 0x02 <|
  let w := addr.toNat / 8 * 8
  .next (if s.mark w = .detected then s.setMark w .poison else s)

/-- A requester's starvation bit (R136). -/
def State.starved (s : State) (r : Nat) : Bool :=
  if r < 32 then bitOf (s.rd Reg.ARB_STARVED0) r else bitOf (s.rd Reg.ARB_STARVED1) (r - 32)

/-- ARB_STARVED (R136): a waiting request's age reaches ARB_STARVE.CYCLES; so does the access of a command that waits. While the
requester's bit stays set it counts, and raises no notice. -/
def execArbStarved (r : Fin 57) (s : State) : Answer := s.whenOn 0x03 <|
  .next (
    match s.port r with
    | [] => s
    | q :: _ =>
      let s := s.untilElapsed (s.time.elapsed + (s.rd Reg.ARB_STARVE - s.rd (Reg.ARB_REQ_STAT_AGE r)))
      if s.starved r then s.count Reg.ARB_STARVECNT 1
      else
        let s := if r.val < 32 then s.wr Reg.ARB_STARVED0 (Nat.lor (s.rd Reg.ARB_STARVED0) (2 ^ r.val))
          else s.wr Reg.ARB_STARVED1 (Nat.lor (s.rd Reg.ARB_STARVED1) (2 ^ (r.val - 32)))
        let cause := if s.lockedOut q then 2 else 1
        (s.count Reg.ARB_STARVECNT 1).raise 0x0302 r [cause, s.rd (Reg.ARB_PRIO r)])

/-- Whether a head request has the next slot of its die. -/
def State.winsSlot (s : State) (q : StoreRequest) : Bool := s.winner (dieOf q.addr.toNat) == some q

/-- ARB_WITHDRAW (R139): a request not yet granted leaves. Where it comes in the cycle after the grant of the die's next slot, that slot
goes idle, the one after it is free for others, and nothing is read or written. An attempt to withdraw a LOCK_END is ignored. -/
def execArbWithdraw (w : Withdrawal) (s : State) : Answer := s.whenOn 0x03 <|
  let r := w.requester
  let granted := w.granted
  .next (
    match s.port r with
    | [] => s
    | q :: _ =>
      let d := dieOf q.addr.toNat
      match q.op with
      | .lockEnd _ => if granted then (s.untilElapsed (s.slotFree d)).landBursts.grant d else s
      | _ =>
        let s := if granted then (s.untilElapsed (s.slotFree d)).landBursts else s
        let s := if granted && s.winsSlot q then ((s.hintLosers d q).count Reg.ARB_DEAD 1).setSlot d (s.time.elapsed + 1) else s
        (s.leavePort q).wr (Reg.ARB_REQ_STAT_AGE r) 0)

/-- A requester's alive signal falls (R140, R145, R146): the requests in its FIFO are discarded and counted; those held at the sender by a
full FIFO (R34) go with it. -/
def State.aliveFall (s : State) (r : Nat) : State :=
  let s := s.cutBursts r
  let s := s.count Reg.ARB_DISCARD (min 16 (s.port r).length)
  let s := ((s.setPort r []).setHeld r []).wr (Reg.ARB_REQ_STAT_AGE r) 0
  (s.setAlive r false).abandonLock r 1

/-- ALIVE_FALL (R140). -/
def execAliveFall (r : Fin 57) (s : State) : Answer := s.whenOn 0x03 <| .next (s.aliveFall r)

/-- The port of a requester whose alive signal rises starts empty, with age 0 (R140). -/
def State.aliveRise (s : State) (r : Nat) : State :=
  (((s.setPort r []).setHeld r []).wr (Reg.ARB_REQ_STAT_AGE r) 0).setAlive r true

/-- ALIVE_RISE (R140). -/
def execAliveRise (r : Fin 57) (s : State) : Answer := s.whenOn 0x03 <| .next (s.aliveRise r)

/-! ### Locked sequences -/

/-- Whether a requester may take locks: Hawk cores and Chrysalis (R141). -/
def mayLock (r : Nat) : Bool := (decide (16 ≤ r) && decide (r < 24)) || r == 56

/-- A lock request joins its port, as an ordinary one-beat request; it is granted at once where the next slot of its die is its own, and
waits otherwise (R133, R134, R142). -/
def State.lockRequest (s : State) (q : StoreRequest) : State :=
  let d := dieOf q.addr.toNat
  let s := ((s.enqueue q).untilElapsed (s.slotFree d)).landBursts
  if s.winsSlot q then s.grant d else s

/-- LOCK_BEGIN (R142, R160): a load of the lock window takes the lock, or waits. A base that is not aligned to the region is
no lock window offset, and faults on a core. -/
def execLockBegin (r : Fin 57) (base : BitVec 29) (size : Fin 5) (s : State) : Answer := s.whenOn 0x03 <|
  let a := base.toNat
  .next (
    if !mayLock r then s
    else if a % (256 * 2 ^ size.val) ≠ 0 then
      (if r.val < 24 then s.hawkFault (r - 16) 5 (0x60000000 + a + 8 * size.val) else s)
    else s.lockRequest { requester := r, addr := base, op := .lockBegin size })

/-- LOCK_END (R143, R160): the lock word is written FREE or ABANDONED and the region released; without that lock the load returns
STATE 3. A base that is no multiple of 256 is no lock window offset, and faults on a core. -/
def execLockEnd (r : Fin 57) (base : BitVec 29) (recovered : Bool) (s : State) : Answer := s.whenOn 0x03 <|
  let at_ := 0x80000000 + base.toNat + 8 * b2n recovered
  .next (
    if !mayLock r then s
    else if base.toNat % 256 ≠ 0 then (if r.val < 24 then s.hawkFault (r - 16) 5 at_ else s)
    else if (s.lockOf r).any (fun l => l.base == base.toNat) then
      s.lockRequest { requester := r, addr := base, op := .lockEnd recovered }
    else s.returnLock r at_ lockRefused)

/-- LOCK_WATCHDOG_EXPIRY (R145): the lock reaches STO_LOCKMAX cycles. -/
def execLockWatchdogExpiry (owner : Fin 57) (s : State) : Answer := s.whenOn 0x03 <|
  .next (
    match s.lockOf owner with
    | none => s
    | some l => (s.untilElapsed (l.since + s.rd Reg.STO_LOCKMAX)).abandonLock owner 2)

/-! ### Dies and scrubber -/

/-- DIE_NO_RESPONSE (R127): cause 1. -/
def execDieNoResponse (die : Fin 8) (s : State) : Answer := s.whenOn 0x02 <|
  .next (if s.dieLost die then s else s.declareLost [die.val] die 1)

/-- DIE_LINK_CHECK_FAIL (R127): cause 2. -/
def execDieLinkCheckFail (die : Fin 8) (s : State) : Answer := s.whenOn 0x02 <|
  .next (if s.dieLost die then s else s.declareLost [die.val] die 2)

/-- The base address of a die's granule `pos`, in row and bank order (R117; log 14). -/
def granuleAddr (die pos : Nat) : Nat := pos * 2048 + die * 256

/-- The next granule of a die's patrol, and the pass count once all eight dies have passed (R126). -/
def State.scrubAdvance (s : State) (d : Nat) : State :=
  let pos := s.rd (Reg.STO_DIE_SCRUB_POS d) + 1
  let s := s.wr (Reg.STO_DIE_SCRUB_POS d) pos
  if pos < 2 ^ 18 then s
  else
    let least (t : List (Nat × Nat)) := ((List.range 8).map (fun i => tblGet t 0 i)).foldl min (2 ^ 64)
    let t := tblSet s.store.scrubPasses 0 d (tblGet s.store.scrubPasses 0 d + 1)
    let more := least t - least s.store.scrubPasses
    ({ s with store := { s.store with scrubPasses := t } } : State).countMod Reg.STO_SCRUB_PASS more

/-- SCRUB_READ (R126): the patrol reads its next granule of a die, at its interval, and corrects it. It has no requester ID, so
a capture's REQ is free. -/
def execScrubRead (die : Fin 8) (strikes : List Strike) (s : State) : Answer := s.whenOn 0x02 <|
  let d := die.val
  .next (
    if !s.flag Reg.STO_CTRL then s
    else
      let s := s.untilElapsed (tblGet s.store.nextScrub 0 d)
      let s : State := { s with store := { s.store with
        nextScrub := tblSet s.store.nextScrub 0 d (s.time.elapsed + s.rd Reg.STO_SCRUB) } }
      let s := strikes.foldl (fun s x => s.strike x) s
      let (req, s) := s.free
      let a := granuleAddr d (s.rd (Reg.STO_DIE_SCRUB_POS d))
      ((s.accountRead (req % 64) a 256).moveBeats a 256).scrubAdvance d)

/-- SCRUB_DISABLE (R147): SCRUB_EN falls; the scrubber finishes its granule first. -/
def execScrubDisable (s : State) : Answer := s.byRegister 0x20000 <| .next (s.setFlag Reg.STO_CTRL false)

/-- SCRUB_QUIESCENT (R147): the granule is finished. -/
def execScrubQuiescent (s : State) : Answer := s.whenOn 0x02 <|
  .next (if s.flag Reg.STO_CTRL then s else s.setFlag Reg.STO_STAT_SCRUB_QUIESCENT true)

/-! ### The store window -/

/-- A BAR2 access to a store that is powered down (R131): ACCESS_OFF with block 0x02; no BAR0 offset exists for it, so the
captured one is free (log 55). -/
def State.storeDown (s : State) (write : Bool) : State :=
  let (v, s) := s.free
  s.captureError 0x02 0xFF (v % 2 ^ 22) write true false false

/-- The pieces of a masked write that each lie in one granule (R119) (log 53). -/
def granulePieces (r : Fin 57) : Nat → Nat → List (Option Byte) → List StoreRequest
  | 0, _, _ => []
  | k + 1, a, data =>
    if data.isEmpty then []
    else
      let n := 256 - a % 256
      { requester := r, addr := BitVec.ofNat 29 a, op := .write (data.take n) } :: granulePieces r k (a + n) (data.drop n)

/-- The pieces of a read that each lie in one granule, in whole beats (R119). -/
def granuleReads (r : Fin 57) : Nat → Nat → Nat → List StoreRequest
  | 0, _, _ => []
  | k + 1, a, len =>
    if len = 0 then []
    else
      let n := min len (256 - a % 256)
      { requester := r, addr := BitVec.ofNat 29 (a / 32 * 32), op := .read (Fin.ofNat 8 ((a % 32 + n + 31) / 32 - 1)) } ::
        granuleReads r k (a + n) (len - n)

/-- BAR2_WRITE (R130, R128, R131): bytes are stored, refused bytes are dropped and counted, and a write that cannot be granted
at once, as one into a region that another requester has locked, waits at the PCIe port. -/
def execBar2Write (addr : Nat) (data : List (Option Byte)) (s : State) : Answer :=
  if storeSize < addr + data.length then .fault .storeRange
  else .next (
    if !s.barsUp then s
    else if !s.store.powered then s.storeDown true
    else
      let ok := s.allowedBytes addr data
      let t := s.denyWrite addr data
      if s.heldUp 55 addr data.length then
        t.setPort 55 (s.port 55 ++ granulePieces 55 (ok.length / 256 + 2) addr ok)
      else t.storeMasked 55 addr ok)

/-- The bytes that a store which is powered down answers with (R131) (log 54). -/
def offPattern (addr n : Nat) : Bytes := (((List.replicate (n / 4 + 2) (leBytes 4 0x0FF00FF0)).flatten).drop (addr % 4)).take n

/-- BAR2_READ (R130, R131): store data, zeros for the Chrysalis range, or the off pattern. A read that cannot be granted at
once waits at the PCIe port. -/
def execBar2Read (addr len : Nat) (s : State) : Answer :=
  if storeSize < addr + len then .fault .storeRange
  else .next (
    if !s.barsUp then s
    else if !s.store.powered then (s.storeDown false).emit (.loadData addr (offPattern addr len) [])
    else
      let t := s.denyRead addr len
      if s.heldUp 55 addr len then
        t.setPort 55 (s.port 55 ++ granuleReads 55 (len / 256 + 2) addr len)
      else
        let (t, data) := (t.reach 55 addr len).readableBytes 55 addr len
        t.emit (.loadData addr data (t.poisonWords addr len)))

end Sys2Proof.Machine
end

