-- ==== Sys2Proof/Machine/PowerCore.lean ====
section
/-! DEFINITION. What power states, starts and the rest of the part share: which blocks are off, the loss of every domain but KEEP,
resets that hold, wakes, and the pads (R443, R450-R455, R458, R554-R562). -/
namespace Sys2Proof.Machine

def State.setPwr (s : State) (x : PwrSt) : State := { s with pwr := x }
def State.setChy (s : State) (x : ChySt) : State := { s with chy := x }

def gpiIdle : GpiSt := { pin := false, accepted := none, first := none, since := none, fifo := [] }

/-! ### Blocks that are off -/

/-- The block IDs of the BAR0 map (R29). -/
def allBlocks : List Nat := List.range 25

/-- The blocks that a reference clock's loss stops (R543). -/
def clockBlocks (clock : Nat) : List Nat := if clock = 1 then [0x10, 0x11, 0x15] else if clock = 2 then [0x0F] else []

/-- The blocks that are off now (R443, R543, R555). -/
def State.offNow (s : State) : List Nat :=
  if s.pwr.held.isSome || s.pwr.recovery || s.pwr.mode != .on then allBlocks
  else if s.pwr.starting.isSome then allBlocks.filter (fun b => b != 0 && b != 1 && b != 0x18)
  else allBlocks.filter (fun b => s.pwr.idle.contains b || s.pwr.lostClocks.any (fun c => (clockBlocks c).contains b))

def State.setOff (s : State) : State := { s with off := s.offNow }

/-- The store requesters of a block (R132). -/
def blockRequesters (b : Nat) : List Nat :=
  if b = 0x0A then List.range 16
  else if b = 0x04 then (List.range 8).map (· + 16)
  else if b = 0x0D then [24]
  else if b = 0x10 then (List.range 8).map (· + 25)
  else if b = 0x15 then [33, 34]
  else if b = 0x0F then (List.range 16).map (· + 35)
  else if b = 0x12 then (List.range 4).map (· + 51)
  else if b = 0x01 then [55]
  else if b = 0x18 then [56]
  else []

/-- The alive signals of requesters fall with a stop; those that were low before are none of its own (R140, R446). -/
def State.lowerAlive (s : State) (rs : List Nat) : State :=
  let up := rs.filter s.alive
  let s := up.foldl (fun s r => s.aliveFall r) s
  s.setPwr { s.pwr with lowered := s.pwr.lowered ++ up }

/-- The alive signals that a stop of requesters lowered rise again (R140, R449). -/
def State.restoreAlive (s : State) (rs : List Nat) : State :=
  let back := rs.filter s.pwr.lowered.contains
  let s := back.foldl (fun s r => s.aliveRise r) s
  s.setPwr { s.pwr with lowered := s.pwr.lowered.filter (fun r => !back.contains r) }

/-- A block stops: its requesters' alive signals fall, and a stopped Antenna's time stands (R140, R446, R449). -/
def State.stopBlock (s : State) (b : Nat) : State :=
  let s := if b = 0x07 then s.setPwr { s.pwr with stoppedTime := some s.time } else s
  s.lowerAlive (blockRequesters b)

/-- The device time that a stopped Antenna kept goes on (R449). -/
def State.resumeTime (s : State) : State :=
  match s.pwr.stoppedTime with
  | some t => ({ s with time := { t with elapsed := s.time.elapsed } } : State).setPwr { s.pwr with stoppedTime := none }
  | none => s

/-- A block restarts, unless something else still stops it, as it stood: the alive signals that its stop lowered rise, those of SDI inputs
once their reference clock runs (R140, R449, R543). -/
def State.startBlock (s : State) (b : Nat) : State :=
  if s.isOff b then s
  else
    let s := if b = 0x07 then s.resumeTime else s
    s.restoreAlive (if s.pwr.lostClocks.contains 4 then (blockRequesters b).filter (fun r => decide (r < 51) || decide (54 < r))
                    else blockRequesters b)

/-! ### The pads -/

/-- The pads are latched (R453): DMX drivers off, TIMEPULSE outputs inactive, QSPI chip select high, D+ released, every other pad as it
stands; the SerDes transmitters are idle, but for port 0's 1000BASE-X idles in Dormant. -/
def State.latchPads (s : State) (dormant : Bool) : State :=
  let s := (List.range 8).foldl (fun s p => s.emit (.pin "DMX_DE" p false)) s
  let s := (List.range 8).foldl (fun s k => s.emit (.pin "TIMEPULSE" k (s.flag (Reg.ANT_TP_CFG_POL k)))) s
  let s := (s.emit (.pin "QSPI_CS_N" 0 true)).emit (.pin "USB_DP_PULLUP" 0 false)
  let s := (List.range 8).foldl (fun s n => s.emit (.electricalIdle 0x01 n)) s
  let s := (List.range 10).foldl (fun s q => s.emit (if dormant && q == 0 then .idles1000 0 else .electricalIdle 0x10 q)) s
  let s := (List.range 16).foldl (fun s p => s.emit (.electricalIdle 0x0F p)) s
  s.setFlag Reg.PWR_STAT_PADLATCH true

/-- The level a TIMEPULSE output drives now. -/
def State.pulseLevel (s : State) (k : Nat) : Bool :=
  let p := tblGet s.pulses { periodic := false, activeLow := false, width := 0, period := 0, next := none, pulseEnd := none } k
  p.pulseEnd.isSome != p.activeLow

/-- Pads that are given back take their block's current drive (R454, R550). -/
def State.drivePads (s : State) : State :=
  let s := (List.range 8).foldl (fun s k => s.emit (.pin "TIMEPULSE" k (s.pulseLevel k))) s
  (List.range 8).foldl (fun s p => s.emit (.pin "DMX_DE" p (s.dmx p).driven)) s

/-- PADREL (R454): every latched pad takes its block's current drive. -/
def State.releasePads (s : State) : State :=
  if s.flag Reg.PWR_STAT_PADLATCH then (s.setFlag Reg.PWR_STAT_PADLATCH false).drivePads else s

/-! ### Loss of every domain but KEEP -/

/-- A register word's RWS fields, the rest at reset (R15). -/
def keptFields (off : Nat) (w : Word) : Word :=
  match regRow? off with
  | some r => BitVec.ofNat 32 (r.fields.foldl (fun v f =>
      if f.acc = .rws then withBits v f.lsb f.width (bitsOf w.toNat f.lsb f.width) else v) (regReset off).toNat)
  | none => 0

/-- The registers of the keep domain, the boot record and the fuses, which no reset but the loss of VKEEP takes away: RTC, log SEQ,
tamper record, images and keys (R504, R515, R526, R528, R554). -/
def keepWords : List Nat := [0x1E0014, 0x200004, 0x200008, 0x20000C, 0x200010, 0x200020, 0x20002C] ++
  (List.range 12).map (fun j => 0x200080 + 4 * j)

/-- What the keep domain and the wake island need while the rest is down: the wake enables, the alarm and the patterns (R380, R450). -/
def wakeWord (off : Nat) : Bool :=
  off == 0x1E000C || off == 0x1E0010 || off == 0x140400 || (decide (0x141000 ≤ off) && decide (off < 0x141400))

/-- What only a cold start clears, of a register it does not reset with the rest (R81, R127, R150, R381, R385, R461; log 47). -/
def coldOnly (off : Nat) (w : Word) : Word :=
  if off = 0x10004 then w &&& 0x100
  else if off = 0x20004 then w &&& 0xFF00
  else if off = 0x20014 ∨ off = 0x1E001C then w &&& 0xFF000000
  else if 0x21000 ≤ off ∧ off < 0x21800 ∧ off % 0x100 = 0 then w &&& 0xFF03
  else if 0x140000 ≤ off ∧ off < 0x168000 ∧ 0x800 ≤ off % 0x4000 ∧ off % 0x4000 < 0x1000 then w
  else if 0x180000 ≤ off ∧ off < 0x1A0000 ∧ 0x100 ≤ off % 0x4000 ∧ off % 0x4000 < 0x200 then w
  else 0

/-- The registers that remain when every domain except KEEP loses its state. `sticky` keeps RWS fields. -/
def State.remainingRegs (s : State) (sticky wake : Bool) : List (Nat × Word) :=
  let put (t : List (Nat × Word)) (off : Nat) (w : Word) := tblSet t (regReset off) off w
  let t := s.regs.foldl (fun t e =>
    if keepWords.contains e.1 || (wake && wakeWord e.1) then put t e.1 e.2
    else if sticky then put t e.1 (keptFields e.1 e.2 ||| coldOnly e.1 e.2) else t) []
  let bist := (s.word 0x20004).toNat
  let t := if sticky then put t 0x20004 (BitVec.ofNat 32 (bitsOf bist 1 1 * 2 + bitsOf bist 8 8 * 256)) else t
  let stat := (s.word 0x200000).toNat
  let t := put t 0x200000 (BitVec.ofNat 32 (bitsOf stat 2 5 * 4 + bitsOf stat 7 4 * 128))
  let pwr := (s.word 0x1E0004).toNat
  put t 0x1E0004 (BitVec.ofNat 32 (bitsOf pwr 8 1 * 256 + bitsOf pwr 10 2 * 1024))

/-- What Chrysalis keeps in fuses, flash and the keep domain (R504, R507, R515, R525): a session, a challenge, a request and MKA
do not outlast its processors (log 39). -/
def ChySt.kept (c : ChySt) : ChySt :=
  { chyReset with owners := c.owners, vendorRevoked := c.vendorRevoked, eclosed := c.eclosed, staged := c.staged,
                  autoEclose := c.autoEclose, rooActive := c.rooActive, rooPending := c.rooPending, caks := c.caks, log := c.log,
                  unflushed := c.unflushed, flash := c.flash, settings := c.settings, otherSettings := c.otherSettings,
                  held := c.held, debugSeen := c.debugSeen }

/-- Every domain except KEEP loses its state (R442, R446, R458) (log 116). -/
def State.loseDomains (s : State) (sticky wake : Bool) : State :=
  let pins := s.gpis.foldl (fun t g => tblSet t gpiIdle g.1 { gpiIdle with pin := g.2.pin }) []
  let s' : State := { State.reset with
    regs := s.remainingRegs sticky wake
    time := { acc := 0, elapsed := s.time.elapsed, rho := 0, rhoTarget := 0 }
    gpis := pins
    otu := { otuReset with safePin := s.otu.safePin }
    store := s.store
    selfCal := { State.reset.selfCal with applied := s.selfCal.applied }
    host := { hostReset with inReset := true }
    pwr := s.pwr
    chy := s.chy.kept
    out := s.out
    fresh := s.fresh
    pending := s.pending }
  let s' := if s.chy.session.isSome then s'.wr Reg.CHY_STAT_CAND 4 else s'
  s'.setOff

/-- A reset holds every domain except KEEP for a start's cause (R458, R459, R470, R536, R543, R561). -/
def State.holdReset (s : State) (cause : Nat) : State :=
  let s := s.setPwr { s.pwr with held := some cause, heldAt := s.time.elapsed, released := false, starting := none, mode := .on, idle := [],
                                 recovery := false, lowered := [], stoppedTime := none }
  s.loseDomains true true

/-- BOOT_FAILED (R560, R561): the failed-boot count, the log entry, and a start with cause 8. -/
def State.bootFailed (s : State) (cause : Nat) : State :=
  let s := s.setPwr { s.pwr with failedBoots := s.pwr.failedBoots + 1 }
  let s := (s.logEvent 1 0x1881 [BitVec.ofNat 8 cause]).holdReset 8
  s.setPwr { s.pwr with released := true }

/-! ### Waking -/

/-- PWR_LASTWAKE records the first wake event (R450, R461). -/
def State.recordWake (s : State) (src from_ pat : Nat) (during : Bool) : State :=
  (((s.wr Reg.PWR_LASTWAKE_SRC src).wr Reg.PWR_LASTWAKE_FROM from_).wr Reg.PWR_LASTWAKE_PAT pat).setFlag
    Reg.PWR_LASTWAKE_DURING during

/-- Time passes by a free amount within a bound in ns (log 2). -/
def State.within (s : State) (bound : Nat) : State :=
  let (f, s) := s.free
  s.untilElapsed (s.time.elapsed + f % (bound + 1))

/-- The wake from Idle (R451): the stopped blocks restart within 200 µs, and PWR_WOKE is raised. -/
def State.wakeIdle (s : State) (src : Nat) (during : Bool) : State :=
  let blocks := s.pwr.idle
  let s := (s.recordWake src 1 0 during).within 200000
  let s := (s.setPwr { s.pwr with idle := [] }).setOff
  let s := blocks.reverse.foldl (fun s b => s.startBlock b) s
  ((s.wr Reg.PWR_STAT_STATE 0).setFlag Reg.PWR_STAT_WAKEPEND false).raise 0x1603 0 [(s.word 0x1E0018).toNat]

/-- The wake from Dormant or Cocoon pending (R451): SUPPLY_OFF falls, and a start with cause 9 is to run. -/
def State.wakeDeep (s : State) (src pat : Nat) (during : Bool) : State :=
  let cocoon := s.pwr.mode == .cocoonPending
  let s := s.recordWake src (if cocoon then 3 else 2) pat during
  let s := if cocoon then s.emit (.pin "SUPPLY_OFF" 0 false) else s
  let s := s.setPwr { s.pwr with mode := .on, held := some 9, released := true, supplyOff := false }
  (s.wr Reg.PWR_STAT_STATE 4).setOff

/-- A wake event of a source: 2 WAKE_N, 3 RTC, 4 GPI, 5 pattern (R450). -/
def State.wakeEvent (s : State) (src pat : Nat) : State :=
  if s.rd Reg.PWR_STAT_STATE = 1 then (if src = 5 then s else s.wakeIdle src false)
  else if s.pwr.mode = .dormant ∨ s.pwr.mode = .cocoonPending then (if src = 4 then s else s.wakeDeep src pat false)
  else s

end Sys2Proof.Machine
end

