-- ==== Sys2Proof/Machine/WingCore.lean ====
section
/-! DEFINITION. The Wingbeat link as the emission engine and the WNG rows share it: frames, node records, scan profiles and
the line of a port (R286-R296, R304, R307, R311, R312). -/
namespace Sys2Proof.Machine

/-- Symbol times in ns, rounded up (R286). -/
def tauNs (n : Nat) : Nat := (16 * n + 4) / 5

/-- One step of the Ethernet CRC-32 over a bit. -/
def crcBit (c : Nat) : Nat := if c % 2 = 1 then Nat.xor (c / 2) 0xEDB88320 else c / 2

/-- The CRC-32 of the Ethernet FCS (R293). -/
def crc32 (b : Bytes) : Nat :=
  let f (c : Nat) (x : Byte) := (List.range 8).foldl (fun c _ => crcBit c) (Nat.xor c x.toNat)
  Nat.xor (b.foldl f 0xFFFFFFFF) 0xFFFFFFFF

/-- A frame's header word H0 (R292). -/
def wingH0 (type node : Nat) (bcast rep stale : Bool) (dir : Nat) : Nat :=
  type + 16 + node * 2 ^ 8 + b2n bcast * 2 ^ 16 + b2n rep * 2 ^ 17 + b2n stale * 2 ^ 18 + dir * 2 ^ 19

/-- A whole frame from header to CRC (R291-R293); a frame that carries POISON has its CRC inverted (R125). -/
def wingBytes (h0 offset seq param : Nat) (payload : List Nat) (poison : Bool) : Bytes :=
  let b := wordsBytes ([h0, payload.length + offset * 2 ^ 16, seq, param] ++ payload)
  b ++ leBytes 4 (if poison then Nat.xor (crc32 b) 0xFFFFFFFF else crc32 b)

/-- The control sequences of the link (R287). -/
def wireIdle : List WireGroup := [.k 0xBC, .d 0x50]
def wireSof : List WireGroup := [.k 0xBC, .k 0xFB]
def wireEof : WireGroup := .k 0xFD

/-- A frame on the line: SOF, a group for each byte, EOF, and the least gap (R287-R289, R291). -/
def wireFrame (b : Bytes) : List WireGroup := wireSof ++ b.map .d ++ [wireEof] ++ wireIdle ++ wireIdle ++ wireIdle

/-- The bytes of a received frame from behind its SOF to its EOF; none when a group is no data group before that (R287, R296). -/
def wireBody : List WireGroup → Option Bytes
  | [] => none
  | .d b :: t => (wireBody t).map (b :: ·)
  | g :: _ => if g = wireEof then some [] else none

/-- A frame leaves on a port now (R289, R291): TXFRAMES counts it and the line is taken for its length and the least gap. -/
def State.wingPut (s : State) (p words : Nat) (b : Bytes) : State :=
  let s := (s.emit (.wing p (wireFrame b))).countMod (Reg.WNG_TXFRAMES p) 1
  s.setWing p { s.wing p with last := some s.time.elapsed, free := s.time.elapsed + tauNs (4 * words + 29) }

/-- Whether a port runs: its block is on and it is enabled (R321). -/
def State.wingOn (s : State) (p : Nat) : Bool := s.flag (Reg.WNG_CTRL_ENABLE p) && !s.isOff 0x0F

def State.wingDir (s : State) (p : Nat) : Nat := s.rd (Reg.WNG_CTRL_END p)

/-- Whether an instant lies in the interval around an apex that is closed to all but DATA, LATCH and TICK (R307). -/
def State.wingClosed (s : State) : Bool :=
  let near (a : Nat) := decide (a ≤ s.now + 250000) && decide (s.now ≤ a + 10000)
  s.otu.frames.any (fun f => near f.apex) || (match s.otu.lastApex with | some a => near a | none => false)

/-- Device time as a port reads it: its replica at the last edge of a 312.5 MHz clock (R35). -/
def State.wingTime (s : State) (p : Nat) : Nat := s.replica 16 5 7 (22 + p)

/-- Time passes until a port's device time reaches an instant. -/
def State.untilWing (s : State) (p t : Nat) : State := s.untilReplica 16 5 7 (22 + p) t

/-- The port's line when its last frame and gap are over. -/
def State.wingFree (s : State) (p : Nat) : State := s.untilElapsed (s.wing p).free

/-- A frame other than DATA, LATCH and TICK leaves when the line is free, outside the closed interval; the answer says whether
it left. A muted port sends only what `muted` admits (R307, R418) (log 103). -/
def State.wingSend (s : State) (p : Nat) (muted : Bool) (h0 offset param : Nat) (payload : List Nat) : State × Bool :=
  let t := s.wingFree p
  if s.wingOn p && !t.wingClosed && (muted || !s.flag Reg.ROO_STAT_MUTED) then
    (t.wingPut p payload.length (wingBytes h0 offset 0 param payload false), true)
  else (s, false)

/-! ### Node records -/

/-- The requester of a Wingbeat port (R132). -/
def wingReq (p : Nat) : Nat := 35 + p

/-- The address of a node's record (R304). -/
def State.wingRec (s : State) (p n : Nat) : Nat := s.rd (Reg.WNG_NODEBASE p) + 32 * n

/-- A record as the port reads it: none when a word of it is POISON (R563). -/
def State.readRec (s : State) (p n : Nat) : State × Option (List Nat) :=
  let a := s.wingRec p n
  let s := s.touch (wingReq p) a 32
  (s, if s.poisonIn a 32 then none else some ((List.range 8).map (fun i => s.word32At (a + 4 * i))))

def recWord (r : List Nat) (i : Nat) : Nat := r.getD i 0
def recValid (r : List Nat) : Bool := bitOf (recWord r 0) 0
def recProfile (r : List Nat) : Nat := bitsOf (recWord r 0) 4 3
def recState (r : List Nat) : Nat := bitsOf (recWord r 0) 16 2
def recLatOk (r : List Nat) : Bool := bitOf (recWord r 0) 18
def recMisses (r : List Nat) : Nat := bitsOf (recWord r 0) 24 8

/-- The engine writes its bytes of a record: bytes 2 and 3 of B0, and whole words from B1 (R266, R304). -/
def State.writeRec (s : State) (p n i v : Nat) : State :=
  let a := s.wingRec p n + 4 * i
  if i = 0 then s.storeMasked (wingReq p) a ([none, none] ++ ((leBytes 4 v).drop 2).map some)
  else s.storeWrite (wingReq p) a (leBytes 4 v)

/-- The path delay of a node as its latency counts it (R306). -/
def recDelay (r : List Nat) : Nat := if recLatOk r then recWord r 4 else 0

/-! ### Scan profiles -/

/-- The effective period of the output context in 2^-32 ns; 0 while it has none (R55, R327). -/
def State.outPeriod (s : State) : Nat := (s.ctxEffective (s.rd (Reg.OTU_MODE_CTX (s.rd Reg.OTU_STAT_MODE)))).getD 0

/-- Tp and RS of a profile for a period (R311). -/
def State.profileTp (s : State) (p k period : Nat) : Nat := 5 * period / (16 * 2 ^ 32 * (s.rd (Reg.WNG_PROF_CFG_GDIV p k) + 1))

def State.profileRs (s : State) (p k period : Nat) : Nat :=
  s.profileTp p k period /
    ((s.rd (Reg.WNG_PROF_CFG_MULT p k) + 1) * (s.rd (Reg.WNG_PROF_CFG_SEG p k) + 1) * s.rd (Reg.WNG_PROF_CFG_ROWS p k))

/-- W_b of a band (R311). -/
def State.profileW (s : State) (p k rs b : Nat) : Int :=
  (rs : Int) - s.rd (Reg.WNG_PROF_BAND_BLANK p k b) - s.rd (Reg.WNG_PROF_BAND_PRE p k b)

/-- The least of the four W_b. -/
def State.profileWmin (s : State) (p k rs : Nat) : Int :=
  min (min (s.profileW p k rs 0) (s.profileW p k rs 1)) (min (s.profileW p k rs 2) (s.profileW p k rs 3))

/-- Why a profile is not valid (R311, R322): 1 ROWS, 2 RS, 3 W, 4 PRE short for diagnosis; 0 when it is valid. -/
def State.profileCause (s : State) (p k period : Nat) : Nat :=
  let rows := s.rd (Reg.WNG_PROF_CFG_ROWS p k)
  let rs := s.profileRs p k period
  let pd := (125 + s.rd (Reg.WNG_PROF_CFG_GDIV p k)) / (s.rd (Reg.WNG_PROF_CFG_GDIV p k) + 1)
  if rows = 0 ∨ 64 < rows then 1
  else if 65535 < rs then 2
  else if s.profileWmin p k rs < 16 then 3
  else if s.flag (Reg.WNG_CTRL_DIAG_EN p) = true ∧ (List.range 4).any (fun b => decide (s.rd (Reg.WNG_PROF_BAND_PRE p k b) < pd)) then 4
  else 0

/-- The nodes of a port whose valid record names a profile, as the store holds the records. -/
def State.profileNodes (s : State) (p k : Nat) : List Nat :=
  (List.range 256).filter (fun n =>
    let w := s.word32At (s.wingRec p n)
    bitOf w 0 && bitsOf w 4 3 == k && !s.poisonIn (s.wingRec p n) 32)

/-- A profile is computed again (R311): its fields, WB_PROFILE_BAD when it becomes invalid, and SCAN for its nodes when it is
valid, for which the port reads its records. -/
def State.profileCompute (s : State) (p k : Nat) : State :=
  let period := s.outPeriod
  let was := s.flag (Reg.WNG_PROF_CFG_VALID p k)
  let c := s.profileCause p k period
  let rs := s.profileRs p k period
  let s := s.setFlag (Reg.WNG_PROF_CFG_VALID p k) (decide (c = 0))
  let s := (s.wr (Reg.WNG_PROF_SLOT_RS p k) (min rs 65535)).wr (Reg.WNG_PROF_SLOT_WMIN p k)
    (clampI 0 65535 (s.profileWmin p k rs)).toNat
  if c = 0 then
    (if s.wingOn p then
      let s := s.touch (wingReq p) (s.wingRec p 0) 8192
      s.setWing p { s.wing p with scanDue := (s.profileNodes p k).foldl (fun l n => insertNat n l) (s.wing p).scanDue }
     else s)
  else if was then s.raise 0x0F08 p [k, c]
  else s

/-- Every profile of every port follows a change of the period (R311, R337). -/
def State.wingPeriod (s : State) : State :=
  (List.range 16).foldl (fun s p =>
    if (s.wing p).period = s.outPeriod then s
    else (List.range 8).foldl (fun s k => s.profileCompute p k) (s.setWing p { s.wing p with period := s.outPeriod })) s

/-- The SCAN payload of a profile (R312). -/
def State.scanPayload (s : State) (p k : Nat) : List Nat :=
  [s.rd (Reg.WNG_PROF_CFG_ROWS p k) + s.rd (Reg.WNG_PROF_CFG_SEG p k) * 2 ^ 8 + s.rd (Reg.WNG_PROF_CFG_MULT p k) * 2 ^ 12 +
     s.rd (Reg.WNG_PROF_CFG_GDIV p k) * 2 ^ 16,
   s.rd (Reg.WNG_PROF_SLOT_RS p k), s.profileTp p k s.outPeriod, 0] ++
    (List.range 4).map (fun b => (s.word (Reg.WNG_PROF_BAND_BLANK p k b).off).toNat)

end Sys2Proof.Machine
end

