-- ==== Sys2Proof/Machine/ChyCore.lean ====
section
/-! DEFINITION. Chrysalis: the order of requests, request blocks, replies, authority, key slots, images and sessions as its
operations share them (R496-R502, R504, R505, R507, R513, R516, R521). -/
namespace Sys2Proof.Machine

/-! ### Statuses (R502) -/

def stBusy : Nat := 0x1840
def stDenied : Nat := 0x1841
def stBadBlock : Nat := 0x1842
def stRestarted : Nat := 0x1843
def stNotEclosed : Nat := 0x1844
def stNoSession : Nat := 0x1845
def stFlashError : Nat := 0x1846
def stNoRole : Nat := 0x1848

/-! ### Store reads -/

/-- A Chrysalis read of the store; one that meets POISON fails and is logged (R125, R525). -/
def State.chyRead (s : State) (a n : Nat) : State × Option Bytes :=
  let s := s.touch 56 a n
  if s.poisonIn a n then (s.logEvent 6 (Config.chyEventCode 1).toNat (leBytes 4 a ++ leBytes 4 n), none)
  else (s, some (s.bytesAt a n))

/-- Whether a range lies in the general area (R128). -/
def inGeneral (a n : Nat) : Bool := decide (a + n ≤ 0x1F800000)

/-- A little-endian word of a request's parameters. -/
def ChyReq.word (r : ChyReq) (i : Nat) : Nat := leNat ((r.params.drop (4 * i)).take 4)

/-! ### Requests and replies -/

/-- The operations, with whether the mailbox and the service port may ask for each (R503). -/
def chyOps : List (Nat × Bool × Bool) :=
  [(0x01, true, true), (0x02, true, true), (0x03, true, false), (0x08, true, true), (0x09, true, true), (0x0A, true, true),
   (0x10, true, false), (0x18, true, false), (0x19, true, false), (0x1A, true, false), (0x20, true, true), (0x21, true, true),
   (0x22, true, true), (0x23, true, true), (0x24, true, true), (0x25, true, false), (0x28, true, true), (0x29, true, false),
   (0x30, false, true), (0x31, false, true), (0x32, false, true), (0x38, true, true), (0x39, true, true)]

/-- The operations of recovery mode (R562). -/
def recoveryOps : List Nat := [0x01, 0x02, 0x08, 0x09, 0x0A, 0x38, 0x39, 0x28, 0x20, 0x21, 0x22, 0x23]

/-- Whether an operation is permitted from where a request came. -/
def State.opPermitted (s : State) (r : ChyReq) : Bool :=
  chyOps.any (fun e => e.1 == r.op && (if r.svc then e.2.2 else e.2.1)) && (!s.pwr.recovery || recoveryOps.contains r.op)

/-- A reply word is pushed on queue 31, or dropped and counted (R499, R501). -/
def State.pushReply (s : State) (r : ChyReq) (status rlen : Nat) : State :=
  let w := 2 ^ 62 + r.src * 2 ^ 58 + r.op * 2 ^ 48 + r.tag * 2 ^ 40 + status * 2 ^ 16 + rlen
  if 256 ≤ (s.queue 31).length then s.count Reg.CHY_RPDROP 1 else s.queueAdd 31 w

/-- Whether a request is one of a session's: it writes, commits or aborts it by its ID (R503, R521). -/
def ChyReq.ofSession (r : ChyReq) (x : SessionSt) : Bool := (r.op == 0x21 || r.op == 0x22 || r.op == 0x23) && r.word 0 == x.id

/-- A session's time of idleness begins as a request of it completes (R521). -/
def ChyReq.serves (r : ChyReq) (now : Nat) (x : SessionSt) : SessionSt := if r.ofSession x then { x with idleSince := now } else x

/-- A request is answered: reply, DONE, then the reply word; over the service port, header and reply (R501, R521, R524). `touch` says
whether its block may be written. -/
def State.answer (s : State) (r : ChyReq) (status : Nat) (reply : Bytes) (touch : Bool) : State :=
  let s := s.count Reg.CHY_REQS 1
  let s := if r.svc then s.emit (.reply (wordsBytes [r.op, r.tag, status, reply.length] ++ reply))
    else
      let s := if touch then
          (s.storeWrite 56 (r.blk + r.rpOfs) reply).storeWrite 56 (r.blk + 12) (leBytes 4 (status + 2 ^ 31))
        else s
      s.pushReply r status reply.length
  s.setChy { s.chy with current := none, session := s.chy.session.map (r.serves s.time.elapsed) }

/-- An operation of the request in execution: it acts when the request asks for it, and does nothing when its reply does not fit
(R500-R502). -/
def State.chyOp (s : State) (op : Nat) (f : State → ChyReq → State × Nat × Bytes) : State :=
  match s.chy.current with
  | none => s
  | some r =>
    if r.op ≠ op ∨ s.chyUp = false then s
    else
      let (t, status, reply) := f s r
      if r.rpCap < reply.length then s.answer r stBadParam [] true else t.answer r status reply true

/-- DENIED with its cause in reply word 0 (R502). -/
def denied (s : State) (cause : Nat) : State × Nat × Bytes := (s, stDenied, leBytes 4 cause)

/-- DENIED for a reason to which the spec gives no cause: the word is free (log 2). -/
def deniedFree (s : State) : State × Nat × Bytes :=
  let (f, s) := s.free
  (s, stDenied, leBytes 4 f)

/-- DENIED with a cause, or with a free one where R502 has no code for it. -/
def deniedAs (s : State) (cause : Nat) : State × Nat × Bytes := if cause = 9 then deniedFree s else denied s cause

/-- OK without a reply. -/
def okDone (s : State) : State × Nat × Bytes := (s, stOk, [])

/-- BAD_PARAM: nothing done. -/
def badParam (s : State) : State × Nat × Bytes := (s, stBadParam, [])

/-- Whether a write of flash does not verify, which is free (R502; log 178). -/
def State.flashFails (s : State) : Bool × State :=
  let (x, s) := s.free
  (x % 2 == 1, s)

/-- A request that writes flash: where that does not verify, nothing is done and the request may be repeated (R502). -/
def State.flashWrite (s : State) (f : State → State × Nat × Bytes) : State × Nat × Bytes :=
  let (bad, s) := s.flashFails
  if bad then (s, stFlashError, []) else f s

/-! ### Authority -/

def State.life (s : State) : Nat := s.rd Reg.CHY_STAT_LIFE

/-- The cause for which an owner key slot has no authority: never written, or revoked; 0 when it has (R502, R505). -/
def State.ownerCause (s : State) (slot : Nat) : Nat :=
  match s.chy.owners.find? (fun e => e.1 == slot) with
  | none => 1
  | some e => if e.2.2 then 2 else 0

/-- The cause for which a vendor key has no authority (R502, R504). -/
def State.vendorCause (s : State) (index : Nat) : Nat :=
  if 3 ≤ index then 1 else if s.chy.vendorRevoked.contains index then 2 else 0

/-- The cause for which a token is refused, 0 for none (R505): its key, its serial and signature, then the challenge it carries, no
older than 60 s. -/
def State.tokenCause (s : State) (vendor : Bool) (t : Option Token) : Nat :=
  match t with
  | none => 1
  | some t =>
    let key := if vendor then s.vendorCause t.slot else s.ownerCause t.slot
    if t.vendor != vendor then 1
    else if key ≠ 0 then key
    else if !t.serialOk || !t.sigOk then 1
    else match s.chy.challenge with
      | some (c, made) => if c == t.challenge && decide (s.time.elapsed ≤ made + 60000000000) then 0 else 8
      | none => 8

/-- The challenge has served (R505). -/
def State.useChallenge (s : State) : State := s.setChy { s.chy with challenge := none }

/-! ### Key slots -/

/-- The key slots that hold a key: 0 the Roost's, 1 + p that of port p (R507). -/
def State.heldSlots (s : State) : List Nat :=
  (if s.chy.rooActive.isSome || s.chy.rooPending.isSome then [0] else []) ++
    ((List.range 8).filter (fun p => (s.cak p).isSome)).map (· + 1)

/-- A key slot is emptied; without its CAK a port's MKA stops (R507, R526). `how` is the notice's word. -/
def State.emptySlot (s : State) (slot how : Nat) : State :=
  let c := s.chy
  let s := if slot = 0 then s.setChy { c with rooActive := none, rooPending := none, rooOld := none }
    else s.setChy { c with caks := c.caks.filter (fun e => e.1 != slot - 1) }
  let s := s.showKeys
  let s := if slot ≠ 0 ∧ !(s.mka (slot - 1)).peers.isEmpty then (s.mkaPeers (slot - 1) []).setMka (slot - 1) mkaIdle else s
  s.report 0x1809 slot [how]

/-- Every key slot is cleared (R505, R514, R526). -/
def State.clearKeys (s : State) : State := s.heldSlots.foldl (fun s k => s.emptySlot k 2) s

/-! ### Images -/

/-- INSTAR, SVN and the plaintext digest of an image's header (R516). -/
def imageInstar (b : Bytes) : Nat := leNat ((b.drop 8).take 4)
def imageSvn (b : Bytes) : Nat := leNat ((b.drop 12).take 1)
def imageDigest (b : Bytes) : Bytes := (b.drop 200).take 48

/-- Whether an image's MAGIC and HVER are valid (R516). -/
def imageMagicOk (b : Bytes) : Bool := decide (leNat (b.take 4) = 0x52415449) && decide (leNat ((b.drop 4).take 2) = 1)

/-- A 48-byte digest in its twelve registers (R528). -/
def State.showDigest (s : State) (f : Nat → Fld) (d : Bytes) : State :=
  (List.range 12).foldl (fun s j => s.wr (f j) (leNat ((d.drop (4 * j)).take 4))) s

/-- An image event is logged (R525). -/
def State.logImage (s : State) (data : Bytes) : State := s.logEvent 2 (Config.chyEventCode 3).toNat data

/-! ### Sessions -/

/-- A session opens on the staging slot (R521). -/
def State.openSession (s : State) (source length : Nat) (digest : Bytes) (reboot auto : Bool) : State × Nat :=
  let (f, s) := s.free
  let id := f % (2 ^ 32 - 1) + 1
  let x : SessionSt := { id := id, source := source, length := length, digest := digest, idleSince := s.time.elapsed,
                         reboot := reboot, autoEclose := auto }
  let s := s.setChy { s.chy with session := some x, staged := [], autoEclose := false }
  (((s.wr Reg.CHY_STAT_CAND 1).wr Reg.CHY_STAT_SRC source).wr Reg.CHY_CAND 0, id)

/-- What an open meets: its status by the slot's state (R521). -/
def State.openStatus (s : State) : Nat :=
  let c := s.rd Reg.CHY_STAT_CAND
  if c = 1 then stBusy else if c = 3 then stNotEclosed else stOk

/-- A session ends with the slot in a state (R521, R522). -/
def State.endSession (s : State) (cand : Nat) : State :=
  let s := s.setChy { s.chy with session := none }
  (s.wr Reg.CHY_STAT_CAND cand).wr Reg.CHY_STAT_SRC 0

/-- Whether LENGTH is that of a whole image (R522). -/
def lengthOk (n : Nat) : Bool := decide (4096 ≤ n) && decide (n ≤ 30 * 2 ^ 20)

/-- The cause for which a commit is refused, 0 for none (R502, R522): bytes missing or a bad form, to which R502 gives no code,
stand as 9. -/
def State.commitCause (s : State) (x : SessionSt) : Nat :=
  let b := s.chy.staged
  if b.length ≠ x.length ∨ imageMagicOk b = false then 9
  else if sha384 b ≠ x.digest then 6
  else if imageInstar b ≤ imageInstar s.chy.eclosed then 5
  else if imageSvn b < s.rd Reg.CHY_FLOOR then 4
  else 0

/-- A commit of the session (R522): STAGED with STAGE_COMMITTED, or FAILED. The answer is the cause. -/
def State.commitSession (s : State) (x : SessionSt) : State × Nat :=
  let cause := s.commitCause x
  if cause = 0 then
    let instar := imageInstar s.chy.staged
    let s := (s.endSession 2).wr Reg.CHY_CAND instar
    let s := s.setChy { s.chy with autoEclose := x.autoEclose }
    (s.report 0x1808 0 [x.source, instar], 0)
  else (s.endSession 4, cause)

/-! ### Restarts of Chrysalis -/

/-- Chrysalis stops for a restart (R496). -/
def State.beginRestart (s : State) (cause : Nat) : State :=
  if s.chy.restart.isSome || s.flag Reg.CHY_STAT_HALTED || (!s.flag Reg.CHY_STAT_RUN && s.pwr.starting.isNone && !s.pwr.recovery) then s
  else
    let t := s.time.elapsed
    let recent := s.chy.restartTimes.filter (fun u => decide (t < u + 10000000000))
    let s := (s.setFlag Reg.CHY_STAT_RUN false).count Reg.CHY_RESTARTS_RESTARTS 1
    let s := s.wr Reg.CHY_RESTARTS_LASTCAUSE cause
    s.setChy { s.chy with restart := some (cause, t), restartTimes := recent ++ [t] }

end Sys2Proof.Machine
end

