-- ==== Sys2Proof/Machine/Ptp.lean ====
section
/-! DEFINITION. Antenna's PTP engine: Sync, Follow_Up and delay exchanges, Announce and master selection, and the master state
(R45, R48, R53, R371, R375). -/
namespace Sys2Proof.Machine

def State.setPtp (s : State) (x : PtpSt) : State := { s with ant := { s.ant with ptp := x } }

/-- A correctionField, signed 2^-16 ns, in whole ns. -/
def corrNs (c : BitVec 64) : Int := roundDiv c.toInt 65536

/-! ### Messages sent (log 32) -/

/-- The clock identity of a port: its MAC address with FFFE in the middle (log 32). -/
def State.clockIdentity (s : State) : Nat :=
  let m := s.macAddr (s.portOf (s.rd Reg.ANT_PTP_CFG_PORT))
  m / 2 ^ 24 * 2 ^ 40 + 0xFFFE * 2 ^ 24 + m % 2 ^ 24

/-- A PTP timestamp: 48 bits of seconds and 32 of nanoseconds. -/
def ptpStamp (t : Nat) : Bytes := beBytes 6 (t / 10 ^ 9) ++ beBytes 4 (t % 10 ^ 9)

/-- A PTP message: header and body (log 32). `log` is logMessageInterval. -/
def State.ptpMessage (s : State) (type flags corr seq control log : Nat) (body : Bytes) : Bytes :=
  beBytes 1 type ++ beBytes 1 0x12 ++ beBytes 2 (34 + body.length) ++ beBytes 1 (s.rd Reg.ANT_PTP_CFG_DOMAIN) ++ beBytes 1 0 ++
    beBytes 2 flags ++ beBytes 8 corr ++ beBytes 4 0 ++ beBytes 8 s.clockIdentity ++ beBytes 2 1 ++ beBytes 2 seq ++
    beBytes 1 control ++ beBytes 1 log ++ body

/-- A PTP message leaves on ANT_PTP_CFG.PORT: event messages to port 319, general ones to 320 (R359, R361). The UDP checksum of a
one-step Sync is 0 (R371). -/
def State.sendPtp (s : State) (kind : TxKind) (msg : Bytes) : State :=
  let port := s.rd Reg.ANT_PTP_CFG_PORT
  let udp := if kind = .ptpGeneral then 320 else 319
  let dst := 0xE0000181
  let f := udpFrame (multicastMac dst) (s.macAddr (s.portOf port)) Config.ptpDscp.toNat Config.ptpTtl.toNat Config.ptpIp.toNat dst
    udp udp (kind == .ptpOneStep) msg
  s.sendOn port { kind := kind, bytes := f, express := kind != .ptpGeneral, launch := none, tci := none, prpSeq := none,
                  poison := false, done := none }

/-! ### Measurement -/

/-- Whether a message is one that Antenna as a slave takes: of its domain, and from the master that selection has chosen. -/
def State.fromMaster (s : State) (h : PtpHeader) : Bool :=
  !s.flag Reg.ANT_STAT_MASTER && h.domain.toNat == s.rd Reg.ANT_PTP_CFG_DOMAIN &&
    (match s.ant.ptp.best with | some b => b.hdr.source == h.source | none => false)

/-- A complete Sync with a known delay gives a measurement (R47, R48): the offset from the master against the phase target, and
the interval between the master's t1s against the oscillator's between their t2s. -/
def State.ptpMeasure (s : State) (y : OpenSync) : State :=
  match s.ant.ptp.lastDelay with
  | none => s
  | some d =>
    let offset := roundDiv (((y.t2 : Int) - y.t1) - d) 2
    let x := s.source 1
    let out := x.last.isSome &&
      outside100ppm ((y.at_ - x.lastElapsed) * 2 ^ 32) ((y.t1 - x.lastMaster).toNat * 2 ^ 32)
    let s := s.setSource 1 { x with last := some s.time.acc, lastElapsed := y.at_, lastMaster := y.t1 }
    s.measure 1 (offset + s.phaseTarget) out

/-- PTP_SYNC_RX (R48, R53, R375): a Sync received at `t`; a one-step Sync is complete. `origin` is its originTimestamp in ns. -/
def execPtpSyncRx (h : PtpHeader) (twoStep lanB : Bool) (origin corr t : BitVec 64) (s : State) : Answer := s.whenOn 0x07 <|
  .next (
    if !s.fromMaster h then s
    else
      let dup := match s.ant.ptp.sync with | some y => y.hdr == h | none => false
      if dup then s
      else
        let s := s.until t.toNat
        let t1 : Int := (if twoStep then 0 else (origin.toNat : Int)) + corrNs corr
        let y : OpenSync := { hdr := h, t1 := t1, t2 := t.toNat, at_ := s.time.elapsed, complete := !twoStep, lanB := lanB }
        let s := s.setPtp { s.ant.ptp with sync := some y }
        if twoStep then s else s.ptpMeasure y)

/-- PTP_FOLLOW_UP_RX (R53, R375): the precise origin of the open Sync, from the same LAN. -/
def execPtpFollowUpRx (h : PtpHeader) (lanB : Bool) (origin corr : BitVec 64) (s : State) : Answer := s.whenOn 0x07 <|
  .next (match s.ant.ptp.sync with
    | none => s
    | some y =>
      if !s.fromMaster h || y.complete || y.hdr != h || y.lanB != lanB then s
      else
        let y := { y with t1 := origin.toNat + corrNs corr + y.t1, complete := true }
        (s.setPtp { s.ant.ptp with sync := some y }).ptpMeasure y)

/-- PTP_DELAY_REQ_TX (R53): an end-to-end Delay_Req. Its transmit timestamp is the one it leaves with (R371). -/
def execPtpDelayReqTx (s : State) : Answer := s.whenOn 0x07 <|
  .next (
    if s.flag Reg.ANT_STAT_MASTER || s.ant.ptp.best.isNone then s
    else
      let q := s.ant.ptp.delaySeq
      let s := s.setPtp { s.ant.ptp with delaySeq := (q + 1) % 65536, delayOpen := some (q, s.now, s.now) }
      s.sendPtp .ptpEvent (s.ptpMessage 1 0 0 q 0 0x7F (ptpStamp 0)))

/-- PTP_DELAY_RESP_RX (R48, R53, R375): the answer to the open Delay_Req, on the LAN of the first Sync copy; it gives t4 - t3 and,
when no measurement could be made at the Sync, completes that measurement. `received` is t4 in ns. -/
def execPtpDelayRespRx (h : PtpHeader) (lanB : Bool) (received corr : BitVec 64) (s : State) : Answer := s.whenOn 0x07 <|
  .next (match s.ant.ptp.delayOpen with
    | none => s
    | some (q, a, b) =>
      let lanOk := match s.ant.ptp.sync with | some y => y.lanB == lanB | none => true
      if !s.fromMaster h || h.seq.toNat != q || !lanOk then s
      else
        let t3 : Int := if lanB then b else a
        let first := s.ant.ptp.lastDelay.isNone
        let s := s.setPtp { s.ant.ptp with delayOpen := none, lastDelay := some (received.toNat - corrNs corr - t3) }
        match s.ant.ptp.sync with
        | some y => if first && y.complete then s.ptpMeasure y else s
        | none => s)

/-! ### Master selection -/

/-- The order of the default best master clock algorithm's data sets (R53; log 32): whether `a` is better than `b`. -/
def betterMaster (a b : Announce) : Bool :=
  let key (x : Announce) : List Nat :=
    [x.priority1.toNat, x.clockClass.toNat, x.accuracy.toNat, x.variance.toNat, x.priority2.toNat, x.identity.toNat,
     x.steps.toNat, x.hdr.source.toNat]
  decide (key a < key b)

/-- The data set that Antenna itself offers (R53, R76; log 32). -/
def State.ownAnnounce (s : State) : Announce :=
  { hdr := { source := BitVec.ofNat 80 (s.clockIdentity * 65536 + 1), domain := BitVec.ofNat 8 (s.rd Reg.ANT_PTP_CFG_DOMAIN),
             seq := 0 }
    priority1 := BitVec.ofNat 8 (s.rd Reg.ANT_PTP_PRIO_PRIORITY1)
    clockClass := BitVec.ofNat 8 (s.rd Reg.ANT_PTP_PRIO_CLASS)
    accuracy := 0xFE
    variance := 0xFFFF
    priority2 := BitVec.ofNat 8 (s.rd Reg.ANT_PTP_PRIO_PRIORITY2)
    identity := BitVec.ofNat 64 s.clockIdentity
    steps := 0 }

/-- Whether master selection chooses Antenna (R53, R431): ROLE = 1, the grandmaster-offer role held, and no better master. -/
def State.masterChosen (s : State) : Bool :=
  s.flag Reg.ANT_PTP_CFG_ROLE && s.holdsRoles &&
    (match s.ant.ptp.best with | some b => betterMaster s.ownAnnounce b | none => true)

/-- PTP_ANNOUNCE_RX (R53): an Announce of Antenna's domain; it replaces its own sender's, or a worse one, and restarts the
receipt timeout. -/
def execPtpAnnounceRx (a : Announce) (t : BitVec 64) (s : State) : Answer := s.whenOn 0x07 <|
  .next (
    if a.hdr.domain.toNat ≠ s.rd Reg.ANT_PTP_CFG_DOMAIN then s
    else
      let s := s.until t.toNat
      let take := match s.ant.ptp.best with
        | some b => b.hdr.source == a.hdr.source || betterMaster a b
        | none => true
      let moved := match s.ant.ptp.best with | some b => b.hdr.source != a.hdr.source | none => true
      if !take then s
      else
        let p := s.ant.ptp
        let p := if moved then { p with sync := none, lastDelay := none, delayOpen := none } else p
        let s := if moved then s.setSource 1 { s.source 1 with last := none } else s
        s.setPtp { p with best := some a, lastAnnounce := some s.now })

/-- PTP_ANNOUNCE_TIMEOUT (R48): three intervals after the last Announce, PTP is lost and no master is known. -/
def execPtpAnnounceTimeout (s : State) : Answer := s.whenOn 0x07 <|
  .next (match s.ant.ptp.lastAnnounce with
    | none => s
    | some t =>
      let s := s.until (t + 3 * s.announceInterval)
      let s := s.setPtp { s.ant.ptp with best := none, lastAnnounce := none, sync := none, lastDelay := none, delayOpen := none }
      s.loseSource 1)

/-! ### The master state -/

/-- PTP_MASTER_ENTER (R53): MASTER is set and source code 1 is not valid; as the active source it is treated as lost. -/
def execPtpMasterEnter (s : State) : Answer := s.whenOn 0x07 <|
  .next (
    if s.flag Reg.ANT_STAT_MASTER || !s.masterChosen then s
    else
      let s := s.setFlag Reg.ANT_STAT_MASTER true
      let s := s.setPtp { s.ant.ptp with sync := none, lastDelay := none, delayOpen := none, nextSync := some s.now,
                                         nextAnnounce := some s.now }
      if s.measuring 1 then s.loseSource 1
      else (s.wr Reg.ANT_STAT_VALID (withBits (s.rd Reg.ANT_STAT_VALID) 0 1 0)).setSource 1 sourceIdle)

/-- PTP_MASTER_LEAVE (R53): selection no longer chooses Antenna; source code 1 may be valid again as R48 decides. -/
def execPtpMasterLeave (s : State) : Answer := s.whenOn 0x07 <|
  .next (
    if !s.flag Reg.ANT_STAT_MASTER || s.masterChosen then s
    else (s.setFlag Reg.ANT_STAT_MASTER false).setPtp { s.ant.ptp with nextSync := none, nextAnnounce := none })

/-- PTP_SYNC_TX (R53, R371): a Sync at its interval, one-step unless TX_TWO_STEP = 1. The port writes the timestamp of a one-step
Sync as it leaves; a two-step Sync's Follow_Up carries it. -/
def execPtpSyncTx (s : State) : Answer := s.whenOn 0x07 <|
  .next (match s.ant.ptp.nextSync with
    | none => s
    | some t =>
      if !s.flag Reg.ANT_STAT_MASTER then s
      else
        let s := s.until t
        let q := s.ant.ptp.syncSeq
        let s := s.setPtp { s.ant.ptp with syncSeq := (q + 1) % 65536, nextSync := some (t + s.syncInterval) }
        let two := s.flag Reg.ANT_PTP_CFG_TX_TWO_STEP
        s.sendPtp (if two then .ptpEvent else .ptpOneStep)
          (s.ptpMessage 0 (if two then 0x200 else 0) 0 q 0 (low 8 (sext 4 (s.rd Reg.ANT_PTP_CFG_SYNC_LOG))) (ptpStamp 0)))

/-- PTP_ANNOUNCE_TX (R53): an Announce at its interval, with the data set that Antenna offers. -/
def execPtpAnnounceTx (s : State) : Answer := s.whenOn 0x07 <|
  .next (match s.ant.ptp.nextAnnounce with
    | none => s
    | some t =>
      if !s.flag Reg.ANT_STAT_MASTER then s
      else
        let s := s.until t
        let q := s.ant.ptp.announceSeq
        let s := s.setPtp { s.ant.ptp with announceSeq := (q + 1) % 65536, nextAnnounce := some (t + s.announceInterval) }
        let a := s.ownAnnounce
        s.sendPtp .ptpGeneral (s.ptpMessage 11 0x0008 0 q 5 (low 8 (sext 4 (s.rd Reg.ANT_PTP_CFG_ANN_LOG)))
          (ptpStamp 0 ++ beBytes 2 0 ++ beBytes 1 0 ++ beBytes 1 a.priority1.toNat ++ beBytes 1 a.clockClass.toNat ++
            beBytes 1 a.accuracy.toNat ++ beBytes 2 a.variance.toNat ++ beBytes 1 a.priority2.toNat ++
            beBytes 8 a.identity.toNat ++ beBytes 2 0 ++ beBytes 1 0xA0)))

/-- PTP_DELAY_REQ_RX (R53): in the master state, a Delay_Req received at `t` is answered with a Delay_Resp that carries the PTP
time of its receive timestamp. -/
def execPtpDelayReqRx (h : PtpHeader) (corr t : BitVec 64) (s : State) : Answer := s.whenOn 0x07 <|
  .next (
    if !s.flag Reg.ANT_STAT_MASTER || h.domain.toNat != s.rd Reg.ANT_PTP_CFG_DOMAIN then s
    else
      let s := s.until t.toNat
      s.sendPtp .ptpGeneral (s.ptpMessage 9 0 corr.toNat h.seq.toNat 3 0x7F
        (ptpStamp (low 64 ((t.toNat : Int) + s.phaseTarget)) ++ beBytes 10 h.source.toNat)))

/-! ### What the port hands back -/

/-- The transmit timestamp `t` of an event message handed to Antenna (R371): a Delay_Req's t3 on its LAN, or the Follow_Up of a
two-step Sync, by the LAN A copy unless it left on LAN B alone (log 169). `udp` is the UDP payload. -/
def State.ptpTransmitted (s : State) (lanB alone : Bool) (udp : Bytes) (t : Nat) : State :=
  let seq := beNat ((udp.drop 30).take 2)
  if beNat (udp.take 1) % 16 = 1 then
    match s.ant.ptp.delayOpen with
    | some (q, a, b) =>
      if q = seq then s.setPtp { s.ant.ptp with delayOpen := some (if lanB then (q, a, t) else (q, t, b)) } else s
    | none => s
  else if beNat (udp.take 1) % 16 = 0 ∧ s.flag Reg.ANT_STAT_MASTER = true ∧ (lanB = false ∨ alone = true) then
    s.sendPtp .ptpGeneral (s.ptpMessage 8 0 0 seq 2 (low 8 (sext 4 (s.rd Reg.ANT_PTP_CFG_SYNC_LOG)))
      (ptpStamp (low 64 ((t : Int) + s.phaseTarget))))
  else s

end Sys2Proof.Machine
end

