-- ==== Sys2Proof/Machine/MacCore.lean ====
section
/-! DEFINITION. What a MAC port does to a frame: tags, padding, PRP trailers, MACsec, counters, pause, claims and wire time
(R348-R381). -/
namespace Sys2Proof.Machine

/-! ### Reading a frame -/

def beAt (b : Bytes) (i n : Nat) : Nat := beNat ((b.drop i).take n)

def etherType (b : Bytes) : Nat := beAt b (12 + 4 * tagCount b) 2

def frameDst (b : Bytes) : Nat := beAt b 0 6
def frameSrc (b : Bytes) : Nat := beAt b 6 6

/-- 0 unicast, 1 multicast, 2 broadcast: the destination's kind (R381). -/
def dstKind (b : Bytes) : Nat := if frameDst b = 2 ^ 48 - 1 then 2 else if beAt b 0 1 % 2 = 1 then 1 else 0

/-- The size bin of a length L (R381) (log 71). -/
def sizeBin (l : Nat) : Nat :=
  if l ≤ 64 then 0 else if l ≤ 127 then 1 else if l ≤ 255 then 2 else if l ≤ 511 then 3 else if l ≤ 1023 then 4
  else if l ≤ 1518 then 5 else 6

/-- A UDP datagram in IPv4 that a frame carries: source and destination address, destination port, payload. -/
structure UdpView where
  srcIp : Nat
  dstIp : Nat
  dport : Nat
  payload : Bytes
  deriving DecidableEq, Repr

def udpView (b : Bytes) : Option UdpView :=
  let o := 14 + 4 * tagCount b
  let h := beAt b o 1 % 16 * 4
  if etherType b = 0x0800 ∧ beAt b o 1 / 16 = 4 ∧ beAt b (o + 9) 1 = 17 ∧ 20 ≤ h then
    some { srcIp := beAt b (o + 12) 4, dstIp := beAt b (o + 16) 4, dport := beAt b (o + h + 2) 2, payload := b.drop (o + h + 8) }
  else none

/-! ### Counters -/

/-- The counters of an accepted or sent frame: count, octets, destination kind and size, from the first index of a direction
(R381). -/
def State.macFrameCount (s : State) (p base bins : Nat) (b : Bytes) (wire l : Nat) : State :=
  (((s.macCount p base 1).macCount p (base + 1) wire).macCount p (base + 2 + dstKind b) 1).macCount p (bins + sizeBin l) 1

/-! ### Wire time, pause and the receive FIFO -/

/-- Picoseconds per byte at the speed in effect (R349, R350, R384). -/
def State.byteTime (s : State) (p : Nat) : Nat :=
  if (s.mac p).speed = 1 then 800 else if (s.mac p).speed = 2 then 8000 else 320

/-- Whether a port has a speed: 0 25G, 1 10G, 2 1G; a Silk port has 25G only (R349). -/
def macSpeedOk (p speed : Nat) : Bool := speed == 0 || (decide (p < 8) && decide (speed ≤ 2))

/-- Whether a speed has an FEC: 0 none, 1 BASE-R, 2 RS (R349). -/
def macFecOk (speed fec : Nat) : Bool := decide (fec + speed ≤ 2)

/-- The time of a number of pause quanta of 512 bit times, in ns (R364). -/
def State.quantaTime (s : State) (p q : Nat) : Nat := (q * 64 * s.byteTime p + 999) / 1000

/-- The receive FIFO's fill in bytes (R384). -/
def State.macFill (s : State) (p : Nat) : Nat := ((s.mac p).rx.map (·.length)).foldl (· + ·) 0

/-- PAUSE_GEN and PAUSE_RELEASE (R365): the fill has changed from `before`. -/
def State.pauseFor (s : State) (p before : Nat) : State :=
  let m := s.mac p
  let after := s.macFill p
  let high := s.rd (Reg.MAC_FIFO_HIGH p) * 1024
  let lo := s.rd (Reg.MAC_FIFO_LOW p) * 1024
  let q := s.rd (Reg.MAC_PAUSE p)
  if 8 ≤ p ∨ s.flag (Reg.MAC_CTRL_PAUSE_TX p) = false then s
  else if before < high ∧ high ≤ after then
    s.setMac p { m with pause := some q, pauseHigh := true, pauseAt := s.time.elapsed + s.quantaTime p q / 2 }
  else if m.pauseHigh = true ∧ after < lo then s.setMac p { m with pause := some 0, pauseHigh := false }
  else s

/-- Whether the block that claims a frame can take it at once: a block that is stopped cannot (R360; log 34). -/
def State.takesClaim (s : State) (claim : Nat) : Bool :=
  if claim = 1 then s.chyUp else if claim = 2 then !s.isOff 0x15 else if claim = 3 then !s.isOff 0x07
  else if claim = 4 then !s.isOff 0x0D else if claim = 5 then !s.isOff 0x12 else false

/-- Claimed frames at the head of the FIFO leave it for their blocks (R360; log 34). -/
def State.takeClaimed (s : State) : List RxFrame → List RxFrame
  | [] => []
  | f :: t => if s.takesClaim f.claim then s.takeClaimed t else f :: t

/-- A PAUSE frame (R365). -/
def State.pauseFrame (s : State) (p q : Nat) : Bytes :=
  beBytes 6 0x0180C2000001 ++ beBytes 6 (s.macAddr p) ++ beBytes 2 0x8808 ++ beBytes 2 1 ++ beBytes 2 q ++ beBytes 42 0

/-! ### Preemption -/

/-- PREEMPT_STATE (R362): the active state changes. -/
def State.setPreempt (s : State) (p : Nat) (on : Bool) (cause : Nat) : State :=
  let s := s.setMac p { s.mac p with nextVerify := none }
  if s.flag (Reg.MAC_STAT_PREEMPT p) = on then s
  else (s.setFlag (Reg.MAC_STAT_PREEMPT p) on).raise 0x1003 p [b2n on, cause]

/-- What EN, VERIFY_DIS and the link make of preemption (R362). -/
def State.preemptFollow (s : State) (p : Nat) : State :=
  if !s.flag (Reg.MAC_STAT_LINK p) then s.setPreempt p false 4
  else if !s.flag (Reg.MAC_PREEMPT_EN p) then s.setPreempt p false 3
  else if s.flag (Reg.MAC_PREEMPT_VERIFY_DIS p) then s.setPreempt p true 1
  else if s.flag (Reg.MAC_STAT_PREEMPT p) then s
  else s.setMac p { s.mac p with verifyTries := 0, nextVerify := some s.time.elapsed }

/-! ### MACsec -/

/-- Free bytes: what encryption makes of data is not the spec's to state (R376; log 2). -/
def State.freeBytes : Nat → State → Bytes × State
  | 0, s => ([], s)
  | n + 1, s =>
    let (v, s) := s.free
    let (t, s) := State.freeBytes n s
    (BitVec.ofNat 8 v :: t, s)

/-- MSC_PN_HIGH (R377, R508): the next PN of the SA in use reaches MSC_PNHIGH, once per SA; the key server distributes a new SAK. -/
def State.pnHigh (s : State) (p : Nat) : State :=
  let an := s.rd (Reg.MSC_STAT_TX_AN p)
  match (s.msc p).tx.find? (fun a => a.an == an) with
  | some a =>
    if a.high = false ∧ s.rd64 (Reg.MSC_PNHIGH_LO p) (Reg.MSC_PNHIGH_HI p) ≤ a.pn then
      let s := s.setMsc p { s.msc p with tx := (s.msc p).tx.map (fun b => if b.an = an then { b with high := true } else b) }
      (s.raise 0x1101 p [an, a.pn % 2 ^ 32, a.pn / 2 ^ 32]).newSak p
    else s
  | none => s

/-- MACsec protection of a frame (R377): none when no SA can protect it (log 35). -/
def State.mscProtect (s : State) (p : Nat) (b : Bytes) : State × Option Bytes :=
  let an := s.rd (Reg.MSC_STAT_TX_AN p)
  let sa := if s.flag (Reg.MSC_STAT_TX_SA p) then (s.msc p).tx.find? (fun (a : SaSt) => a.an == an) else none
  match sa with
  | none => (s.mscCount p 9 1, none)
  | some a =>
    if 2 ^ 64 ≤ a.pn then (s.mscCount p 9 1, none)
    else
      let sciTx := s.flag (Reg.MSC_CTRL_SCI_TX p)
      let sci := s.macAddr p * 65536 + 1
      let len := b.length - 12
      let tag := beBytes 2 0x88E5 ++ beBytes 1 ((if sciTx then 0x20 else 0x40) + 0x0C + an) ++
        beBytes 1 (if len < 48 then len else 0) ++ beBytes 4 a.pn ++ (if sciTx then beBytes 8 sci else [])
      let (body, s) := State.freeBytes (len + 16) s
      let out := b.take 12 ++ tag ++ body
      let s := s.setMsc p { s.msc p with tx := (s.msc p).tx.map (fun (x : SaSt) => if x.an = an then { x with pn := x.pn + 1 } else x) }
      let s := s.wr64 (Reg.MSC_NEXTPN_LO p) (Reg.MSC_NEXTPN_HI p) (a.pn + 1)
      let s := (s.mscCount p 7 1).mscCount p 8 (out.length + 4)
      (s.pnHigh p, some out)

/-- What MACsec makes of a received frame (R378): dropped, or its bytes and the AN it was verified under. -/
inductive MscVerdict where
  | dropped
  | passed (data : Bytes) (an : Option Nat)
  deriving DecidableEq, Repr

/-- The 64-bit PN of a frame: the upper half is the receiver's, carried on when the low half has wrapped (log 35). -/
def fullPn (next low32 : Nat) : Nat :=
  let h := next / 2 ^ 32
  if next % 2 ^ 32 ≥ 2 ^ 31 ∧ low32 < 2 ^ 31 then (h + 1) * 2 ^ 32 + low32 else h * 2 ^ 32 + low32

/-- MACSEC_VERIFY (R378): `plain` is the frame's user data decrypted, `icvOk` whether its ICV is good. EAPOL and PAUSE frames pass
unprotected (R376). -/
def State.mscVerify (s : State) (p : Nat) (b plain : Bytes) (icvOk : Bool) : State × MscVerdict :=
  let mode := s.rd (Reg.MSC_CTRL_VALIDATE p)
  if 8 ≤ p ∨ s.flag (Reg.MSC_CTRL_RX_EN p) = false ∨ etherType b = 0x888E then (s, .passed b none)
  else if beAt b 12 2 ≠ 0x88E5 then
    if 2 ≤ mode then (s.mscCount p 6 1, .dropped) else (s.mscCount p 5 1, .passed b none)
  else
    let tci := beAt b 14 1
    let an := tci % 4
    let explicit := bitOf tci 5
    let sci := if explicit then beAt b 20 8 else frameSrc b * 65536 + 1
    let chan : Option RxScSt := (s.msc p).rx.find? (fun c => c.sci == sci)
    let sa : Option SaSt := chan.bind (fun c => c.sas.find? (fun a => a.an == an))
    match sa with
    | none => (s.mscCount p 3 1, if 2 ≤ mode then .dropped else .passed b none)
    | some a =>
      let pn := fullPn a.pn (beAt b 16 4)
      if !icvOk then (s.mscCount p 2 1, if 2 ≤ mode then .dropped else .passed b none)
      else if s.flag (Reg.MSC_CTRL_REPLAY p) && decide (pn + s.rd (Reg.MSC_REPLAY_WIN p) < a.pn) && decide (mode ≠ 0) then
        (s.mscCount p 4 1, .dropped)
      else
        let upd (x : SaSt) : SaSt := if x.an = an then { x with pn := max x.pn (pn + 1) } else x
        let s := s.setMsc p { s.msc p with
          rx := (s.msc p).rx.map (fun (c : RxScSt) => if c.sci = sci then { c with sas := c.sas.map upd } else c) }
        ((s.mscCount p 0 1).mscCount p 1 (b.length + 4), .passed (b.take 12 ++ plain) (some an))

/-! ### PRP -/

/-- A redundancy control trailer (R372): sequence number, LanId, LSDUsize, suffix. -/
def rctBytes (seq : Nat) (lanB : Bool) (lsdu : Nat) : Bytes :=
  beBytes 2 seq ++ beBytes 2 ((if lanB then 0xB000 else 0xA000) + lsdu % 4096) ++ beBytes 2 0x88FB

/-- The LSDUsize of a frame with its trailer: the bytes after the EtherType (log 36). -/
def lsduSize (b : Bytes) : Nat := b.length - (14 + 4 * tagCount b)

/-- A frame's valid trailer: sequence number and LanId (R374). -/
def rctOf (b : Bytes) : Option (Nat × Nat) :=
  let o := b.length - 6
  if 20 ≤ b.length ∧ beAt b (o + 4) 2 = 0x88FB ∧ beAt b (o + 2) 2 % 4096 = lsduSize b % 4096 then
    some (beAt b o 2, beAt b (o + 2) 2 / 4096)
  else none

/-- PRP_DUPLICATE_DISCARD (R374): whether the frame is accepted, and whether a trailer was found. -/
def State.prpReceive (s : State) (p : Nat) (b : Bytes) : State × Bool × Bool :=
  if 8 ≤ p ∨ s.pairOn (p / 2) = false then (s, true, false)
  else match rctOf b with
    | none => (s, true, false)
    | some (seq, id) =>
      let a := p / 2 * 2
      let lan := p % 2
      let s := if id = 0xA + lan then s else s.macCount p 22 1
      let m := s.mac a
      let life := s.rd (Reg.MAC_PRP_FORGET a) * 1000000
      let live := m.prpTable.filter (fun e => decide (s.time.elapsed < e.stored + life))
      let same (e : PrpEntry) : Bool := e.source == frameSrc b && e.seq == seq
      match live.find? (fun e => same e && e.lan != lan) with
      | some e => ((s.setMac a { m with prpTable := live.filter (fun x => x != e) }).macCount a 21 1, false, true)
      | none =>
        let rest := live.filter (fun e => !same e)
        let rest := if 4096 ≤ rest.length then rest.drop 1 else rest
        let e : PrpEntry := { source := frameSrc b, seq := seq, lan := lan, stored := s.time.elapsed }
        (s.setMac a { m with prpTable := rest ++ [e] }, true, true)

/-! ### Filters and claims -/

/-- Whether the VLAN filter drops a frame (R368): its first tag has TPID 0x8100 and a VID that no entry holds, or it is untagged or
priority-tagged. -/
def State.vlanDrops (s : State) (p : Nat) (b : Bytes) : Bool :=
  let tagged := beAt b 12 2 == 0x8100
  let vid := beAt b 14 2 % 4096
  let known := (List.range 64).any (fun v => s.flag (Reg.MAC_VLAN_VALID p v) && s.rd (Reg.MAC_VLAN_VID p v) == vid)
  s.flag (Reg.MAC_CTRL_VFILT p) &&
    ((tagged && !known) || ((tagCount b == 0 || (tagged && vid == 0)) && !s.flag (Reg.MAC_CTRL_UNTAG_OK p)))

/-- Where the first tag with TPID 0x8100 of a frame stands, if it has one (R367). -/
def firstTag (b : Bytes) : Option Nat :=
  if beAt b 12 2 = 0x8100 then some 12 else if beAt b 12 2 = 0x88A8 ∧ beAt b 16 2 = 0x8100 then some 16 else none

/-- Whether a frame is a PTP message claimed for Antenna on a port (R359). -/
def State.claimsPtp (s : State) (p : Nat) (b : Bytes) : Bool :=
  match udpView b with
  | none => false
  | some u =>
    let type := beAt u.payload 0 1 % 16
    s.portOf (s.rd Reg.ANT_PTP_CFG_PORT) == p && (u.dport == 319 || u.dport == 320) &&
      (u.dstIp == 0xE0000181 || frameDst b == s.macAddr p) && beAt u.payload 4 1 == s.rd Reg.ANT_PTP_CFG_DOMAIN &&
      (type == 0 || type == 8 || type == 9 || type == 11 || (type == 1 && s.flag Reg.ANT_STAT_MASTER))

/-- The address filter (R369). -/
def State.addressOk (s : State) (p : Nat) (b : Bytes) : Bool :=
  let d := frameDst b
  let kind := dstKind b
  s.flag (Reg.MAC_CTRL_PROMISC p) || d == s.macAddr p || (kind == 2 && s.flag (Reg.MAC_CTRL_BC_EN p)) ||
    (kind != 0 && (s.flag (Reg.MAC_CTRL_MC_ALL p) || (List.range 16).any (fun k =>
      s.flag (Reg.MAC_MCAST_HI_VALID p k) && s.rd (Reg.MAC_MCAST_HI_ADDR p k) * 2 ^ 32 + s.rd (Reg.MAC_MCAST_LO p k) == d))) ||
    (kind != 0 && s.claimsPtp p b)

/-- Whether the Roost block claims a frame (R359, R411). -/
def State.claimsRoost (s : State) (p : Nat) (b : Bytes) : Bool :=
  if 8 ≤ p then etherType b == 0x88B5
  else match udpView b with
    | none => false
    | some u => s.flag Reg.ROO_CFG_NET_EN && s.portOf (s.rd Reg.ROO_CFG_NETPORT) == p && u.dstIp == s.rd Reg.ROO_GROUP &&
        u.dport == s.rd Reg.ROO_UDPPORT

/-- Whether the emission engine claims a frame (R359). -/
def State.claimsApt (s : State) (p : Nat) (u : UdpView) : Bool :=
  let type := beAt u.payload 2 1 % 16
  u.dport == s.rd Reg.EMI_APTPORT && (type == 4 || type == 6) && (List.range 64).any (fun g =>
    s.flag (Reg.EMI_SEG_CTRL_ENABLE g) && s.portOf (s.rd (Reg.EMI_SEG_CTRL_PORT g)) == p && s.rd (Reg.EMI_SEG_SRC_IP g) == u.dstIp)

/-- Whether a media flow claims a frame (R392). -/
def State.claimsFlow (s : State) (p : Nat) (u : UdpView) : Bool :=
  (s.flowClaim p u.srcIp u.dstIp u.dport).isSome

/-- RX_CLAIM (R359): the first claim that matches a frame of a port. -/
def State.claimOf (s : State) (p : Nat) (b : Bytes) : Nat :=
  let u := udpView b
  if p < 8 ∧ s.flag (Reg.MSC_CTRL_RX_EN p) = true ∧ etherType b = 0x888E then 1
  else if s.claimsRoost p b then 2
  else if s.claimsPtp p b then 3
  else match u with
    | some u => if s.claimsApt p u then 4 else if s.claimsFlow p u then 5 else 0
    | none => 0

/-! ### Host units -/

/-- A unit of MAC_TX descriptors completes together, every descriptor with the same words (R91; log 37). -/
def State.completeUnit (s : State) (ring first count status : Nat) (ws : List Nat) : State :=
  ((List.range count).foldl (fun s i =>
    s.setPhase ring ((first + i) % 65536) (.done status 0 (s.ringBlock ring) (s.ringInst ring) ws)) s).settleRing ring

/-- A copy of a host frame has left (R355): the unit completes once no other copy waits. -/
def State.hostSent (s : State) (p : Nat) (f : TxFrame) (ring first count : Nat) (ts : Bool) (bytes time : Nat) : State :=
  let q := if p % 2 = 0 then p + 1 else p - 1
  let t := if ts then time else 0
  match f.prpSeq with
  | none => s.completeUnit ring first count stOk [bytes, t, 0, 0]
  | some seq =>
    let mine (x : TxFrame) : Bool := x.kind == f.kind
    if (s.mac q).tx.any mine then
      s.setMac q { s.mac q with tx := (s.mac q).tx.map (fun x => if mine x then { x with done := some (bytes, t) } else x) }
    else
      let o := match f.done with | some d => d.2 | none => 0
      s.completeUnit ring first count stOk (if p % 2 = 0 then [bytes, t, o, seq] else [bytes, o, t, seq])

/-- A frame that will not leave a port: a host unit completes with a status unless another copy waits or has left (R352, R382). With OK,
of one that MACsec drops, word 0 says that no bytes were sent (log 148). -/
def State.dropFrame (s : State) (p : Nat) (f : TxFrame) (status : Nat) : State :=
  let q := if p % 2 = 0 then p + 1 else p - 1
  match f.kind with
  | .host ring first count _ =>
    if f.prpSeq.isSome && (s.mac q).tx.any (fun x => x.kind == f.kind) then s
    else match f.done with
      | some d => s.completeUnit ring first count stOk (if p % 2 = 0 then [d.1, 0, d.2, f.prpSeq.getD 0]
                                                        else [d.1, d.2, 0, f.prpSeq.getD 0])
      | none => s.completeUnit ring first count status (if status = stOk then [0, 0, 0, f.prpSeq.getD 0] else [])
  | _ => s

end Sys2Proof.Machine
end

