-- ==== Sys2Proof/Machine/Power.lean ====
section
/-! DEFINITION. Wake events, the pad release and the supply monitors (R380, R450, R454, R456-R460). -/
namespace Sys2Proof.Machine

/-! ### The flash log -/

/-- An entry enters the flash ring of 16 sectors of 128 entries; moving into the oldest sector erases it (R525). -/
def flashAppend (l : List LogEntry) (e : LogEntry) : List LogEntry := (if l.length = 2048 then l.drop 128 else l) ++ [e]

/-- Entries of the retained log that flash does not hold reach the flash ring (R457, R525). -/
def State.flushLog (s : State) : State :=
  if !s.chyUp then s
  else
    let c := s.chy
    s.setChy { c with flash := (c.log.drop (c.log.length - c.unflushed)).foldl flashAppend c.flash, unflushed := 0 }

/-! ### Wake events -/

/-- COCOON_VCORE_FALL (R446): Cocoon pending becomes Cocoon. -/
def execCocoonVcoreFall (s : State) : Answer :=
  .next (if s.pwr.mode = .cocoonPending then s.setPwr { s.pwr with mode := .cocoon } else s)

/-- WAKE_N_ASSERT (R450). -/
def execWakeNAssert (s : State) : Answer := .next (if s.flag Reg.PWR_WAKE_EN_PIN then s.wakeEvent 2 0 else s)

/-- RTC_ALARM (R450): the RTC stands at PWR_ALARM. -/
def execRtcAlarm (s : State) : Answer :=
  .next (if s.flag Reg.PWR_WAKE_EN_RTC && s.rd Reg.PWR_RTC == s.rd Reg.PWR_ALARM then s.wakeEvent 3 0 else s)

/-- Whether a frame, without its FCS, matches a wake pattern (R380). -/
def State.wakeMatch (s : State) (data : Bytes) (k : Nat) : Bool :=
  let mask (i : Nat) : Bool := bitOf (s.rd (Reg.MAC_WMASK k (i / 32))) (i % 32)
  let pattern (i : Nat) : Nat := bitsOf (s.rd (Reg.MAC_WPAT k (i / 4))) (8 * (i % 4)) 8
  bitOf (s.rd Reg.MAC_WAKE_WAKE_EN) k && (List.range 128).any mask &&
    (List.range 128).all (fun i => !mask i || (data[i]?).any (fun b => b.toNat == pattern i))

/-- WAKE_PATTERN_MATCH (R380, R450): a frame with a good FCS comes on port 0 in Dormant; the lowest pattern that it matches is
reported, and wakes. -/
def execWakePatternMatch (data : Bytes) (s : State) : Answer :=
  .next (
    if s.pwr.mode != .dormant then s
    else match (List.range 4).find? (s.wakeMatch data) with
      | none => s
      | some k =>
        let s := s.wr Reg.MAC_WAKE_WAKE_LAST k
        if s.flag Reg.PWR_WAKE_EN_PATTERN then s.wakeEvent 5 k else s)

/-- PADREL (R454). -/
def execPadrel (s : State) : Answer := .next (if s.isOff 0x16 then s else s.releasePads)

/-! ### Supply supervision -/

/-- A VMON reading (R456, R461). -/
def State.vmon (s : State) (level : Nat) : State :=
  (s.setPwr { s.pwr with rail := level }).wr Reg.PWR_VMIN (min (min (s.rd Reg.PWR_VMIN) s.pwr.rail) level)

/-- The demotion of R457: a unit that is demoted already sends LEAVE, and stays so until its next start (log 40). -/
def State.sagDemote (s : State) : State :=
  if s.rooState = 5 then
    let s := (s.wr Reg.ROO_DEMCAUSE 7).sendRoost 2 0 (beBytes 4 7)
    let s : State := { s with roo := { s.roo with sagged := true } }
    (List.range 16).foldl (fun s p => s.disableWing p) s
  else s.demote 7

/-- The rail falls below 10.8 V (R456, R457): the steps in order, each skipped where the block it needs has stopped (log 180). -/
def State.sagWarn (s : State) (l : Nat) : State :=
  if s.pwr.mode != .on then s
  else
    let s := s.vmon l
    if s.flag Reg.PWR_STAT_SAG || decide (10800 ≤ l) then s.setPwr { s.pwr with sagLow := min s.pwr.sagLow l }
    else
      let s := (s.setPwr { s.pwr with sagLow := l }).raise 0x1601 0 [l]
      let s := s.setFlag Reg.PWR_STAT_SAG true
      let s := if s.isOff 0x15 then s else s.sagDemote
      if s.isOff 0x18 then s else s.flushLog

/-- SAG_WARN (R456, R457): VMON counts as below 10.8 V. -/
def execSagWarn (level : BitVec 16) (s : State) : Answer := .next (s.sagWarn level.toNat)

/-- SAG_CLEAR (R456, R458): VMON has stood above 11.2 V for 10 ms; the condition ends, and a sag's reset is released. -/
def execSagClear (level : BitVec 16) (s : State) : Answer :=
  let l := level.toNat
  .next (
    if s.pwr.mode != .on ∨ l ≤ 11200 then s
    else
      let s := s.vmon l
      let s := if s.flag Reg.PWR_STAT_SAG then (s.setFlag Reg.PWR_STAT_SAG false).raise 0x1602 0 [l, s.pwr.sagLow] else s
      if s.pwr.held = some 4 ∨ s.pwr.held = some 5 then s.setPwr { s.pwr with released := true } else s)

/-- The rail falls below 9.6 V: a sag reset (R456, R458). -/
def State.sagReset (s : State) (l : Nat) : State :=
  if s.pwr.mode != .on ∨ 9600 ≤ l then s
  else
    let s := s.setPwr { s.pwr with sagLow := min s.pwr.sagLow l }
    ((s.count Reg.PWR_SAGCNT 1).holdReset 4).vmon l

/-- SAG_RESET (R456, R458): VMON counts as below 9.6 V. -/
def execSagReset (level : BitVec 16) (s : State) : Answer := .next (s.sagReset level.toNat)

/-- A rail's bit of PWR_RAIL is set. -/
def State.railBit (s : State) (b : Nat) : State := s.wr Reg.PWR_RAIL (Nat.lor (s.rd Reg.PWR_RAIL) (2 ^ b))

/-- VCORE falls below its level: a reset as for a sag (R459; log 74). -/
def State.vcoreLow (s : State) : State := if s.pwr.mode != .on then s else (s.holdReset 5).railBit 0

/-- VCORE_LOW (R459). -/
def execVcoreLow (s : State) : Answer := .next s.vcoreLow

/-- VSTORE_LOW (R127, R459): every die is LOST with cause 4. -/
def execVstoreLow (s : State) : Answer :=
  .next (
    if s.pwr.mode != .on then s
    else
      let s := (s.setPwr { s.pwr with vstoreFell := true }).railBit 1
      s.declareLost (List.range 8) 0xFF 4)

/-- RAIL_FAULT (R459): rails 2 to 5 are VSDS, VSDS_H, VIO18 and VIO33. -/
def execRailFault (rail : Fin 4) (s : State) : Answer :=
  .next (
    if s.pwr.mode != .on then s
    else
      let s := s.railBit (2 + rail.val)
      s.raise 0x1604 0 [s.rd Reg.PWR_RAIL])

/-- VKEEP_LOW (R459): retained content is not assured. -/
def execVkeepLow (s : State) : Answer :=
  let s := (s.setFlag Reg.PWR_STAT_KEEP_LOW true).railBit 6
  let s := s.setPwr { s.pwr with keepOk := false }
  .next (s.raise 0x1604 0 [s.rd Reg.PWR_RAIL])

end Sys2Proof.Machine
end

