-- ==== Sys2Proof/Machine/Chy.lean ====
section
/-! DEFINITION. The operations of Chrysalis: requests, status and log, identity, keys, show images, settings, lifecycle and
debug, and its restarts, tampering and MKA (R496-R514, R520, R524-R527). -/
namespace Sys2Proof.Machine

/-! ### Taking a request -/

/-- A mailbox word's request block (R499, R500): its fields, or that it breaks the rules (log 111). -/
def State.readRequest (s : State) (w : Nat) : State × ChyReq × Bool :=
  let blk := bitsOf w 0 29
  let r : ChyReq := { svc := false, src := bitsOf w 58 4, op := bitsOf w 48 8, tag := bitsOf w 40 8, blk := blk, params := [],
                      rpOfs := 0, rpCap := 0 }
  if blk % 256 ≠ 0 ∨ inGeneral blk 16 = false then (s, r, false)
  else
    let (s, head) := s.chyRead blk 16
    match head with
    | none => (s, r, false)
    | some h =>
      let rq := leNat (h.take 4)
      let ofs := leNat ((h.drop 4).take 4)
      let cap := leNat ((h.drop 8).take 4)
      let fits := decide (rq ≤ 4080) && decide (ofs % 8 = 0) && decide (16 + rq ≤ ofs) && decide (ofs + cap ≤ 4096) &&
        inGeneral blk (ofs + cap)
      if !fits then (s, r, false)
      else
        let (s, ps) := s.chyRead (blk + 16) rq
        match ps with
        | none => (s, r, false)
        | some ps => (s, { r with params := ps, rpOfs := ofs, rpCap := cap }, true)

/-- A request is taken up, or answered at once with BAD_OPCODE (R502, R503). -/
def State.takeRequest (s : State) (r : ChyReq) : State :=
  if s.opPermitted r then s.setChy { s.chy with current := some r } else s.answer r stBadOpcode [] true

/-- The next request in order, of the mailbox once queue 30 is READY or of the service port, is taken up when none is in execution
(R180, R499-R502). -/
def State.nextRequest (s : State) : State :=
  if !s.chyUp || s.chy.current.isSome then s
  else match s.chy.svc with
    | (0, r) :: t => (s.setChy { s.chy with svc := t }).takeRequest r
    | svc => match s.queue 30 with
      | [] => s
      | w :: t =>
        if !s.flag (Reg.QUE_STAT_READY 30) then s
        else
          let s := (s.setQueue 30 t).setChy { s.chy with svc := svc.map (fun e => (e.1 - 1, e.2)) }
          if !bitOf w 62 then s.count Reg.CHY_RPDROP 1
          else
            let (s, r, ok) := s.readRequest w
            if ok then s.takeRequest r else s.answer r stBadBlock [] false

/-- CHY_REQUEST (R180, R499-R502). -/
def execChyRequest (s : State) : Answer := s.atStore .chyRequest <| .next s.nextRequest

/-- USB_REQUEST (R501, R524): a transfer on the service port joins the order behind what the mailbox holds. -/
def execUsbRequest (op tag : BitVec 8) (rpCap : Word) (params : Bytes) (s : State) : Answer :=
  let r : ChyReq := { svc := true, src := 0, op := op.toNat, tag := tag.toNat, blk := 0, params := params, rpOfs := 0,
                      rpCap := rpCap.toNat }
  .next (if s.flag Reg.CHY_STAT_SVC then s.setChy { s.chy with svc := s.chy.svc ++ [((s.queue 30).length, r)] } else s)

/-- USB_CONFIGURED (R524, R546): a USB host configures the service port, or VBUS goes. -/
def execUsbConfigured (on : Bool) (s : State) : Answer :=
  let s := s.setFlag Reg.CHY_STAT_SVC on
  .next (if on then s else s.setChy { s.chy with svc := [] })

/-! ### Status and log -/

/-- INFO (R503; log 44): the words in the order the operation lists them. -/
def execInfo (s : State) : Answer := s.atStore .info <|
  .next (s.chyOp 0x01 (fun s _ =>
    let ws := [(s.word 0x200000).toNat, s.rd Reg.CHY_INSTAR, s.rd Reg.CHY_CAND, s.rd Reg.CHY_STAT_CAND, s.rd Reg.CHY_FLOOR,
               s.rd Reg.CHY_KEYS, s.rd Reg.CHY_LOGSEQ]
    (s, stOk, (wordsBytes ws ++ List.replicate 64 0).take 64)))

/-- A log entry's 32 bytes (R525). -/
def LogEntry.bytes (e : LogEntry) : Bytes :=
  let b := leBytes 4 e.seq ++ leBytes 4 e.rtc ++ leBytes 4 e.time ++ leBytes 2 e.code ++ leBytes 1 e.cls ++ leBytes 1 0 ++ e.data
  b ++ leBytes 4 (crc32 b)

/-- The entries held, oldest first: those of flash, then those it does not hold yet. -/
def State.heldLog (s : State) : List LogEntry := s.chy.flash ++ s.chy.log.drop (s.chy.log.length - s.chy.unflushed)

/-- Up to a number of entries in order, past those that are bad, and how many of these were passed over (R525; log 182). -/
def pickLog (bad : LogEntry → Bool) : List LogEntry → Nat → List LogEntry × Nat
  | [], _ => ([], 0)
  | _ :: _, 0 => ([], 0)
  | e :: t, k + 1 =>
    if bad e then
      let p := pickLog bad t (k + 1)
      (p.1, p.2 + 1)
    else
      let p := pickLog bad t k
      (e :: p.1, p.2)

/-- LOG_READ (R525): up to MAX entries from FROM, past those of `crcBad`, whose stored CRC fails (log 182). -/
def execLogRead (crcBad : List Word) (s : State) : Answer := s.atStore (.logRead crcBad) <|
  .next (s.chyOp 0x02 (fun s r =>
    let max_ := r.word 1
    if max_ = 0 ∨ 64 < max_ ∨ r.params.length ≠ 8 then badParam s
    else
      let from_ := s.heldLog.filter (fun e => decide (r.word 0 ≤ e.seq))
      let (good, skipped) := pickLog (fun e => crcBad.any (fun w => w.toNat == e.seq)) from_ max_
      let head := leBytes 4 ((good.headD { seq := 0, rtc := 0, time := 0, code := 0, cls := 0, data := [] }).seq) ++
        leBytes 4 (good.length + skipped * 2 ^ 16)
      (s, stOk, head ++ good.flatMap LogEntry.bytes)))

/-- LOG_WRITE (R525): a host entry, at most 16 per second. -/
def execLogWrite (s : State) : Answer := s.atStore .logWrite <|
  .next (s.chyOp 0x03 (fun s r =>
    let t := s.time.elapsed
    let recent := s.chy.hostTimes.filter (fun u => decide (t < u + 1000000000))
    if r.params.length ≠ 12 then badParam s
    else if 16 ≤ recent.length then (s, stBusy, [])
    else
      let s := s.setChy { s.chy with hostTimes := recent ++ [t] }
      okDone (s.logEvent 7 (Config.chyEventCode 0).toNat r.params)))

/-- LOG_FLUSH (R525): retained entries reach flash within 1 s. -/
def execLogFlush (s : State) : Answer := .next s.flushLog

/-! ### Identity -/

/-- The digest of the running image, as CHY_INSTARDIG shows it. -/
def State.instarDigest (s : State) : Bytes := (List.range 12).flatMap (fun j => leBytes 4 (s.rd (Reg.CHY_INSTARDIG j)))

/-- The current show digest. -/
def State.showDig (s : State) : Bytes := (List.range 12).flatMap (fun j => leBytes 4 (s.rd (Reg.CHY_SHOWDIG j)))

/-- IDENTITY (R506; log 43). -/
def execIdentity (s : State) : Answer := s.atStore .identity <|
  .next (s.chyOp 0x08 (fun s _ =>
    (s, stOk, Config.identityChain (leNat s.instarDigest) s.life (s.flag Reg.CHY_STAT_SEALED) (s.rd Reg.CHY_STAT_DEBUG)
      s.pwr.starts)))

/-- The report of ATTEST (R510). -/
def State.report256 (s : State) (nonce : Bytes) : Bytes :=
  let flags := b2n (s.life == 1) + 2 * b2n (s.flag Reg.CHY_STAT_SEALED) + 4 * b2n (s.life == 2) + 8 * s.chy.debugSeen +
    32 * b2n (s.rd Reg.CHY_STAT_CAND == 3) + 64 * b2n (s.rd Reg.CHY_TAMPER_COUNT != 0)
  leBytes 4 0x5441584F ++ leBytes 2 1 ++ leBytes 2 flags ++ leBytes 8 s.serial ++ leBytes 4 (s.rd Reg.CHY_INSTAR) ++
    leBytes 4 (s.rd Reg.CHY_FLOOR) ++ leBytes 4 (s.rd Reg.PWR_RTC) ++ leBytes 4 s.now32 ++ nonce ++ s.instarDigest ++ s.showDig ++
    leBytes 4 (s.rd Reg.CHY_KEYS) ++ leBytes 4 (s.rd Reg.CHY_RESTARTS_RESTARTS) ++ leBytes 4 (s.rd Reg.CHY_TAMPER_COUNT) ++
    leBytes 4 (s.rd Reg.CHY_LOGSEQ) ++ List.replicate 80 0

/-- ATTEST (R510): the report and a signature by ALIAS, which is free (log 2). -/
def execAttest (s : State) : Answer := s.atStore .attest <|
  .next (s.chyOp 0x09 (fun s r =>
    if r.params.length ≠ 32 then badParam s
    else
      let (sig, t) := State.freeBytes 96 s
      (t, stOk, s.report256 r.params ++ sig)))

/-- CHALLENGE (R505): 32 random bytes, free (log 2). -/
def execChallenge (s : State) : Answer := s.atStore .challenge <|
  .next (s.chyOp 0x0A (fun s _ =>
    let (c, s) := State.freeBytes 32 s
    (s.setChy { s.chy with challenge := some (c, s.time.elapsed) }, stOk, c)))

/-! ### Show images -/

/-- A manifest's regions (R511). -/
def manifestRegions (b : Bytes) (n : Nat) : List (Nat × Nat) :=
  (List.range n).map (fun i => (leNat ((b.drop (64 + 8 * i)).take 4), leNat ((b.drop (68 + 8 * i)).take 4)))

/-- Whether regions are multiples of 256 in the general area and overlap nowhere. -/
def regionsOk : List (Nat × Nat) → Bool
  | [] => true
  | r :: t => decide (r.1 % 256 = 0) && decide (r.2 % 256 = 0) && inGeneral r.1 r.2 &&
      t.all (fun q => decide (r.1 + r.2 ≤ q.1) || decide (q.1 + q.2 ≤ r.1)) && regionsOk t

/-- The cause for which a manifest's authority is refused, 0 for none (R511, R512). -/
def State.manifestCause (s : State) (slot : Nat) (sigOk : Bool) : Nat :=
  if slot = 0xFF then (if s.flag Reg.CHY_STAT_SEALED then 1 else 0)
  else if s.ownerCause slot ≠ 0 then s.ownerCause slot
  else if sigOk then 0 else 1

/-- SHOW_VERIFY (R511, R512): form, signature and digest; the new show's regions are sealed, and those of the last unsealed. -/
def execShowVerify (sigOk : Bool) (s : State) : Answer := s.atStore (.showVerify sigOk) <|
  .next (s.chyOp 0x10 (fun s r =>
    let a := r.word 0
    if r.params.length ≠ 4 ∨ a % 256 ≠ 0 ∨ inGeneral a 64 = false then badParam s
    else if s.life = 2 then denied s 3
    else
      let (s, head) := s.chyRead a 64
      match head with
      | none => deniedFree s
      | some h =>
        let n := leNat ((h.drop 6).take 2)
        let slot := leNat ((h.drop 8).take 1)
        let formOk := decide (leNat (h.take 4) = 0x5748534F) && decide (leNat ((h.drop 4).take 2) = 1) && decide (1 ≤ n) &&
          decide (n ≤ 16) && ((h.drop 9).take 7).all (· == 0) && inGeneral a (64 + 8 * n + if slot = 0xFF then 0 else 96)
        if !formOk then deniedFree s
        else
          let (s, body) := s.chyRead a (64 + 8 * n + if slot = 0xFF then 0 else 96)
          let b := (body.getD []).take (64 + 8 * n)
          let rs := manifestRegions b n
          if body.isNone || !regionsOk rs then deniedFree s
          else if s.manifestCause slot sigOk ≠ 0 then denied s (s.manifestCause slot sigOk)
          else
            let (s, parts) := rs.foldl (fun acc q =>
              let (t, x) := acc.1.chyRead q.1 q.2
              (t, acc.2 ++ [x])) (s, ([] : List (Option Bytes)))
            if parts.any (·.isNone) || sha384 (parts.flatMap (fun x => x.getD [])) != (b.drop 16).take 48 then denied s 6
            else
              let dig := sha384 b
              let s := s.showDigest Reg.CHY_SHOWDIG dig
              let s : State := if s.flag Reg.CHY_STAT_SEALED then { s with sealedRegions := rs } else s
              (s, stOk, dig)))

/-! ### Keys -/

/-- The cause for which a key blob is refused, 0 for none and 9 for a refusal without a code (R507, R512): RETIRED, another serial,
authority, a plain key outside OPEN, an unwrap that fails. -/
def State.blobCause (s : State) (b : KeyBlob) : Nat :=
  let sealed_ := s.flag Reg.CHY_STAT_SEALED
  let needs := s.life == 1 || sealed_
  let auth := match b.signature with
    | some (k, ok) => if s.ownerCause k ≠ 0 then s.ownerCause k else if ok then 0 else 1
    | none => 1
  if s.life = 2 then 3
  else if !b.serialOk then 9
  else if needs && auth != 0 then auth
  else if b.plain && needs then 3
  else if !b.plain && !b.unwrapOk then 9
  else 0

/-- KEY_INSTALL (R507, R509): the Roost's key becomes PENDING, a port's its CAK. -/
def execKeyInstall (blob : KeyBlob) (s : State) : Answer := s.atStore (.keyInstall blob) <|
  .next (s.chyOp 0x18 (fun s _ =>
    let cause := s.blobCause blob
    if cause ≠ 0 then deniedAs s cause
    else
      let slot := blob.slot.val
      let c := s.chy
      let s := if slot = 0 then s.setChy { c with rooPending := some blob.key }
        else s.setChy { c with caks := tblSet c.caks [] (slot - 1) blob.key }
      let s := s.showKeys.report 0x1809 slot [1]
      (s, stOk, leBytes 4 slot)))

/-- KEY_DELETE (R507). -/
def execKeyDelete (s : State) : Answer := s.atStore .keyDelete <|
  .next (s.chyOp 0x19 (fun s r =>
    let slot := r.word 0
    if r.params.length ≠ 4 ∨ 8 < slot then badParam s
    else okDone (if s.heldSlots.contains slot then s.emptySlot slot 0 else s)))

/-- ROO_KEY_ACTIVATE (R509; log 45): the PENDING key becomes ACTIVE, and the old key stays accepted for 10 s. -/
def execRooKeyActivate (s : State) : Answer := s.atStore .rooKeyActivate <|
  .next (s.chyOp 0x1A (fun s _ =>
    let c := s.chy
    match c.rooPending with
    | none => badParam s
    | some k =>
      let s := s.setChy { c with rooActive := some k, rooPending := none,
                                 rooOld := c.rooActive.map (fun old => (old, s.time.elapsed + 10000000000)) }
      okDone (s.showKeys.report 0x1809 0 [3])))

/-- ROO_KEY_GRACE_EXPIRY (R509): 10 s after the activation. -/
def execRooKeyGraceExpiry (s : State) : Answer :=
  .next (match s.chy.rooOld with
    | some (_, t) =>
      let s := s.untilElapsed t
      s.setChy { s.chy with rooOld := none }
    | none => s)

/-! ### Settings -/

/-- SET_GET (R520). -/
def execSetGet (s : State) : Answer := s.atStore .setGet <|
  .next (s.chyOp 0x28 (fun s r =>
    match s.setting (r.word 0) with
    | some v => if r.params.length = 4 then (s, stOk, v) else badParam s
    | none => badParam s))

/-- What a settings record governs besides itself: the tamper action (R526). -/
def State.settingTaken (s : State) (id : Nat) (v : Bytes) : State :=
  if id = 0x80000001 then s.wr Reg.CHY_TAMPER_ACT (leNat (v.take 1)) else s

/-- SET_PUT (R520): a record of up to 1,024 bytes; one that governs security needs an owner token when OWNED. -/
def execSetPut (token : Option Token) (s : State) : Answer := s.atStore (.setPut token) <|
  .next (s.chyOp 0x29 (fun s r =>
    let id := r.word 0
    let n := r.params.length - 4 - ((token.map (·.length)).getD 0)
    let v := (r.params.drop 4).take n
    let guarded := decide (0x80000000 ≤ id) && s.life == 1
    if r.params.length < 4 ∨ 1024 < n then badParam s
    else if guarded && s.tokenCause false token != 0 then denied s (s.tokenCause false token)
    else
      let s := if guarded then s.useChallenge else s
      s.flashWrite fun s => okDone ((s.setChy { s.chy with settings := tblSet s.chy.settings [] id v }).settingTaken id v)))

/-! ### Lifecycle and debug -/

/-- An owner key slot is written or revoked in the fuses (R504, R505). -/
def State.setOwner (s : State) (slot : Nat) (hash : Bytes) (revoked : Bool) : State :=
  let owners := s.chy.owners.filter (fun e => e.1 != slot) ++ [(slot, (hash, revoked))]
  (s.setChy { s.chy with owners := owners }).logEvent 3 (Config.chyEventCode 4).toNat (leBytes 4 slot)

/-- OWN (R505): a part that is OPEN takes its first owner key; with an owner token, slots 1 to 3 are added or revoked. The token's
body says which (log 112). -/
def execOwn (token : Option Token) (slot : Fin 4) (hash : Bytes) (revoke : Bool) (s : State) : Answer :=
  s.atStore (.own token slot hash revoke) <|
  .next (s.chyOp 0x30 (fun s r =>
    let k := slot.val
    if s.life = 2 then denied s 3
    else if s.life = 0 then
      if r.params.length ≠ 48 then badParam s
      else okDone ((s.setOwner 0 r.params false).wr Reg.CHY_STAT_LIFE 1)
    else if s.tokenCause false token ≠ 0 then denied s (s.tokenCause false token)
    else
      let old := s.chy.owners.find? (fun e => e.1 == k)
      let live := (s.chy.owners.filter (fun e => !e.2.2)).map (·.1)
      if k = 0 then badParam s
      else if revoke then
        match old with
        | some e => if live = [k] then badParam s else okDone (s.useChallenge.setOwner k e.2.1 true)
        | none => badParam s
      else if old.isSome || hash.length != 48 then badParam s
      else okDone (s.useChallenge.setOwner k hash false)))

/-- SEAL (R505). -/
def execSeal (token : Option Token) (s : State) : Answer := s.atStore (.seal token) <|
  .next (s.chyOp 0x31 (fun s _ =>
    if s.life ≠ 1 then denied s 3
    else if s.tokenCause false token ≠ 0 then denied s (s.tokenCause false token)
    else okDone (s.useChallenge.setFlag Reg.CHY_STAT_SEALED true)))

/-- RETIRE (R505): every key slot is cleared, for good. -/
def execRetire (token : Option Token) (s : State) : Answer := s.atStore (.retire token) <|
  .next (s.chyOp 0x32 (fun s _ =>
    if s.life ≠ 1 then denied s 3
    else if s.tokenCause false token ≠ 0 then denied s (s.tokenCause false token)
    else okDone ((s.useChallenge.wr Reg.CHY_STAT_LIFE 2).clearKeys)))

/-- The debug level changes, with DEBUG_STATE (R514). -/
def State.setDebug (s : State) (level : Nat) : State :=
  if s.rd Reg.CHY_STAT_DEBUG = level then s
  else
    let s := s.wr Reg.CHY_STAT_DEBUG level
    (s.setChy { s.chy with debugSeen := max s.chy.debugSeen level }).report 0x180A 0 [level]

/-- The cause for which an unlock is refused, 0 for none (R513). -/
def State.debugCause (s : State) (level : Nat) (owner vendor : Option Token) : Nat :=
  let needsOwner := s.life == 1
  let needsVendor := level == 2
  if s.life = 2 ∧ level = 1 then 3
  else if needsOwner && s.tokenCause false owner != 0 then s.tokenCause false owner
  else if needsVendor then s.tokenCause true vendor
  else 0

/-- DEBUG_UNLOCK (R513, R514; log 46): one challenge serves the tokens of one request. -/
def execDebugUnlock (owner vendor : Option Token) (s : State) : Answer := s.atStore (.debugUnlock owner vendor) <|
  .next (s.chyOp 0x38 (fun s r =>
    let level := r.word 0
    let cause := s.debugCause level owner vendor
    if level ≠ 1 ∧ level ≠ 2 then badParam s
    else if cause ≠ 0 then denied s cause
    else
      let s := if level = 2 ∨ s.life = 1 then s.useChallenge else s
      okDone ((if level = 2 then s.clearKeys else s).setDebug level)))

/-- DEBUG_LOCK (R514). -/
def execDebugLock (s : State) : Answer := s.atStore .debugLock <| .next (s.chyOp 0x39 (fun s _ => okDone (s.setDebug 0)))

/-! ### Restarts and tampering -/

/-- CHY_VOTER_MISMATCH (R496). -/
def execChyVoterMismatch (s : State) : Answer := .next (s.beginRestart 1)

/-- CHY_SRAM_UE (R496). -/
def execChySramUe (s : State) : Answer := .next (s.beginRestart 2)

/-- CHY_WATCHDOG (R496). -/
def execChyWatchdog (s : State) : Answer := .next (s.beginRestart 3)

/-- CHY_RESTART_WRITE (R496): a write of CHY_CTRL.RESTART = 1. -/
def execChyRestartWrite (s : State) : Answer := .next (s.beginRestart 4)

/-- CHY_RESTART (R496, R497): the restart completes within 10 ms, or 400 ms with the firmware reloaded, and the request in progress
is answered RESTARTED; the third within 10 s halts Chrysalis, which before READY is a failed boot (R561) (log 113). -/
def execChyRestart (reload : Bool) (s : State) : Answer := s.atStore (.chyRestart reload) <|
  .next (match s.chy.restart with
    | none => s
    | some (cause, t0) =>
      if 3 ≤ s.chy.restartTimes.length then
        let s := (s.setChy { s.chy with restart := none }).setFlag Reg.CHY_STAT_HALTED true
        if s.pwr.starting.isSome then s.bootFailed 3 else s
      else
        let s := s.within (if reload then 400000000 else 10000000)
        let s := s.setChy { s.chy with restart := none, push := none }
        let s := if s.pwr.starting.isSome || s.pwr.recovery then s else s.setFlag Reg.CHY_STAT_RUN true
        let s := s.report 0x1801 0 [cause, (s.time.elapsed - t0) / 1000, s.rd Reg.CHY_RESTARTS_RESTARTS]
        match s.chy.current with
        | some r => s.answer r stRestarted [] true
        | none => s)

/-- A tamper event of a source (R526). -/
def State.tamper (s : State) (source : Nat) : State :=
  let s := (s.count Reg.CHY_TAMPER_COUNT 1).wr Reg.CHY_TAMPER_LAST source
  let act := s.rd Reg.CHY_TAMPER_ACT
  let s := s.reportHeld 0x1802 0 [source, s.rd Reg.PWR_RTC, act]
  if act = 1 then s.clearKeys else s

/-- TAMPER (R526, R549): the pin, or the keep domain's own clock. -/
def execTamper (clock : Bool) (s : State) : Answer := .next (s.tamper (if clock then 2 else 1))

/-! ### MKA -/

/-- The peers of a port with one heard now. -/
def mkaHeard (peers : List (Nat × Nat × Nat)) (sci prio now : Nat) : List (Nat × Nat × Nat) :=
  if peers.any (fun e => e.1 == sci) then peers.map (fun e => if e.1 = sci then (sci, prio, now) else e)
  else if peers.length < 8 then peers ++ [(sci, prio, now)]
  else peers

/-- MKA_FRAME_RX (R508): an MKPDU of a peer whose check succeeds; a new live peer changes the session, and a SAK that the key server
distributes is installed within 50 ms. -/
def execMkaFrameRx (p : Fin 8) (sci : BitVec 64) (prio : BitVec 8) (icvOk : Bool) (sak : Option (BitVec 2)) (s : State) : Answer :=
  .next (
    let p := p.val
    if !s.mkaRuns p || !icvOk then s
    else
      let old := (s.mka p).peers
      let peers := mkaHeard old sci.toNat prio.toNat s.time.elapsed
      let s := if peers.length = old.length then s.setMka p { s.mka p with peers := peers } else (s.mkaPeers p peers).newSak p
      match sak with
      | some an => if s.keyServer p then s else s.installSak p an.toNat
      | none => s)

/-- MKA_HELLO (R508): every 2 s on each port that runs MKA. -/
def execMkaHello (p : Fin 8) (s : State) : Answer :=
  .next (
    let p := p.val
    if !s.mkaRuns p then s
    else
      let s := (s.untilElapsed (s.mka p).nextHello).sendMka p
      s.setMka p { s.mka p with nextHello := s.time.elapsed + 2000000000 })

/-- MKA_LIFE_TIME (R508): the live peer heard longest ago has been silent for 6 s, on a port that has ceased to run MKA too (log 181). -/
def execMkaLifeTime (p : Fin 8) (s : State) : Answer :=
  .next (
    let p := p.val
    let peers := (s.mka p).peers
    match peers with
    | [] => s
    | e :: t =>
      if !s.chyUp || s.isOff 0x11 then s
      else
        let oldest := t.foldl (fun a b => if b.2.2 < a.2.2 then b else a) e
        let s := s.untilElapsed (oldest.2.2 + 6000000000)
        (s.mkaPeers p (peers.filter (fun x => x.1 != oldest.1))).newSak p)

end Sys2Proof.Machine
end

