-- ==== Sys2Proof/Machine/Protocol.lean ====
section
/-! DEFINITION. The packets of sACN and the Airodo Pixel Transport as bytes, and their way to a segment's port (R252-R260,
R264, R266). -/
namespace Sys2Proof.Machine

/-! ### Segments -/

def segPort (s : State) (seg : Nat) : Nat := s.rd (Reg.EMI_SEG_CTRL_PORT seg)

/-- The tag that a segment's frames carry (R254, R366). -/
def State.segTci (s : State) (seg : Nat) : Option Nat :=
  if s.flag (Reg.EMI_SEG_CTRL_TAG seg) then some (s.rd (Reg.EMI_SEG_VLAN_PCP seg) * 2 ^ 13 + s.rd (Reg.EMI_SEG_VLAN_VID seg))
  else none

/-- A UDP datagram of a segment as an Ethernet frame (R254). -/
def State.segFrame (s : State) (seg mac ip sport dport : Nat) (payload : Bytes) : Bytes :=
  udpFrame mac (s.macAddr (s.portOf (segPort s seg))) (s.rd (Reg.EMI_SEG_VLAN_DSCP seg)) (s.rd (Reg.EMI_SEG_VLAN_TTL seg))
    (s.rd (Reg.EMI_SEG_SRC_IP seg)) ip sport dport false payload

/-- A frame of the emission engine goes to its segment's port (R252, R373); a muted unit launches nothing (R418). `tag` says what a frame's
packet counts for as it leaves. -/
def State.segSend (s : State) (seg : Nat) (kind : TxKind) (express : Bool) (launch : Option Nat) (poison : Bool) (tag : Option EmitTag)
    (frame : Bytes) : State :=
  if s.flag Reg.ROO_STAT_MUTED then s
  else s.sendOn (segPort s seg) { kind := kind, bytes := frame, express := express, launch := launch, tci := s.segTci seg,
                                  prpSeq := none, poison := poison, done := none, emission := tag }

/-! ### sACN -/

/-- An ACN PDU: its length field with flags 7, then its body. -/
def acnPdu (body : Bytes) : Bytes := beBytes 2 (0x7000 + body.length + 2) ++ body

/-- The root layer of E1.31 around a PDU (log 21). -/
def State.acnRoot (s : State) (vector : Nat) (pdu : Bytes) : Bytes :=
  let cid := (List.range 4).flatMap (fun j => leBytes 4 (s.rd (Reg.EMI_CID j)))
  beBytes 2 0x0010 ++ beBytes 2 0 ++ beBytes 12 0x4153432D45312E3137000000 ++ acnPdu (beBytes 4 vector ++ cid ++ pdu)

/-- The source name (R255). -/
def State.acnName (s : State) : Bytes := (List.range 16).flatMap (fun j => leBytes 4 (s.rd (Reg.EMI_NAME j)))

/-- An E1.31 data packet: `values` from the start code on (R256, R257). -/
def State.sacnData (s : State) (seg univ sync seq : Nat) (terminated : Bool) (values : Bytes) : Bytes :=
  let dmp := acnPdu (beBytes 1 2 ++ beBytes 1 0xA1 ++ beBytes 2 0 ++ beBytes 2 1 ++ beBytes 2 values.length ++ values)
  s.acnRoot 4 (acnPdu (beBytes 4 2 ++ s.acnName ++ beBytes 1 (s.rd (Reg.EMI_SEG_CTRL_PRIO seg)) ++ beBytes 2 sync ++
    beBytes 1 seq ++ beBytes 1 (if terminated then 0x40 else 0) ++ beBytes 2 univ ++ dmp))

/-- An E1.31 synchronization packet (R257). -/
def State.sacnSync (s : State) (univ seq : Nat) : Bytes :=
  s.acnRoot 8 (acnPdu (beBytes 4 1 ++ beBytes 1 seq ++ beBytes 2 univ ++ beBytes 2 0))

/-- A page of universe discovery (R255). -/
def State.sacnDiscovery (s : State) (page last : Nat) (univs : List Nat) : Bytes :=
  s.acnRoot 8 (acnPdu (beBytes 4 2 ++ s.acnName ++ beBytes 4 0 ++
    acnPdu (beBytes 4 1 ++ beBytes 1 page ++ beBytes 1 last ++ univs.flatMap (beBytes 2))))

/-- An sACN packet of a universe as a frame of its segment: multicast, or unicast with DEST = 1 (R255). -/
def State.sacnFrame (s : State) (seg univ : Nat) (payload : Bytes) : Bytes :=
  let ip := if s.flag (Reg.EMI_SEG_CTRL_DEST seg) then s.rd (Reg.EMI_SEG_UNI_IP seg) else 0xEFFF0000 + univ
  let mac := if s.flag (Reg.EMI_SEG_CTRL_DEST seg) then
      s.rd (Reg.EMI_SEG_UNI_MAC_HI seg) * 2 ^ 32 + s.rd (Reg.EMI_SEG_UNI_MAC_LO seg)
    else multicastMac ip
  s.segFrame seg mac ip Config.sacnSourcePort.toNat 5568 payload

/-! ### APT -/

/-- An APT packet (R258). -/
def aptPacket (type flags seq f apply stream fmt offset count : Nat) (payload : Bytes) : Bytes :=
  beBytes 2 0x4150 ++ beBytes 1 (0x10 + type) ++ beBytes 1 flags ++ beBytes 4 seq ++ beBytes 4 f ++ beBytes 8 apply ++
    beBytes 2 stream ++ beBytes 1 fmt ++ beBytes 1 0 ++ beBytes 4 offset ++ beBytes 2 count ++ beBytes 2 payload.length ++ payload

/-- An APT packet as a frame of its segment (R258). -/
def State.aptFrame (s : State) (seg mac ip : Nat) (payload : Bytes) : Bytes :=
  s.segFrame seg mac ip (s.rd Reg.EMI_APTPORT) (s.rd Reg.EMI_APTPORT) payload

/-- An APT packet to the segment's group (R258). -/
def State.aptGroupFrame (s : State) (seg : Nat) (payload : Bytes) : Bytes :=
  let g := s.rd (Reg.EMI_SEG_APT_GROUP seg)
  s.aptFrame seg (multicastMac g) g payload

/-! ### The APT node table -/

/-- The emission engine as a requester (R132). -/
def emiReq : Nat := 24

def State.nodeAt (s : State) (n : Nat) : Nat := s.rd Reg.EMI_NODE_BASE + 64 * n

/-- A node entry as the engine reads it: none when a word of it is POISON (R266, R563). -/
def State.readNode (s : State) (n : Nat) : State × Option (List Nat) :=
  let a := s.nodeAt n
  let s := s.touch emiReq a 64
  (s, if s.poisonIn a 64 then none else some (s.entryAt a))

def nodeWord (a : List Nat) (i : Nat) : Nat := a.getD i 0
def nodeValid (a : List Nat) : Bool := bitOf (nodeWord a 0) 16
def nodeBind (a : List Nat) : Bool := bitOf (nodeWord a 0) 17
def nodeEchoEn (a : List Nat) : Bool := bitOf (nodeWord a 0) 18
def nodeSeg (a : List Nat) : Nat := bitsOf (nodeWord a 0) 24 6
def nodeStream (a : List Nat) : Nat := bitsOf (nodeWord a 0) 0 16
def nodeIp (a : List Nat) : Nat := nodeWord a 4
def nodeMac (a : List Nat) : Nat := bitsOf (nodeWord a 6) 0 16 * 2 ^ 32 + nodeWord a 5
def nodeState (a : List Nat) : Nat := bitsOf (nodeWord a 8) 0 2
def nodeMisses (a : List Nat) : Nat := bitsOf (nodeWord a 8) 8 8
def nodeLatOk (a : List Nat) : Bool := bitOf (nodeWord a 8) 16

/-- An entry's effective latency: DECL + MEAS while LAT_OK = 1, otherwise an endpoint's own LAT (R269). -/
def nodeLatency (a : List Nat) (lat : Nat) : Nat := if nodeLatOk a then nodeWord a 10 + nodeWord a 11 else lat

/-- The engine writes a word of an entry; in A8 it owns the bytes of STATE, MISSES and LAT_OK (R266). -/
def State.writeNode (s : State) (n i v : Nat) : State := s.storeWrite emiReq (s.nodeAt n + 4 * i) (leBytes 4 v)

end Sys2Proof.Machine
end

