-- ==== Sys2Proof/Machine/Emit.lean ====
section
/-! DEFINITION. What the emission engine does with a frame: its plan at the swap, packing, launching, and its end at the apex
(R246-R253, R256-R260, R306-R309, R339, R427, R428, R475). -/
namespace Sys2Proof.Machine

/-- Values laid over a list at an index; what lies before and is not written reads `d`. -/
def overlay {α : Type} (d : α) (l : List α) (at_ : Nat) (b : List α) : List α :=
  let l := l ++ List.replicate (at_ + b.length - l.length) d
  l.take at_ ++ b ++ l.drop (at_ + b.length)

/-! ### The plan (R250, R251) -/

/-- A notice that a frame raises at most once. -/
def State.emiOnce (s : State) (x : EmiFrameSt) (code inst : Nat) (ws : List Nat) : State × EmiFrameSt :=
  let key := code * 256 + inst
  if x.raised.contains key then (s, x) else (s.raise code inst ws, { x with raised := x.raised ++ [key] })

/-- A path fault of an endpoint (R247). -/
def State.pathFault (s : State) (x : EmiFrameSt) (ept cause : Nat) : State × EmiFrameSt :=
  let s := s.count Reg.EPT_PATHERR 1
  let s := if s.flag Reg.EPT_ERR_VALID then s
    else ((s.wr Reg.EPT_ERR_INDEX ept).wr Reg.EPT_ERR_CAUSE cause).setFlag Reg.EPT_ERR_VALID true
  if x.raised.contains (0x0C01 * 256) then (s, x) else s.emiOnce x 0x0C01 0 [ept, cause]

/-- A clamp of an endpoint, sync or port (R249). -/
def EmiFrameSt.clamp (x : EmiFrameSt) (ept : Nat) : EmiFrameSt :=
  { x with clamps := x.clamps + 1, clampFirst := if x.clamps = 0 then ept else x.clampFirst, clampEpts := insertNat ept x.clampEpts }

/-- The launch instant of an offset before the apex, and whether it is clamped to F_N (R248, R249). -/
def EmiFrameSt.before (x : EmiFrameSt) (ns : Nat) : Nat × Bool :=
  if x.frame.apex < x.first + ns then (x.first, true) else (x.frame.apex - ns, false)

/-- Launch order: instant, then place at one instant (R252). -/
def insertPacket (p : PacketSt) : List PacketSt → List PacketSt
  | [] => [p]
  | q :: t => if p.launch < q.launch ∨ (p.launch = q.launch ∧ p.order < q.order) then p :: q :: t else q :: insertPacket p t

/-- A packet with its kind, and place at one instant: sync packets by segment, then data by endpoint. -/
def dataOrder (ept sub : Nat) : Nat := 256 + ept * 2 ^ 17 + sub

/-- A packet joins the plan at an offset before the apex, or at F_N. -/
def EmiFrameSt.add (x : EmiFrameSt) (p : PacketSt) : EmiFrameSt := { x with packets := insertPacket p x.packets }

/-- A packet launched at `ns` before the apex; an instant before F_N is clamped and counts (R249). -/
def EmiFrameSt.addBefore (x : EmiFrameSt) (ept ns : Nat) (p : PacketSt) : EmiFrameSt :=
  let (t, c) := x.before ns
  (if c then x.clamp ept else x).add { p with launch := t }

/-- The effective APPLY of an entry: TIMED is sent as SYNC while Antenna has no PTP time (R250). -/
def State.timedOk (s : State) : Bool :=
  s.flag Reg.ANT_STAT_MASTER ||
    (s.rd Reg.ANT_STAT_ACTIVE == 1 && (s.rd Reg.ANT_STAT_STATE == 2 || s.rd Reg.ANT_STAT_STATE == 3))

/-- An sACN endpoint joins its universe's packet, whose APPLY and latency are those of its lowest endpoint (R256). -/
def EmiFrameSt.addSacn (x : EmiFrameSt) (ept emit : Nat) (e : List Nat) : EmiFrameSt :=
  let k : PacketKind := .sacn (eptSeg e) (eptAddr e 0 16)
  if x.packets.any (fun p => p.kind == k) then
    { x with packets := x.packets.map (fun p => if p.kind = k then { p with parts := p.parts ++ [(ept, emit)] } else p) }
  else
    let p : PacketSt := { kind := k, parts := [(ept, emit)], first := 0, count := 0, apply := eptApply e, launch := x.first,
                          order := dataOrder ept 0, packed := none }
    if eptApply e = 0 then x.addBefore ept (eptLat e) p else x.add p

/-- The pixels of one DATA packet of an APT endpoint (R259). -/
def State.aptMax (s : State) (e : List Nat) (emit : Nat) : Nat :=
  8 * s.rd (Reg.EMI_SEG_PAYMAX (eptSeg e)) / (emit * (1 + eptWide e))

/-- An APT endpoint's DATA packets join its node's stream; beyond 1,023 packets it is a path fault (R247, R259). -/
def State.addApt (s : State) (x : EmiFrameSt) (ept emit : Nat) (e node : List Nat) : State × EmiFrameSt :=
  let m := s.aptMax e emit
  let d := eptAddr e 0 12
  let have_ := tblGet x.streams 0 d
  let n := (eptPixels e + m - 1) / m
  let apply := if eptApply e = 2 ∧ s.timedOk = false then 1 else eptApply e
  if 1023 < have_ + n then s.pathFault x ept 5
  else
    let lat := if eptAutolat e then nodeLatency node (eptLat e) else eptLat e
    let (t, c) := if apply = 0 then x.before lat else (x.first, false)
    let x := if c then x.clamp ept else x
    let x := { x with streams := tblSet x.streams 0 d (have_ + n) }
    (s, (List.range n).foldl (fun x i => x.add
      { kind := .apt (eptSeg e) d (have_ + i), parts := [(ept, emit)], first := i * m, count := min m (eptPixels e - i * m),
        apply := apply, launch := t, order := dataOrder ept i, packed := none }) x)

/-- A DMX endpoint joins its port's packet (R271). -/
def EmiFrameSt.addDmx (x : EmiFrameSt) (ept emit : Nat) (e : List Nat) : EmiFrameSt :=
  let k : PacketKind := .dmx (eptAddr e 0 3)
  let top := eptAddr e 16 10 + eptPixels e * emit * (1 + eptWide e) - 1
  if x.packets.any (fun p => p.kind == k) then
    { x with packets := x.packets.map (fun p =>
        if p.kind = k then { p with parts := p.parts ++ [(ept, emit)], count := max p.count top } else p) }
  else x.add { kind := k, parts := [(ept, emit)], first := 0, count := top, apply := 0, launch := x.frame.apex,
               order := dataOrder ept 0, packed := none }

/-- The slots that a Wingbeat endpoint writes: the first and the one past the last (R308). -/
def wingSlots (rows emit : Nat) (e : List Nat) : Nat × Nat :=
  let lo := eptAddr e 16 10 * rows
  (lo, lo + eptPixels e * emit)

/-- The WB_ADDR_BAD cause of a Wingbeat endpoint; 0 when it may be emitted (R308). -/
def State.wingAddrCause (s : State) (p : Nat) (rec : Option (List Nat)) (emit : Nat) (e : List Nat) : Nat :=
  match rec with
  | none => 1
  | some r =>
    if recValid r = false then 1
    else if s.flag (Reg.WNG_PROF_CFG_VALID p (recProfile r)) = false then 2
    else if 65536 < (wingSlots (s.rd (Reg.WNG_PROF_CFG_ROWS p (recProfile r))) emit e).2 then 3
    else 0

/-- A Wingbeat endpoint joins its node's list: one provisional packet per node, whose `first` and `count` hold the slot range
and whose `apply` holds LAT of its lowest endpoint until `splitWing` cuts it into DATA frames. -/
def State.addWing (s : State) (x : EmiFrameSt) (ept emit : Nat) (e : List Nat) : State × EmiFrameSt :=
  let p := eptAddr e 0 4
  let n := eptAddr e 8 8
  let (s, r) := s.readRec p n
  let c := s.wingAddrCause p r emit e
  if c ≠ 0 then (s.count (Reg.WNG_ADDRERR p) 1).emiOnce x 0x0F09 p [ept, c]
  else
    let (lo, hi) := wingSlots (s.rd (Reg.WNG_PROF_CFG_ROWS p (recProfile (r.getD [])))) emit e
    let k : PacketKind := .wing p n 0
    if x.packets.any (fun q => q.kind == k) then
      (s, { x with packets := x.packets.map (fun q => if q.kind = k then
        { q with parts := q.parts ++ [(ept, emit)], first := min q.first lo, count := max (q.first + q.count) hi - min q.first lo }
        else q) })
    else (s, x.add { kind := k, parts := [(ept, emit)], first := lo, count := hi - lo, apply := eptLat e, launch := x.first,
                     order := dataOrder n 0, packed := none })

/-- Whether the segment, DMX port or Wingbeat port of an entry is disabled (R247). -/
def State.pathOff (s : State) (e : List Nat) : Bool :=
  let p := eptPath e
  if p = 1 ∨ p = 2 then !s.flag (Reg.EMI_SEG_CTRL_ENABLE (eptSeg e))
  else if p = 3 then !s.wingOn (eptAddr e 0 4)
  else if p = 4 then !s.flag (Reg.DMX_CTRL_ENABLE (eptAddr e 0 3))
  else false

/-- One endpoint of the frame's table (R247, R250, R563): whether and how it is emitted. -/
def State.planEntry (s : State) (x : EmiFrameSt) (ept : Nat) : State × EmiFrameSt :=
  let a := x.frame.table + 64 * ept
  let s := s.touch emiReq a 64
  let e := s.entryAt a
  if s.poisonIn a 64 || !eptValid e then (s, x)
  else
    let (s, ft) := s.fixtureAt emiReq x.frame.ftab (fun j => x.frame.ftStat.getD j 0) (eptFtype e)
    if eptBad e ft (s.rd Reg.EPT_IMAGOLEN) || eptPath e == 0 || s.pathOff e then (s, x)
    else
      let (s, node) := if eptPath e = 2 then s.readNode (eptAddr e 0 12) else (s, none)
      let nodeOk := match node with | some a => nodeValid a | none => false
      let noGroup := if eptPath e = 1 then s.rd (Reg.EMI_SEG_SUNIV (eptSeg e)) == 0
        else s.rd (Reg.EMI_SEG_APT_GROUP (eptSeg e)) == 0
      let c := eptFault e ft nodeOk noGroup (!s.timedOk)
      if c ≠ 0 then s.pathFault x ept c
      else if eptPath e = 1 then (s, x.addSacn ept (eptEmit ft) e)
      else if eptPath e = 2 then s.addApt x ept (eptEmit ft) e (node.getD [])
      else if eptPath e = 3 then s.addWing x ept (eptEmit ft) e
      else (s, x.addDmx ept (eptEmit ft) e)

/-- The sync packet of a segment, where SYNC data is sent on it (R250). -/
def State.addSync (s : State) (x : EmiFrameSt) (seg : Nat) (apt : Bool) : EmiFrameSt :=
  let covers (p : PacketSt) : Bool := match p.kind with
    | .sacn g _ => g == seg && !apt && p.apply == 1
    | .apt g _ _ => g == seg && apt && p.apply == 1
    | _ => false
  match x.packets.find? covers with
  | none => x
  | some p => x.addBefore (p.parts.headD (0, 0)).1 (s.rd (Reg.EMI_SEG_SLAT seg))
      { kind := if apt then .aptSync seg else .sacnSync seg, parts := [], first := 0, count := 0, apply := 0, launch := 0,
        order := seg, packed := none }

/-- The packet duration D of a DMX port in µs (R271). -/
def State.dmxUs (s : State) (p slots : Nat) : Nat :=
  s.rd (Reg.DMX_TIMING_BREAK p) + s.rd (Reg.DMX_TIMING_MAB p) + (1 + slots) * 44

/-- DMX packets take their break instants b_N (R271, R249). -/
def State.placeDmx (s : State) (x : EmiFrameSt) : EmiFrameSt :=
  let isDmx (p : PacketSt) : Bool := match p.kind with | .dmx _ => true | _ => false
  (x.packets.filter isDmx).foldl (fun x p => match p.kind with
    | .dmx d => x.addBefore (p.parts.headD (0, 0)).1 ((s.rd (Reg.DMX_FIXLAT d) + s.dmxUs d p.count) * 1000) p
    | _ => x) { x with packets := x.packets.filter (fun p => !isDmx p) }

/-! ### Wingbeat: Lmax, HOLD and DATA frames (R306-R308) -/

/-- The port whose frames a port sends (R297). -/
def State.wingSource (s : State) (p : Nat) : Nat :=
  if s.flag (Reg.WNG_CTRL_MIRROR_EN p) then s.rd (Reg.WNG_CTRL_MIRROR p) else p

/-- L_n of the nodes of a port by its own records: node and latency (R306). -/
def State.wingLatencies (p : Nat) : List PacketSt → State → State × List (Nat × Nat)
  | [], s => (s, [])
  | q :: t, s => match q.kind with
    | .wing _ n _ =>
      let (s, r) := s.readRec p n
      let d := match r with | some r => recDelay r | none => 0
      let (s, l) := State.wingLatencies p t s
      (s, (n, d + q.apply) :: l)
    | _ => State.wingLatencies p t s

/-- Lmax_p in symbol times: the largest L_n rounded up, at most 200 µs (R306). -/
def lmaxTau (ls : List (Nat × Nat)) : Nat := min 62500 ((5 * ls.foldl (fun m l => max m l.2) 0 + 15) / 16)

/-- HOLD_n (R306). -/
def holdTau (lmax l : Nat) : Nat := (max 0 (roundDiv (16 * (lmax : Int) - 5 * l) 16)).toNat

/-- A node's DATA frames of at most 2,048 slots (R308). -/
def splitWing (p : Nat) (q : PacketSt) : List PacketSt :=
  match q.kind with
  | .wing _ n _ => (List.range ((q.count + 2047) / 2048)).map (fun k =>
      { q with kind := .wing p n k, first := q.first + 2048 * k, count := min 2048 (q.count - 2048 * k), apply := 0,
               order := dataOrder n k })
  | _ => []

/-- Whether a port trains in the frame whose swap is now (R488). -/
def State.wingTrains (s : State) (p : Nat) : Bool :=
  match s.selfCal.run with
  | some r => r.kind == 2 && r.tblock == 0x0F && r.tinst == p && !r.trained
  | none => false

/-- Whether a node has its diagnostic frame (R318), by the port that builds its DATA. -/
def State.diagDue (s : State) (p n f : Nat) : Bool :=
  let q := max 1 (2000000000 * 2 ^ 32 / max 1 s.outPeriod)
  s.flag (Reg.WNG_CTRL_DIAG_EN (s.wingSource p)) && f % q == n % q

/-- A frame without DATA passes over the DIAG of its nodes: their next DATA carries it (R318). -/
def State.oweDiags (s : State) (p f : Nat) : State :=
  s.setWing p { s.wing p with
    owed := ((List.range 256).filter (fun n => s.diagDue p n f)).foldl (fun l n => insertNat n l) (s.wing p).owed }

/-! ### What the engine reads of an endpoint (R125, R246, R251, R475) -/

/-- The bytes of an endpoint in the buffer. -/
def eptSpan (e : List Nat) (emit : Nat) : Nat := eptPixels e * emit * 2

/-- A drive value of an endpoint: value `k` counts pixels and emitters in Imago order. -/
def State.driveAt (s : State) (base : Nat) (e : List Nat) (k : Nat) : Nat := leNat (s.bytesAt (base + eptIofs e + 2 * k) 2)

/-- The words of an endpoint's entry in the frame's table. -/
def State.frameEntry (s : State) (x : EmiFrameSt) (ept : Nat) : List Nat := s.entryAt (x.frame.table + 64 * ept)

/-- Whether any drive value of a packet's endpoints is POISON, each span being read by the engine (R125). -/
def State.packetPoison (s : State) (x : EmiFrameSt) (q : PacketSt) : State × Bool :=
  q.parts.foldl (fun c p =>
    let e := c.1.frameEntry x p.1
    let a := x.base + eptIofs e
    let s := match q.kind with
      | .apt .. => c.1.touch emiReq (a + q.first * p.2 * 2) (q.count * p.2 * 2)
      | .wing _ _ k => if k = 0 then c.1.touch emiReq a (eptSpan e p.2) else c.1
      | _ => c.1.touch emiReq a (eptSpan e p.2)
    (s, c.2 || s.poisonIn a (eptSpan e p.2))) (s, false)

/-- The emitter sums that a packet's reads add to its endpoints' models (R475). -/
def State.packetSums (s : State) (x : EmiFrameSt) (q : PacketSt) : List (Nat × List Nat) :=
  q.parts.foldl (fun sums p =>
    let e := s.frameEntry x p.1
    let own := match q.kind with | .wing port _ k => port == eptAddr e 0 4 && k == 0 | _ => true
    if !(eptThmEn e && own) then sums
    else
      let (first, count) := match q.kind with | .apt .. => (q.first, q.count) | _ => (0, eptPixels e)
      let add (em : Nat) := (List.range count).foldl (fun t j => t + s.driveAt x.base e ((first + j) * p.2 + em)) 0
      let old := tblGet sums [0, 0, 0, 0] (eptThm e)
      tblSet sums [0, 0, 0, 0] (eptThm e) (old.zipIdx.map (fun v => if v.2 < p.2 then v.1 + add v.2 else v.1))) x.sums

/-- Endpoints join the emitted list in ascending order. -/
def insertEmitted (p : Nat × Nat) : List (Nat × Nat) → List (Nat × Nat)
  | [] => [p]
  | q :: t => if p.1 < q.1 then p :: q :: t else if p.1 = q.1 then q :: t else q :: insertEmitted p t

/-- The reads of a node's endpoints in a slot without DATA: they are emitted, and count in the power of their models (R428, R475)
(log 170). -/
def State.heldReads (s : State) (x : EmiFrameSt) (q : PacketSt) : State × EmiFrameSt :=
  let (s, poison) := s.packetPoison x q
  if poison then (s, x)
  else (s, { x with sums := s.packetSums x q, emitted := q.parts.foldl (fun l p => insertEmitted p l) x.emitted })

/-- A port's part in the frame (R297, R306, R318, R337, R339, R427, R488): the values it fixes, or keeps where no DATA is sent. A mirror
port follows the port whose frames it sends; of a frame that is not sent, a port that trains alone has a part. -/
def State.planWing (s : State) (nodes : List PacketSt) (noFront : Bool) (x : EmiFrameSt) (p : Nat) : State × EmiFrameSt :=
  let trains := s.wingTrains p
  if !s.wingOn p || (!trains && (!s.wingOn (s.wingSource p) || x.suppressed)) then (s, x)
  else
    let held := x.rep || x.stale || noFront || trains
    let mine := nodes.filter (fun q => match q.kind with | .wing q _ _ => q == s.wingSource p | _ => false)
    if held then
      let s := s.oweDiags p x.f
      let w := s.wing p
      let f : WingFrameSt := { port := p, lmax := w.lmax, holds := w.holds, data := false, rep := (x.rep || noFront) && !trains,
                               stale := (x.stale && !noFront) || trains, latched := false, training := trains, owed := [] }
      let s : State := if trains then
          { s with selfCal := { s.selfCal with run := s.selfCal.run.map (fun r => { r with trained := true }) } } else s
      let (s, x) := if s.wingSource p = p then mine.foldl (fun c q => c.1.heldReads c.2 q) (s, x) else (s, x)
      (s, { x with wings := x.wings ++ [f] })
    else
      let (s, ls) := State.wingLatencies p mine s
      let lmax := lmaxTau ls
      let holds := ls.map (fun l => (l.1, holdTau lmax l.2))
      let x := (ls.filter (fun l => decide (200000 < l.2))).foldl (fun x l =>
        x.clamp ((mine.find? (fun q => q.kind == .wing (s.wingSource p) l.1 0)).elim 0 (fun q => (q.parts.headD (0, 0)).1))) x
      let x := if x.frame.apex < x.first + tauNs lmax then
          x.clamp ((mine.headD { kind := .dmx 0, parts := [], first := 0, count := 0, apply := 0, launch := 0, order := 0,
                                 packed := none }).parts.headD (0, 0)).1 else x
      let s := (s.setWing p { s.wing p with lmax := lmax, holds := holds }).wr (Reg.WNG_LMAX p) (16 * lmax / 5)
      let carry (n : Nat) : Bool := ls.any (fun l => l.1 == n)
      let owed := (s.wing p).owed
      let s := s.setWing p { s.wing p with owed := owed.filter (fun n => !carry n) }
      let f : WingFrameSt := { port := p, lmax := lmax, holds := holds, data := true, rep := false, stale := false,
                               latched := false, training := false, owed := owed.filter carry }
      (s, (mine.flatMap (splitWing p)).foldl (fun x q => x.add q) { x with wings := x.wings ++ [f] })

/-- WB_FRAME_FIX and WB_TRAINING for every port (R306, R488). -/
def State.planWings (s : State) (noFront : Bool) (x : EmiFrameSt) : State × EmiFrameSt :=
  let isWing (p : PacketSt) : Bool := match p.kind with | .wing .. => true | _ => false
  let nodes := x.packets.filter isWing
  (List.range 16).foldl (fun c p => c.1.planWing nodes noFront c.2 p) (s, { x with packets := x.packets.filter (fun q => !isWing q) })

/-- A unit that is MEMBER and has a peer whose last HEARTBEAT showed READY (R427). -/
def State.readyPeer (s : State) : Bool :=
  s.rooState == 3 && (List.range 2).any (fun n => s.flag (Reg.ROO_PEER_STAT_VALID n) && bitOf (s.rd (Reg.ROO_PEER_HEALTH n)) 0)

/-- The buffer that a frame is packed from: the safe look, or the front Imago buffer (R251, R343). -/
def State.packBase (s : State) (safe : Bool) : Nat :=
  if safe then s.rd Reg.OTU_SAFE else s.imago (1 - s.rd Reg.PIX_STAT_BUF)

/-- PACK_START (R247-R251, R306, R339, R427): the plan of a frame at its swap, for a slot that starts at `swap`. -/
def State.packStart (s : State) (fr : FrameSt) (swap : Nat) : State :=
  if !s.flag Reg.EMI_CTRL_ENABLE || s.isOff 0x0D then s
  else
    let missed := fr.phase == .missed && !fr.safe
    let trans := fr.phase == .transition && !fr.safe
    let noFront := !s.otu.frontDone && !fr.safe
    let suppressed := missed && s.readyPeer
    let x : EmiFrameSt :=
      { frame := fr, f := (s.slotF + 1) % 2 ^ 32, first := swap + s.rd Reg.EMI_GUARD * 1000,
        base := s.packBase fr.safe, rep := missed, stale := trans, suppressed := suppressed, launched := false, packets := [],
        streams := [], used := 0, late := 0, raised := [], emitted := [], sums := [], clamps := 0, clampFirst := 0, clampEpts := [],
        univs := [], sent := [],
        wings := [], closed := suppressed || noFront, skew := 0 }
    let s := if suppressed then s.count Reg.ROO_SUPPRESS 1 else s
    let (s, x) :=
      if suppressed then s.planWings noFront x
      else
        let (s, x) := if noFront then (s, x) else (List.range fr.count).foldl (fun c i => c.1.planEntry c.2 i) (s, x)
        let x := (List.range 64).foldl (fun x g => s.addSync (s.addSync x g false) g true) x
        s.planWings noFront (s.placeDmx x)
    let x := { x with univs := x.packets.filterMap (fun p => match p.kind with | .sacn g u => some (g, u) | _ => none) }
    let s := if x.clamps = 0 then s
      else (s.count Reg.EMI_LATCLAMP x.clamps).raise 0x0D02 0 [x.clamps, x.clampFirst]
    s.setEmi { s.emi with frames := s.emi.frames ++ [x] }

/-! ### Packing (R251, R256, R259, R308) -/

/-- A drive value on the wire: 16 bits, high byte first, or its high byte (R246, R256). -/
def wireValue (wide v : Nat) : Bytes := if wide = 1 then beBytes 2 v else beBytes 1 (v / 256)

/-- The wire bytes of `count` pixels of an endpoint from `first`. -/
def State.wirePixels (s : State) (base : Nat) (e : List Nat) (emit first count : Nat) : Bytes :=
  (List.range (count * emit)).flatMap (fun k => wireValue (eptWide e) (s.driveAt base e (first * emit + k)))

/-- The slots that a list of endpoints writes, from the start code on; the higher endpoint wins a slot (R256, R271). -/
def State.slotBytes (s : State) (x : EmiFrameSt) (parts : List (Nat × Nat)) : Bytes :=
  parts.foldl (fun l p =>
    let e := s.frameEntry x p.1
    overlay 0 l (eptAddr e 16 10) (s.wirePixels x.base e p.2 0 (eptPixels e))) [0]

/-- ROWS of the profile that a node's record names. -/
def State.nodeRows (s : State) (p n : Nat) : Nat :=
  s.rd (Reg.WNG_PROF_CFG_ROWS p (recProfile ((List.range 8).map (fun i => s.word32At (s.wingRec p n + 4 * i)))))

/-- The drive values of the slots of a Wingbeat DATA frame (R297, R308). -/
def State.slotValues (s : State) (x : EmiFrameSt) (port : Nat) (q : PacketSt) : List Nat :=
  let all := q.parts.foldl (fun l p =>
    let e := s.frameEntry x p.1
    let lo := (wingSlots (s.nodeRows (s.wingSource port) (eptAddr e 8 8)) p.2 e).1
    let vs := (List.range (eptPixels e * p.2)).map (fun k => s.driveAt x.base e k)
    let skip := q.first - lo
    overlay 0 l (lo - q.first) (vs.drop skip)) []
  (all ++ List.replicate (q.count - all.length) 0).take q.count

/-- Two slots a word, at least four words (R294, R308). -/
def slotWords : List Nat → List Nat
  | [] => []
  | [a] => [a]
  | a :: b :: t => (a + b * 2 ^ 16) :: slotWords t

def slotPayload (vs : List Nat) : List Nat := let w := slotWords vs; w ++ List.replicate (4 - w.length) 0

/-- BAND of a node: the to-band of the model of its lowest endpoint with THM_EN = 1 (R308). -/
def State.nodeBand (s : State) (x : EmiFrameSt) (parts : List (Nat × Nat)) : Nat :=
  match parts.find? (fun p => eptThmEn (s.frameEntry x p.1)) with
  | some p => tblGet x.frame.bands 0 (eptThm (s.frameEntry x p.1))
  | none => 0

/-- PARAM of a node's DATA frame (R297, R308, R318): HOLD is the port's own, the rest that of the port that builds the frame. -/
def State.dataParam (s : State) (x : EmiFrameSt) (p n : Nat) (parts : List (Nat × Nat)) : Nat :=
  let w := x.wings.find? (fun w => w.port == p)
  let hold := match w with | some w => tblGet w.holds 0 n | none => 0
  let owed := match w with | some w => w.owed.contains n | none => false
  hold % 2 ^ 16 + s.nodeBand x parts * 2 ^ 16 + b2n (s.diagDue p n x.f || owed) * 2 ^ 18 +
    s.rd (Reg.WNG_CTRL_DIAG_DARK (s.wingSource p)) * 2 ^ 19

/-- SEQ of a numbered packet of a frame (R260, R295). -/
def frameSeq (f k : Nat) : Nat := f % 2 ^ 22 * 2 ^ 10 + k

/-- The PTP time of an instant (R250). -/
def State.ptpTime (s : State) (t : Nat) : Nat := low 64 ((t : Int) + s.phaseTarget)

/-- The bytes of a packet as it is written to the packet buffer: a frame of its segment, a DMX packet's slots, or a Wingbeat
frame. `poison` says that the node's drive values hold POISON (R125, R310). -/
def State.packetBytes (s : State) (x : EmiFrameSt) (q : PacketSt) (poison : Bool) : Bytes :=
  let flags := b2n x.rep + 2 * b2n x.stale
  match q.kind with
  | .sacn g u => s.sacnFrame g u (s.sacnData g u (if q.apply = 1 then s.rd (Reg.EMI_SEG_SUNIV g) else 0) (x.f % 256) false
      (s.slotBytes x q.parts))
  | .sacnSync g => s.sacnFrame g (s.rd (Reg.EMI_SEG_SUNIV g)) (s.sacnSync (s.rd (Reg.EMI_SEG_SUNIV g)) (x.f % 256))
  | .apt g d k =>
    let (ept, emit) := q.parts.headD (0, 1)
    let e := s.frameEntry x ept
    let a := s.entryAt (s.nodeAt d)
    let last := b2n (decide (k + 1 = tblGet x.streams 0 d))
    s.aptFrame g (nodeMac a) (nodeIp a)
      (aptPacket 1 (flags + 4 * last + 8 * b2n (q.apply == 2) + 16 * b2n (q.apply == 1)) (frameSeq x.f k) x.f
        (if q.apply = 2 then s.ptpTime x.frame.apex else 0) (nodeStream a) (emit + 8 * eptWide e)
        (eptAddr e 12 20 + q.first) q.count (s.wirePixels x.base e emit q.first q.count))
  | .aptSync g => s.aptGroupFrame g (aptPacket 2 flags (frameSeq x.f 1023) x.f 0 0xFFFF 0 0 0 [])
  | .dmx _ => s.slotBytes x q.parts
  | .wing p n k =>
    if poison then wingBytes (wingH0 1 n false true false (s.wingDir p)) 0 (frameSeq x.f k) (s.dataParam x p n q.parts) [0, 0, 0, 0]
      false
    else wingBytes (wingH0 1 n false false false (s.wingDir p)) q.first (frameSeq x.f k) (s.dataParam x p n q.parts)
      (slotPayload (s.slotValues x p q)) false

/-- The digest of a frame closes (R428): F and the bytes of the emitted endpoints in ascending index. A unit keeps its last 16. -/
def State.closeDigest (s : State) (x : EmiFrameSt) : State :=
  if s.rooState = 0 then s
  else
    let bytes := x.emitted.flatMap (fun p =>
      let e := s.frameEntry x p.1
      s.bytesAt (x.base + eptIofs e) (eptSpan e p.2))
    let d := beNat ((sha256 (leBytes 4 x.f ++ bytes)).take 8)
    { s with roo := { s.roo with digests := ((x.f, d, x.frame.apex % 2 ^ 32) :: s.roo.digests).take 16 } }

/-- Packing ends with the last packet: the digest and the sums close. -/
def State.closeFrame (s : State) (x : EmiFrameSt) : State :=
  if x.closed || x.packets.any (fun p => p.packed.isNone) then s.putEmiFrame x
  else (s.closeDigest x).putEmiFrame { x with closed := true }

/-- The packet at an index of the frame's list is taken out. -/
def EmiFrameSt.drop (x : EmiFrameSt) (q : PacketSt) : EmiFrameSt := { x with packets := x.packets.filter (fun p => p.kind != q.kind) }

/-- The launch instant of a packet, by E15 as it stands when an ARRIVAL packet is packed, and whether it is clamped then (R244, R249). -/
def State.relaunch (s : State) (x : EmiFrameSt) (q : PacketSt) : Nat × Bool :=
  let e := s.frameEntry x (q.parts.headD (0, 0)).1
  match q.kind with
  | .sacn .. => if q.apply = 0 then x.before (eptLat e) else (q.launch, false)
  | .apt _ d _ =>
    if q.apply = 0 then x.before (if eptAutolat e then nodeLatency (s.entryAt (s.nodeAt d)) (eptLat e) else eptLat e)
    else (q.launch, false)
  | _ => (q.launch, false)

/-- A packet takes its launch instant as it is packed; an endpoint clamped only now counts (R249) (log 146). -/
def State.timePacket (s : State) (x : EmiFrameSt) (q : PacketSt) : State × EmiFrameSt × PacketSt :=
  let (t, c) := s.relaunch x q
  let ept := (q.parts.headD (0, 0)).1
  let q := { q with launch := t }
  if c && !x.clampEpts.contains ept then
    let s := s.count Reg.EMI_LATCLAMP 1
    (if x.clamps = 0 then s.raise 0x0D02 0 [1, ept] else s, x.clamp ept, q)
  else (s, x, q)

/-- The half of the packet buffer that a frame's packets go to (R251). -/
def State.packHalf (s : State) (x : EmiFrameSt) : Nat := s.rd Reg.EMI_PKT_BASE + x.f % 2 * s.rd Reg.EMI_PKT_LEN

/-- A packet is packed: written to its half, or dropped where it does not fit (R251) (log 101). -/
def State.packOne (s : State) (x : EmiFrameSt) (q : PacketSt) (poison : Bool) : State × EmiFrameSt × Option PacketSt :=
  let b := s.packetBytes x q poison
  if s.rd Reg.EMI_PKT_LEN < x.used + b.length then
    let (s, x) := (s.count Reg.EMI_PKTDROP 1).emiOnce x 0x0D04 0 [1, x.used + b.length]
    (s, x.drop q, none)
  else
    let at_ := s.packHalf x + x.used
    let sums := if poison then x.sums else s.packetSums x q
    let (s, x, q) := (s.storeWrite emiReq at_ b).timePacket x q
    let q' := { q with packed := some (at_, b.length) }
    let x := x.drop q
    let x := { x.add q' with used := x.used + b.length, sums := sums,
                             emitted := if poison then x.emitted else q.parts.foldl (fun l p => insertEmitted p l) x.emitted }
    (s, x, some q')

/-! ### Launching (R250-R252) -/

/-- A packet has been launched on a DMX or Wingbeat port: EMI_SENT counts it (R284). -/
def State.packetSent (s : State) (x : EmiFrameSt) (q : PacketSt) : State := (s.countMod Reg.EMI_SENT 1).putEmiFrame (x.drop q)

/-- What a network packet of a frame counts for as it leaves (R252, R284). -/
def EmiFrameSt.tag (x : EmiFrameSt) (q : PacketSt) (express : Bool) : EmitTag :=
  { f := x.f, change := express, univ := match q.kind with | .sacn g u => some (g, u) | _ => none, counts := true }

/-- A network packet is handed to its port with its launch instant (R252). -/
def State.launchNet (s : State) (x : EmiFrameSt) (q : PacketSt) (seg : Nat) (kind : TxKind) (express : Bool) : State :=
  match q.packed with
  | none => s
  | some (a, n) =>
    let s := s.touch (25 + s.portOf (segPort s seg)) a n
    let poison := s.poisonIn a n
    (s.segSend seg kind express (some q.launch) poison (some (x.tag q express)) (s.bytesAt a n)).putEmiFrame (x.drop q)

/-- Whether a network packet is launched, and how: its segment, source and class (R250, R252, R361). -/
def PacketSt.net (q : PacketSt) : Option (Nat × TxKind × Bool) :=
  let ept := (q.parts.headD (0, 0)).1
  match q.kind with
  | .sacn g _ => some (g, .data g ept (if q.apply = 1 then 1 else 0), q.apply == 0)
  | .apt g _ _ => some (g, .data g ept (if q.apply = 1 then 2 else 0), q.apply == 0)
  | .sacnSync g => some (g, .sync g 1, true)
  | .aptSync g => some (g, .sync g 2, true)
  | _ => none

/-- Whether a sync packet still waits for data that it covers (R252). -/
def EmiFrameSt.waits (x : EmiFrameSt) (q : PacketSt) : Bool :=
  x.packets.any (fun p => p.apply == 1 && (match q.kind, p.kind with
    | .sacnSync g, .sacn h _ => g == h
    | .aptSync g, .apt h _ _ => g == h
    | _, _ => false))

/-- The next network packet of a frame that can be launched. -/
def EmiFrameSt.nextNet (x : EmiFrameSt) : Option PacketSt :=
  x.packets.find? (fun q => q.packed.isSome && q.net.isSome && !x.waits q)

/-- A packet that is packed after its launch instant is launched at once, and counts (R251) (log 106). -/
def State.packLate (s : State) (x : EmiFrameSt) (q : PacketSt) : State :=
  match q.net with
  | some (seg, kind, express) =>
    if x.launched && decide (q.launch < s.now) then
      let x := { x with late := x.late + 1 }
      let s := (s.count Reg.EMI_PACKLATE 1).putEmiFrame x
      if x.waits q then s else s.launchNet x q seg kind express
    else s
  | none => match q.kind with
    | .dmx _ => if x.launched && decide (q.launch < s.now) then
        (s.count Reg.EMI_PACKLATE 1).putEmiFrame { x with late := x.late + 1 } else s
    | _ => s

/-- What POISON makes of a packet (R125, R310, R427): a network or DMX packet is not sent; a Wingbeat node gets one frame with
REPEAT in place of its DATA, or nothing while a peer is READY. -/
def State.packPoisoned (s : State) (x : EmiFrameSt) (q : PacketSt) : State × EmiFrameSt × Option PacketSt :=
  match q.kind with
  | .wing p n k =>
    let x := { x with packets := x.packets.filter (fun r => match r.kind with
      | .wing p' n' k' => !(p' == p && n' == n && k' != k && r.packed.isNone) | _ => true) }
    if s.readyPeer then (s.count Reg.ROO_SUPPRESS 1, x.drop q, none) else s.packOne x q true
  | _ => (s, x.drop q, none)

/-- A Wingbeat DATA frame keeps the slots that its remaining endpoints write (R308, R563). -/
def State.wingRest (s : State) (x : EmiFrameSt) (p n : Nat) (q : PacketSt) : Option PacketSt :=
  let rows := s.nodeRows (s.wingSource p) n
  let spans := q.parts.map (fun r => wingSlots rows r.2 (s.frameEntry x r.1))
  let lo := max q.first (spans.foldl (fun m r => min m r.1) 65536)
  let hi := min (q.first + q.count) (spans.foldl (fun m r => max m r.2) 0)
  if hi ≤ lo then none else some { q with first := lo, count := hi - lo }

/-- The records that a packet rests on are read again as it is packed (R244, R563): an endpoint whose entry is POISON is skipped, and
nothing is sent for a node whose entry or record is, or when no endpoint remains. -/
def State.packRecords (s : State) (x : EmiFrameSt) (q : PacketSt) : State × Option PacketSt :=
  let (s, parts) := q.parts.foldl (fun c p =>
    let a := x.frame.table + 64 * p.1
    let s := c.1.touch emiReq a 64
    (s, if s.poisonIn a 64 then c.2 else c.2 ++ [p])) (s, [])
  let whole := parts == q.parts
  let q := { q with parts := parts }
  match q.kind with
  | .sacnSync _ => (s, some q)
  | .aptSync _ => (s, some q)
  | .apt _ d _ =>
    let (s, a) := s.readNode d
    (s, if parts.isEmpty || a.isNone then none else some q)
  | .wing p n _ =>
    let (s, r) := s.readRec (s.wingSource p) n
    (s, if parts.isEmpty || r.isNone then none else if whole then some q else s.wingRest x p n q)
  | _ => (s, if parts.isEmpty then none else some q)

/-- A packet whose records are good is packed, or met as its drive values are (R125). -/
def State.packValues (s : State) (x : EmiFrameSt) (q : PacketSt) : State × EmiFrameSt × Option PacketSt :=
  let (s, poison) := s.packetPoison x q
  if poison then s.packPoisoned x q else s.packOne x q false

/-- The next packet of a frame is packed. -/
def State.packNext (s : State) (x : EmiFrameSt) (q : PacketSt) : State :=
  let (s, r) := s.packRecords x q
  let (s, x, q') := match r with
    | some q => s.packValues x q
    | none => (s, x.drop q, none)
  let s := s.closeFrame x
  match q', s.emi.frames.find? (fun y => y.f == x.f) with
  | some q', some x => s.packLate x q'
  | _, _ => s

/-! ### The end of a frame (R251, R252, R475) -/

/-- Network packets that are packed and not yet launched are launched. -/
def State.launchAll : Nat → Nat → State → State
  | 0, _, s => s
  | k + 1, f, s => match s.emi.frames.find? (fun y => y.f == f) with
    | none => s
    | some x => match x.nextNet with
      | none => s
      | some q => match q.net with
        | some (seg, kind, express) => State.launchAll k f (s.launchNet x q seg kind express)
        | none => s

/-- P of a model from its sums (R475). -/
def modelPower (c : ThmClass) (sums : List Nat) : Nat :=
  (((c.pe.zip sums).foldl (fun t p => t + p.1 * p.2) 0) + 32767) / 65535

/-- The power of every model comes into force at an apex; without a frame sent it is 0 (R475). -/
def State.applyPower (s : State) (sums : List (Nat × List Nat)) (sent : Bool) : State :=
  let (s, req) := if s.flag Reg.THM_CTRL_NODE_EN then s.anyRequester else (s, 0)
  let (s, ms) := s.modelsInUse req
  ms.foldl (fun s m => s.setModelWord req m.1 1
    (if sent then modelPower (classOf m.2.2) (tblGet sums [0, 0, 0, 0] m.1) % 2 ^ 32 else 0)) s

/-- The emission of a frame ends at its apex. -/
def State.emiApex (s : State) (x : EmiFrameSt) : State :=
  let s := State.launchAll (x.packets.length + 1) x.f s
  match s.emi.frames.find? (fun y => y.f == x.f) with
  | none => s
  | some x =>
    let unsent := (x.packets.filter (fun p => p.packed.isNone)).length
    let s := if unsent = 0 then s
      else (s.count Reg.EMI_PACKLATE unsent).raise 0x0D03 0 [x.late + unsent, unsent]
    let s := if x.closed then s else s.closeDigest x
    let s := (List.range 64).foldl (fun s g => s.wr (Reg.EMI_SEG_STAT g) (x.sent.filter (fun u => u.1 == g)).length) s
    let s := (s.wr Reg.EMI_SKEW x.skew).applyPower x.sums (x.launched && !x.suppressed && !s.flag Reg.ROO_STAT_MUTED)
    s.setEmi { s.emi with frames := s.emi.frames.filter (fun y => y.f != x.f), doneF := some x.f }

/-- Stream_Terminated packets fall due for universes (R257). -/
def State.terminate (s : State) (univs : List (Nat × Nat)) : State :=
  if s.flag Reg.EMI_CTRL_TERMINATE then
    let due : List TermSt := univs.map (fun u => { seg := u.1, univ := u.2, left := 3, at_ := s.time.elapsed })
    s.setEmi { s.emi with terms := s.emi.terms ++ due }
  else s

/-- With emission disabled and no frame left in emission, the universes are terminated (R278). -/
def State.emiDrained (s : State) : State :=
  if s.flag Reg.EMI_CTRL_ENABLE || !s.emi.frames.isEmpty || s.emi.univs.isEmpty then s
  else
    let s := s.terminate s.emi.univs
    s.setEmi { s.emi with univs := [] }

end Sys2Proof.Machine
end

