-- ==== Sys2Proof/Machine/Emission.lean ====
section
/-! DEFINITION. The EMI rows: packing and launches, disable and termination, universe discovery, APT polls, replies and echoes
(R248-R257, R260, R263, R265-R269, R278, R279). -/
namespace Sys2Proof.Machine

/-! ### Packing and launching -/

/-- PACKET_PACKED (R251): at `t` the packer finishes the next packet, in ascending launch instant; it stops at A_N. -/
def execPacketPacked (t : BitVec 64) (s : State) : Answer := s.atStore (.packetPacked t) <| s.whenOn 0x0D <|
  .next (
    let s := s.until t.toNat
    match s.emi.frames.find? (fun x => decide (s.now < x.frame.apex) && x.packets.any (fun p => p.packed.isNone)) with
    | none => s
    | some x => match x.packets.find? (fun p => p.packed.isNone) with
      | none => s
      | some q => s.packNext x q)

/-- What a first launch does with segments that have been disabled (R279). -/
def State.dropSegments (s : State) (x : EmiFrameSt) : State :=
  let on (g : Nat) := s.flag (Reg.EMI_SEG_CTRL_ENABLE g)
  let s := s.terminate (s.emi.univs.filter (fun u => !on u.1))
  let s := s.setEmi { s.emi with stopping := [] }
  let keep (p : PacketSt) : Bool := match p.net with | some (g, _) => on g | none => true
  let univs := if x.suppressed then s.emi.univs.filter (fun u => on u.1) else x.univs.filter (fun u => on u.1)
  (s.setEmi { s.emi with univs := univs }).closeFrame { x with launched := true, packets := x.packets.filter keep }

/-- The nearest node of a port: address 0 from end A, the highest present address from end B (R488). -/
def State.nearestNode (s : State) (p : Nat) : State × Nat :=
  if s.wingDir p = 0 then (s, 0)
  else (List.range 256).foldl (fun a n =>
    let (t, r) := a.1.readRec p n
    (t, match r with | some r => if recValid r && recState r == 1 then n else a.2 | none => a.2)) (s, 0)

/-- Transmit training (R488): at each of the 16 settings, 64 TICK frames and a STATUS REQ to the nearest node. The line stays
busy for the length of them all; the replies are the operands of CAL_RUN_COMPLETE (log 110). -/
def State.trainPort (s : State) (p : Nat) : State :=
  if !s.wingOn p then s
  else
    let (s, n) := s.nearestNode p
    let dir := s.wingDir p
    let tick := wingBytes (wingH0 8 0 true false false dir) 0 0 0 [0, 0, 0, 0] false
    let req := wingBytes (wingH0 5 n false false false dir) 0 0 2 [0, 0, 0, 0] false
    let s := (List.range 16).foldl (fun s k =>
      let s := s.setWing p { s.wing p with setting := k }
      let s := (List.range 64).foldl (fun s _ => s.wingPut p 4 tick) s
      s.wingPut p 4 req) s
    s.setWing p { s.wing p with free := s.time.elapsed + tauNs (1040 * 45) }

/-- FIRST_LAUNCH (R127, R248, R253, R418, R488): F_N arrives, EMI_FRAME increments, a pending unmuting takes effect, and a port that
trains in the frame does so. With a die LOST the frame is not launched: F_N passes, and nothing of the frame is sent (log 145). -/
def execFirstLaunch (s : State) : Answer := s.atStore .firstLaunch <| s.whenOn 0x0E <|
  .next (match s.emi.frames.find? (fun x => !x.launched) with
    | none => s
    | some x =>
      if !s.flag Reg.EMI_CTRL_ENABLE then s
      else
        let s := (s.until x.first).wr Reg.EMI_FRAME x.f
        if s.rd Reg.STO_STAT_DIE_LOST ≠ 0 then s.setEmi { s.emi with frames := s.emi.frames.filter (fun y => y.f != x.f) }
        else
        let s : State := if s.roo.unmuteWaits then
            { s.setFlag Reg.ROO_STAT_MUTED false with roo := { s.roo with unmuteWaits := false } }
          else s
        x.wings.foldl (fun s w => if w.training then s.trainPort w.port else s) (s.dropSegments x))

/-- The instant past which no DATA frame of a port starts (R307). -/
def EmiFrameSt.cutoff (x : EmiFrameSt) (w : WingFrameSt) : Nat := x.frame.apex - tauNs w.lmax - 24000

/-- A Wingbeat DATA frame starts when its port's line is free, before the cut-off (R307, R309). -/
def State.launchWing (s : State) (x : EmiFrameSt) (w : WingFrameSt) (q : PacketSt) : State :=
  match q.packed with
  | none => s
  | some (a, n) =>
    let t := (s.untilWing w.port q.launch).wingFree w.port
    if !s.wingOn w.port || s.flag Reg.ROO_STAT_MUTED || decide (x.cutoff w < t.wingTime w.port) then s
    else
      let s := t.touch (wingReq w.port) a n
      let b := s.bytesAt a n
      let body := b.take (n - 4)
      let b := if s.poisonIn a n then body ++ leBytes 4 (Nat.xor (crc32 body) 0xFFFFFFFF) else b
      (s.wingPut w.port ((n - 20) / 4) b).packetSent x q

/-- The next DATA packet of a Wingbeat port, in order. -/
def EmiFrameSt.nextWing (x : EmiFrameSt) (p : Nat) : Option PacketSt :=
  x.packets.find? (fun q => match q.kind with | .wing r _ _ => r == p | _ => false)

/-- PACKET_LAUNCH (R250-R252, R307): the next packed packet of the frame whose first launch has passed, at its instant. -/
def execPacketLaunch (outlet : Outlet) (s : State) : Answer := s.atStore (.packetLaunch outlet) <| s.whenOn 0x0D <|
  .next (match outlet with
    | .net => match s.emi.frames.find? (fun x => x.launched && x.nextNet.isSome) with
      | none => s
      | some x => match x.nextNet with
        | none => s
        | some q => match q.net with
          | some (seg, kind, express) => (s.until q.launch).launchNet x q seg kind express
          | none => s
    | .wing p => match s.emi.frames.find? (fun x => x.launched && (x.nextWing p.val).isSome) with
      | none => s
      | some x => match x.nextWing p.val, x.wings.find? (fun w => w.port == p.val) with
        | some q, some w => s.launchWing x w q
        | _, _ => s)

/-! ### Disable and termination -/

/-- EMI_DISABLE (R278): no further first launch; what is packed for a frame not started is discarded. -/
def State.emiDisable (s : State) : State :=
  let s := s.setFlag Reg.EMI_CTRL_ENABLE false
  (s.setEmi { s.emi with frames := s.emi.frames.filter (·.launched) }).emiDrained

def execEmiDisable (s : State) : Answer := s.byRegister 0xE0000 <| .next s.emiDisable

/-- EMI_QUIESCENT (R278): every launched frame has ended and every termination has been sent. -/
def execEmiQuiescent (s : State) : Answer := s.whenOn 0x0D <|
  .next (
    if !s.flag Reg.EMI_CTRL_ENABLE && !s.flag Reg.EMI_STAT && s.emi.frames.isEmpty && s.emi.terms.isEmpty then
      (s.setFlag Reg.EMI_STAT true).raise 0x0D08 0 []
    else s)

/-- A segment's ENABLE is written 0 (R279): until the next first launch it sends on. -/
def State.segDisable (s : State) (seg : Nat) : State :=
  let stops := s.flag (Reg.EMI_SEG_CTRL_ENABLE seg) && s.flag Reg.EMI_CTRL_ENABLE
  let s := s.setFlag (Reg.EMI_SEG_CTRL_ENABLE seg) false
  if stops then s.setEmi { s.emi with stopping := insertNat seg s.emi.stopping } else s

/-- Whether a segment sends, enabled or not yet stopped (R279). -/
def State.segLive (s : State) (seg : Nat) : Bool := s.flag (Reg.EMI_SEG_CTRL_ENABLE seg) || s.emi.stopping.contains seg

/-- SEG_DISABLE (R279): it takes effect at the next first launch. -/
def execSegDisable (seg : Fin 64) (s : State) : Answer := s.byRegister (0xE1000 + 0x40 * seg.val) <| .next (s.segDisable seg)

/-- TERMINATE_PACKET (R257): the packet that has been due longest; its sequence number continues from F (log 23). -/
def execTerminatePacket (s : State) : Answer := s.whenOn 0x0D <|
  .next (match s.emi.terms with
    | [] => s
    | t :: ts =>
      let s := s.untilElapsed t.at_
      let rest := if t.left ≤ 1 then ts else ts ++ [{ t with left := t.left - 1, at_ := s.time.elapsed + 1000000 }]
      let s := s.setEmi { s.emi with terms := rest }
      let seq := (s.rd Reg.EMI_FRAME + 4 - t.left) % 256
      s.segSend t.seg (.data t.seg 0 0) false none false none (s.sacnFrame t.seg t.univ (s.sacnData t.seg t.univ 0 seq true [0])))

/-- The pages of a universe list (R255). -/
def pagesOf : Nat → List Nat → List (List Nat)
  | 0, _ => []
  | k + 1, l => l.take 512 :: pagesOf k (l.drop 512)

/-- SACN_UDISC (R255): every 10 s each segment announces the universes it sends. -/
def execSacnUdisc (seg : Fin 64) (s : State) : Answer := s.whenOn 0x0D <|
  .next (
    if !(s.flag Reg.EMI_CTRL_UDISC && s.flag Reg.EMI_CTRL_ENABLE && s.segLive seg) then s
    else
      let s := s.untilElapsed (tblGet s.emi.udisc 0 seg)
      let s := s.setEmi { s.emi with udisc := tblSet s.emi.udisc 0 seg (s.time.elapsed + 10000000000) }
      let us := (s.emi.univs.filter (fun u => u.1 == seg.val)).foldl (fun l u => insertNat u.2 l) []
      let pages := pagesOf (max 1 ((us.length + 511) / 512)) us
      pages.zipIdx.foldl (fun s p => s.segSend seg (.data seg 0 0) false none false none
        (s.sacnFrame seg 64214 (s.sacnDiscovery p.2 (pages.length - 1) p.1))) s)

/-! ### APT discovery and latency -/

def pollIdle : PollSt := { polls := 0, echoes := 0, next := none, replied := [] }

def State.pollOf (s : State) (seg : Nat) : PollSt := tblGet s.emi.polls pollIdle seg

def State.setPoll (s : State) (seg : Nat) (p : PollSt) : State :=
  s.setEmi { s.emi with polls := tblSet s.emi.polls pollIdle seg p }

/-- A node entry without a reply in a round (R267): at 3 misses a present one is absent, and NODE_LOST is raised. -/
def State.nodeMiss (s : State) (n : Nat) (a : List Nat) : State :=
  let m := min 255 (nodeMisses a + 1)
  if 3 ≤ m ∧ nodeState a = 1 then (s.writeNode n 8 (2 + m * 2 ^ 8)).raise 0x0D07 0 [n]
  else s.writeNode n 8 (withBits (nodeWord a 8) 8 8 m)

/-- The end of a poll round (R267). -/
def State.endRound (s : State) (seg : Nat) : State :=
  (List.range 4096).foldl (fun s n =>
    let (s, a) := s.readNode n
    match a with
    | some a => if nodeValid a && nodeSeg a == seg && !(s.pollOf seg).replied.contains n then s.nodeMiss n a else s
    | none => s) s

/-- APT_POLL (R260, R267): the previous round ends and the next POLL goes to the segment's group. -/
def execAptPoll (seg : Fin 64) (s : State) : Answer := s.atStore (.aptPoll seg) <| s.whenOn 0x0D <|
  .next (
    let every := s.rd (Reg.EMI_SEG_POLL seg)
    if !(s.flag Reg.EMI_CTRL_ENABLE && s.segLive seg) || every == 0 ||
        s.rd (Reg.EMI_SEG_APT_GROUP seg) == 0 then s
    else
      let s := s.untilElapsed ((s.pollOf seg).next.getD 0)
      let s := if (s.pollOf seg).polls = 0 then s else s.endRound seg
      let p := s.pollOf seg
      let s := s.setPoll seg { p with polls := p.polls + 1, next := some (s.time.elapsed + every * 1000000), replied := [] }
      s.segSend seg .poll false none false none
        (s.aptGroupFrame seg (aptPacket 3 0 (p.polls % 2 ^ 32) (s.rd Reg.EMI_FRAME) 0 0xFFFF 0 0 0 [])))

/-- How a received APT payload is met (R263): ignored, dropped and counted, or used. -/
inductive AptCheck where
  | ignored | bad | ok
  deriving DecidableEq, Repr

def aptField (b : Bytes) (at_ n : Nat) : Nat := beNat ((b.drop at_).take n)

def aptCheck (b : Bytes) (type least : Nat) : AptCheck :=
  if b.length < 32 ∨ aptField b 0 2 ≠ 0x4150 then .ignored
  else if aptField b 2 1 ≠ 0x10 + type ∨ aptField b 30 2 ≠ b.length - 32 ∨ b.length < 32 + least then .bad
  else .ok

/-- The entries that a REPLY matches (R267). -/
def State.replyMatches (s : State) (seg ip stream eui : Nat) : List Nat :=
  (List.range 4096).filter (fun n =>
    let a := s.entryAt (s.nodeAt n)
    nodeValid a && !s.poisonIn (s.nodeAt n) 64 && nodeSeg a == seg && nodeStream a == stream &&
      (if nodeBind a then nodeWord a 2 + nodeWord a 3 * 2 ^ 32 == eui else nodeIp a == ip))

/-- A REPLY updates an entry that it matches (R265-R267). -/
def State.nodeReply (s : State) (n ip mac pixels caps decl : Nat) : State :=
  let a := s.entryAt (s.nodeAt n)
  let s := if nodeBind a then
      ((s.writeNode n 4 ip).writeNode n 5 mac).storeWrite emiReq (s.nodeAt n + 24) (leBytes 2 (mac / 2 ^ 32))
    else s
  let s := s.writeNode n 8 (withBits (withBits (nodeWord a 8) 0 2 1) 8 8 0)
  let s := ((s.writeNode n 9 (pixels % 2 ^ 24 + caps % 2 ^ 8 * 2 ^ 24)).writeNode n 10 decl).writeNode n 12 s.now32
  if nodeState a = 1 then s else s.raise 0x0D06 0 [n, nodeIp (s.entryAt (s.nodeAt n))]

/-- APT_REPLY_RX (R263, R265, R267): `data` is the UDP payload of a REPLY from `ip` and `mac` on a segment. -/
def execAptReplyRx (seg : Fin 64) (ip : BitVec 32) (mac : BitVec 48) (data : Bytes) (s : State) : Answer :=
  s.atStore (.aptReplyRx seg ip mac data) <| s.whenOn 0x0D <|
  .next (match aptCheck data 4 20 with
    | .ignored => s
    | .bad => s.count Reg.EMI_APT_RXBAD 1
    | .ok =>
      let p := s.pollOf seg
      if p.polls = 0 ∨ aptField data 4 4 ≠ (p.polls - 1) % 2 ^ 32 then s
      else
        let eui := aptField data 32 8
        let stream := aptField data 20 2
        let s := (List.range 4096).foldl (fun s n => s.touch emiReq (s.nodeAt n) 64) s
        let ms := s.replyMatches seg ip.toNat stream eui
        if ms.isEmpty then
          (if s.flag Reg.EMI_CTRL_NEW_EN then
            s.raise 0x0D05 seg.val [eui % 2 ^ 32, eui / 2 ^ 32, ip.toNat, stream] else s)
        else
          ms.foldl (fun s n => s.nodeReply n ip.toNat mac.toNat (aptField data 40 4) (aptField data 48 2) (aptField data 44 4))
            (s.setPoll seg { p with replied := ms.foldl (fun l n => insertNat n l) p.replied }))

/-- APT_ECHO_REQ (R260, R268): a present entry with ECHO_EN = 1 is sent one ECHO_REQ per EMI_ECHO ms. -/
def execAptEchoReq (node : BitVec 12) (s : State) : Answer := s.atStore (.aptEchoReq node) <| s.whenOn 0x0D <|
  .next (
    let n := node.toNat
    let (s', a) := s.readNode n
    match a with
    | none => s'
    | some a =>
      let seg := nodeSeg a
      if !(s.flag Reg.EMI_CTRL_ENABLE && s.segLive seg && nodeValid a && nodeEchoEn a &&
          nodeState a == 1) then s'
      else
        let s := s'.untilElapsed (tblGet s'.emi.nextEcho 0 n)
        let p := s.pollOf seg
        let seq := p.echoes % 2 ^ 32
        let s := s.setPoll seg { p with echoes := p.echoes + 1 }
        let s := s.setEmi { s.emi with
          echoes := s.emi.echoes.filter (fun e => e.node != n) ++ [{ seg := seg, seq := seq, node := n, sentA := none, sentB := none }],
          nextEcho := tblSet s.emi.nextEcho 0 n (s.time.elapsed + s.rd Reg.EMI_ECHO * 1000000) }
        s.segSend seg (.echo seg seq) false none false none (s.aptFrame seg (nodeMac a) (nodeIp a)
          (aptPacket 5 0 seq (s.rd Reg.EMI_FRAME) 0 (nodeStream a) 0 0 0 [])))

/-- A latency sample loads or filters MEAS (R269) (log 102). -/
def filteredMeas (ok : Bool) (meas sample : Int) : Int := if ok then meas + (sample - meas) / 8 else sample

/-- APT_ECHO_RSP_RX (R263, R265, R268, R269, R375): `data` is the UDP payload; `lanB` says that the response's first copy came on LAN B of
a pair, and `t4` is the MAC's timestamp of its arrival. t1 is the request's timestamp on that LAN; without one nothing is measured. -/
def execAptEchoRspRx (seg : Fin 64) (data : Bytes) (lanB : Bool) (t4 : BitVec 64) (s : State) : Answer :=
  s.atStore (.aptEchoRspRx seg data lanB t4) <| s.whenOn 0x0D <|
  .next (match aptCheck data 6 0 with
    | .ignored => s
    | .bad => s.count Reg.EMI_APT_RXBAD 1
    | .ok => match s.emi.echoes.find? (fun e => e.seg == seg.val && e.seq == aptField data 4 4) with
      | none => s
      | some e =>
        let s := s.setEmi { s.emi with echoes := s.emi.echoes.filter (fun y => y != e) }
        let r := aptField data 12 8
        let (s, a) := s.readNode e.node
        match a, if lanB then e.sentB else e.sentA with
        | some a, some t1 =>
          let d := t4.toNat - t1
          if !nodeValid a || decide (10000000 < d) || decide (d ≤ r) then s
          else
            let m := filteredMeas (nodeLatOk a) (nodeWord a 11) ((d - r) / 2 : Nat)
            (s.writeNode e.node 11 (low 32 m)).writeNode e.node 8 (withBits (nodeWord a 8) 16 1 1)
        | _, _ => s)

end Sys2Proof.Machine
end

