-- ==== Sys2Proof/Machine/Dmx.lean ====
section
/-! DEFINITION. The DMX512-A and RDM ports: breaks, RDM transactions, discovery and disable (R270-R277, R280, R282). -/
namespace Sys2Proof.Machine

/-- DMX_DE takes a level (R280, R549). -/
def State.driveDmx (s : State) (p : Nat) (on : Bool) : State :=
  if (s.dmx p).driven = on then s else (s.setDmx p { s.dmx p with driven := on }).emit (.pin "DMX_DE" p on)

/-! ### The packet of a frame (R271, R272) -/

/-- The DMX packet of a port in the frame whose first launch has passed. -/
def State.dmxPacket (s : State) (p : Nat) : Option (EmiFrameSt × PacketSt) :=
  s.emi.frames.findSome? (fun x =>
    if x.launched then (x.packets.find? (fun q => q.kind == .dmx p && q.packed.isSome)).map (fun q => (x, q)) else none)

/-- A break starts, and the slots follow; the line is taken for the packet and the padding to 1,204 µs (R270). -/
def State.dmxSend (s : State) (p : Nat) (slots : Bytes) : State :=
  let dur := max (s.dmxUs p (slots.length - 1)) 1204
  let s := (s.driveDmx p true).emit (.dmx p (s.rd (Reg.DMX_TIMING_BREAK p)) (s.rd (Reg.DMX_TIMING_MAB p)) slots)
  (s.wr (Reg.DMX_STAT_SLOTS p) (slots.length - 1)).setDmx p
    { s.dmx p with free := s.now + dur * 1000, lastBreak := some s.now }

/-- DMX_BREAK (R252, R271-R273): at b_N the frame's packet is sent; a busy port, or one that makes a gap for RDM, skips it. `idle` is
when the line falls idle, where a response is still arriving. -/
def execDmxBreak (p : Fin 8) (idle : Option (BitVec 64)) (s : State) : Answer := s.atStore (.dmxBreak p idle) <| s.whenOn 0x14 <|
  .next (match s.dmxPacket p.val with
    | none => s
    | some (x, q) => match q.packed with
      | none => s
      | some (a, n) =>
        let s := s.until q.launch
        let d := s.dmx p
        let skip := (s.putEmiFrame (x.drop q)).count (Reg.DMX_SKIP p) 1
        if s.flag Reg.ROO_STAT_MUTED || !s.flag (Reg.DMX_CTRL_ENABLE p) then s.putEmiFrame (x.drop q)
        else if d.skip then skip.setDmx p { d with skip := false }
        else
          let late := match idle, d.waits with | some t, some _ => some t.toNat | _, _ => none
          if late.isNone && (d.waits.isSome || decide (s.now < d.free)) then skip
          else
            let s := match late with | some t => (s.until t).count (Reg.DMX_LATEBRK p) 1 | none => s
            let s := s.touch emiReq a n
            if s.poisonIn a n then s.putEmiFrame (x.drop q)
            else
              (s.dmxSend p (s.bytesAt a n)).packetSent { x with skew := max x.skew (s.now - q.launch) } q)

/-! ### RDM messages -/

/-- The 16-bit checksum of an RDM message. -/
def rdmSum (b : Bytes) : Nat := b.foldl (fun t x => t + x.toNat) 0 % 65536

/-- A request as it is sent, its checksum appended (R274). -/
def rdmWire (b : Bytes) : Bytes := b ++ beBytes 2 (rdmSum b)

def byteNat (b : Bytes) (i : Nat) : Nat := (b.getD i 0).toNat

/-- Whether a destination UID is a broadcast: no response is awaited. -/
def rdmBroadcast (b : Bytes) : Bool := beNat ((b.drop 5).take 4) == 0xFFFFFFFF

/-- A discovery message of the port's own (log 25): DISC_UNIQUE_BRANCH 1, DISC_MUTE 2, DISC_UN_MUTE 3. -/
def discMessage (p tn dest pid : Nat) (data : Bytes) : Bytes :=
  beBytes 1 0xCC ++ beBytes 1 1 ++ beBytes 1 (24 + data.length) ++ beBytes 6 dest ++ beBytes 6 Config.rdmUid.toNat ++
    beBytes 1 tn ++ beBytes 1 (p + 1) ++ beBytes 1 0 ++ beBytes 2 0 ++ beBytes 1 0x10 ++ beBytes 2 pid ++
    beBytes 1 data.length ++ data

/-- The duration of a request in µs, checksum included (R273). -/
def State.rdmUs (s : State) (p len : Nat) : Nat :=
  s.rd (Reg.DMX_TIMING_BREAK p) + s.rd (Reg.DMX_TIMING_MAB p) + (len + 2) * 44

/-- The next break of a port (R271): of a frame in emission, or of one with a fixed apex, taken with S of the last packet (log 104). -/
def State.nextBreak (s : State) (p : Nat) : Option Nat :=
  let planned := s.emi.frames.filterMap (fun x => (x.packets.find? (fun q => q.kind == .dmx p)).map (·.launch))
  let span := (s.rd (Reg.DMX_FIXLAT p) + s.dmxUs p (s.rd (Reg.DMX_STAT_SLOTS p))) * 1000
  let coming := if (s.dmx p).lastBreak.isNone then [] else
    (s.otu.frames.filter (fun f => f.phase == .compositing || f.phase == .complete || f.phase == .held)).map (fun f => f.apex - span)
  match (planned ++ coming).filter (fun t => decide (s.now < t)) with
  | [] => none
  | t :: ts => some (ts.foldl min t)

/-- Whether a request of a length may start (R273). -/
def State.rdmGap (s : State) (p len : Nat) : Bool :=
  let d := s.dmx p
  d.waits.isNone && decide (d.free ≤ s.now) &&
    (match s.nextBreak p with
     | some b => decide (s.now + (s.rdmUs p len + s.rd (Reg.DMX_RDMT_RDMWIN p)) * 1000 ≤ b)
     | none => true)

/-- A request leaves and the driver is released; a response is awaited for 2,800 µs after its last slot, unless it is a broadcast
(R270, R549) (log 147). -/
def State.rdmSend (s : State) (p : Nat) (b : Bytes) (w : Option DmxWait) : State :=
  let s := (s.driveDmx p true).emit (.dmx p (s.rd (Reg.DMX_TIMING_BREAK p)) (s.rd (Reg.DMX_TIMING_MAB p)) (rdmWire b))
  let fin := s.now + s.rdmUs p b.length * 1000
  (s.driveDmx p false).setDmx p
    { (s.driveDmx p false).dmx p with free := fin, waits := w, waitUntil := fin + 2800000 }

/-! ### The UID table (R276) -/

/-- The address of an entry. -/
def State.uidAddr (s : State) (p i : Nat) : Nat := s.rd (Reg.DMX_UIDBASE p) + 8 * i

/-- An entry's word; one that is POISON holds no UID (R125). -/
def State.uidAt (s : State) (p i : Nat) : Nat := if s.poisoned (s.uidAddr p i) then 0 else leNat (s.bytesAt (s.uidAddr p i) 8)

/-- The table is read, by a requester that is open (R119, R123, R132) (log 105). -/
def State.readUids (s : State) (p : Nat) : State :=
  if s.rd (Reg.DMX_UIDCOUNT p) = 0 then s
  else
    let (s, req) := s.anyRequester
    s.touch req (s.uidAddr p 0) (8 * s.rd (Reg.DMX_UIDCOUNT p))

/-- Which requester reads and writes a UID table: the spec's list names none (R132; log 2) (log 105). -/
def State.setUid (s : State) (p i v : Nat) : State :=
  let (s, req) := s.anyRequester
  s.storeWrite req (s.uidAddr p i) (leBytes 8 v)

/-- The entry of a UID. -/
def State.findUid (s : State) (p uid : Nat) : Option Nat :=
  (List.range (s.rd (Reg.DMX_UIDCOUNT p))).find? (fun i => bitsOf (s.uidAt p i) 0 48 == uid)

/-- The UIDs that the table holds as PRESENT. -/
def State.presentUids (s : State) (p : Nat) : List Nat :=
  ((List.range (s.rd (Reg.DMX_UIDCOUNT p))).map (s.uidAt p)).filterMap (fun v => if bitOf v 48 then some (bitsOf v 0 48) else none)

def uidWords (uid : Nat) : List Nat := [uid % 2 ^ 32, uid / 2 ^ 32]

/-- A UID has answered its mute: it is stored or refreshed, and the answer says whether it is new to the table. -/
def State.uidMuted (s : State) (p uid : Nat) : State × Bool :=
  let s := s.readUids p
  match s.findUid p uid with
  | some i =>
    let was := bitOf (s.uidAt p i) 48
    let s := s.setUid p i (uid + 2 ^ 48)
    (if was then s else s.raise 0x1401 p (uidWords uid), false)
  | none =>
    let n := s.rd (Reg.DMX_UIDCOUNT p)
    if 1024 ≤ n then ((s.setFlag (Reg.DMX_STAT_UIDFULL p) true).raise 0x1404 p (uidWords uid), false)
    else (((s.setUid p n (uid + 2 ^ 48)).wr (Reg.DMX_UIDCOUNT p) (n + 1)).raise 0x1401 p (uidWords uid), true)

/-- A UID has failed its mute: the third pass in a row clears PRESENT. -/
def State.uidFailed (s : State) (p uid : Nat) : State :=
  let s := s.readUids p
  match s.findUid p uid with
  | none => s
  | some i =>
    let v := s.uidAt p i
    let m := bitsOf v 52 4 + 1
    if bitOf v 48 = false then s
    else if 3 ≤ m then (s.setUid p i uid).raise 0x1402 p (uidWords uid)
    else s.setUid p i (withBits v 52 4 m)

/-! ### Discovery (R276) -/

/-- A pass is over: a DMX_DISCOVER completes with its counts. -/
def State.discDone (s : State) (p status : Nat) (x : DiscSt) : State :=
  let s := s.setDmx p { s.dmx p with disc := (s.dmx p).disc.drop 1 }
  match x.desc with
  | some (ring, index) => (s.readUids p).complete ring index status [x.fresh, (s.presentUids p).length]
  | none => s

/-- The pass at the head is replaced after a step: it ends when nothing is left, or when its port is being disabled (R280). -/
def State.discNext (s : State) (p : Nat) (x : DiscSt) : State :=
  let s := s.setDmx p { s.dmx p with waits := none, disc := x :: (s.dmx p).disc.drop 1 }
  if !s.flag (Reg.DMX_CTRL_ENABLE p) then s.discDone p stCancelled x
  else if x.unmute = false ∧ x.found = none ∧ x.ranges = [] ∧ x.known = [] then s.discDone p stOk x
  else s

/-- The next message of a pass: the un-mute, a mute of what was found, a branch, or a mute of a present UID. -/
def DiscSt.message (x : DiscSt) (p tn : Nat) : Bytes :=
  if x.unmute then discMessage p tn 0xFFFFFFFFFFFF 3 []
  else match x.found, x.ranges, x.known with
    | some u, _, _ => discMessage p tn u 2 []
    | none, (lo, hi) :: _, _ => discMessage p tn 0xFFFFFFFFFFFF 1 (beBytes 6 lo ++ beBytes 6 hi)
    | none, [], u :: _ => discMessage p tn u 2 []
    | none, [], [] => []

/-- A discovery step starts (R273). -/
def State.discStep (s : State) (p : Nat) (x : DiscSt) : State :=
  let tn := (s.dmx p).tn
  let m := x.message p tn
  if !s.rdmGap p m.length then s
  else
    let s := s.setDmx p { s.dmx p with tn := (tn + 1) % 256 }
    if x.unmute then (s.rdmSend p m none).discNext p { x with unmute := false }
    else s.rdmSend p m (some .disc)

/-- The bytes of a branch response after its preamble. -/
def branchBody : Nat → Bytes → Option Bytes
  | 0, _ => none
  | _ + 1, [] => none
  | k + 1, b :: t => if b = 0xFE then branchBody k t else if b = 0xAA then some t else none

/-- The UID that a branch response spells, each byte sent twice; none for a collision. -/
def branchUid (b : Bytes) : Option Nat :=
  match branchBody 8 b with
  | none => none
  | some t =>
    let pair (i : Nat) := Nat.land (byteNat t (2 * i)) (byteNat t (2 * i + 1))
    let uid := (List.range 6).foldl (fun v i => v * 256 + pair i) 0
    let sum := ((t.take 12).foldl (fun v x => v + x.toNat) 0) % 65536
    if t.length = 16 ∧ sum = pair 6 * 256 + pair 7 then some uid else none

/-- What an answer, or none, does to the pass. -/
def State.discAnswer (s : State) (p : Nat) (x : DiscSt) (data : Option Bytes) : State :=
  let muted (u : Nat) : Bool := match data with
    | some b => decide (26 ≤ b.length) && rdmSum (b.take (b.length - 2)) == beNat (b.drop (b.length - 2)) &&
        beNat ((b.drop 9).take 6) == u && byteNat b 20 == 0x11 && beNat ((b.drop 21).take 2) == 2
    | none => false
  match x.found, x.ranges, x.known with
  | some u, rs, _ =>
    if muted u then
      let (s, new) := s.uidMuted p u
      s.discNext p { x with found := none, fresh := x.fresh + b2n new, ranges := if x.desc.isSome then rs else rs.drop 1 }
    else (s.uidFailed p u).discNext p { x with found := none, ranges := rs.drop 1 }
  | none, (lo, hi) :: rs, _ => match data with
    | none => s.discNext p { x with ranges := rs }
    | some b => match branchUid b with
      | some u => s.discNext p { x with found := some u }
      | none =>
        let mid := (lo + hi) / 2
        if x.desc.isSome ∧ lo < hi then s.discNext p { x with ranges := (lo, mid) :: (mid + 1, hi) :: rs }
        else s.discNext p { x with ranges := rs }
  | none, [], u :: us =>
    if muted u then (s.uidMuted p u).1.discNext p { x with known := us } else (s.uidFailed p u).discNext p { x with known := us }
  | none, [], [] => s.discNext p x

/-! ### Transactions -/

/-- Whether the words, length and request of a DMX_RDM are as R274 requires. -/
def rdmParamsOk (d : Desc) (data : Bytes) : Bool :=
  let n := bitsOf (d.w 0) 0 8
  let cc := byteNat data 20
  d.reservedOk true 1 && d.len == 1024 && bitsOf (d.w 0) 12 20 == 0 && decide (24 ≤ n) && byteNat data 1 == 1 &&
    byteNat data 2 == n && (cc == 0x20 || cc == 0x30)

/-- DMX_RDM (R274): the request joins the port's queue. `data` is the host buffer. -/
def execDmxRdm (ring : Fin 64) (data : Bytes) (hostError : Bool) (s : State) : Answer :=
  .next (s.withDesc ring 0x1401 fun s d =>
    let p := s.ringInst ring
    let s := s.emit (.hostRead d.addr 512)
    if hostError then s.complete ring d.index stBadAddr []
    else if !rdmParamsOk d data then s.complete ring d.index stBadParam []
    else if !s.flag (Reg.DMX_CTRL_ENABLE p) then s.complete ring d.index stCancelled []
    else
      let r : RdmReqSt :=
        { ring := ring, index := d.index, data := data.take (bitsOf (d.w 0) 0 8), retries := bitsOf (d.w 0) 8 4, begun := false }
      let x := s.dmx p
      (s.setDmx p { x with queue := x.queue ++ [r], since := some (x.since.getD s.time.elapsed) }).setPhase ring d.index .working)

/-- The request at the head of a queue completes (R274). -/
def State.rdmDone (s : State) (p : Nat) (r : RdmReqSt) (status : Nat) (ws : List Nat) : State :=
  let x := s.dmx p
  (s.setDmx p { x with queue := x.queue.drop 1, waits := none,
                       since := if (x.queue.drop 1).isEmpty then none else some s.time.elapsed }).complete r.ring r.index status ws

/-- A transaction goes out: it waits no longer (R273). -/
def State.rdmBegin (s : State) (p : Nat) (b : Bytes) (w : Option DmxWait) : State :=
  let s := s.rdmSend p b w
  s.setDmx p { s.dmx p with since := none }

/-- The transaction at the head of the queue starts, or is sent again (R273-R275): the role counts when it starts. -/
def State.rdmStart (s : State) (p : Nat) (r : RdmReqSt) : State :=
  if !s.rdmGap p r.data.length then s
  else if byteNat r.data 20 = 0x30 ∧ r.begun = false ∧ s.holdsRoles = false then s.rdmDone p r 0x1440 []
  else if rdmBroadcast r.data then (s.rdmBegin p r.data none).rdmDone p r stOk [0, 4]
  else s.rdmBegin p r.data (some .rdm)

/-- RDM_TRANSACTION_START (R273): at `t`, the request at the head of the queue, or the next discovery step. -/
def execRdmTransactionStart (p : Fin 8) (disc : Bool) (t : BitVec 64) (s : State) : Answer :=
  s.atStore (.rdmTransactionStart p disc t) <| s.whenOn 0x14 <|
  .next (
    let s := s.until t.toNat
    if !s.flag (Reg.DMX_CTRL_ENABLE p) || s.isOff 0x14 then s
    else match disc, (s.dmx p).queue, (s.dmx p).disc with
      | false, r :: _, _ => s.rdmStart p r
      | true, _, x :: _ => s.discStep p x
      | _, _, _ => s)

/-- A failed attempt is repeated while retries are left and the port is enabled (R274, R280). -/
def State.rdmRetry (s : State) (p : Nat) (r : RdmReqSt) (result : Nat) (got : Bytes) : State :=
  if 0 < r.retries ∧ s.flag (Reg.DMX_CTRL_ENABLE p) = true then
    let x := s.dmx p
    s.setDmx p { x with waits := none, queue := { r with retries := r.retries - 1, begun := true } :: x.queue.drop 1,
                        since := some s.time.elapsed }
  else
    let s := match (s.ring r.ring).descs.find? (fun d => d.index == r.index) with
      | some d => if got.isEmpty then s else s.writeHost (d.addr + 512) got
      | none => s
    s.rdmDone p r stOk [got.length, result]

/-- RDM_RESPONSE_RX (R274, R276): a response has arrived whole at `t`. -/
def execRdmResponseRx (p : Fin 8) (data : Bytes) (framing : Bool) (t : BitVec 64) (s : State) : Answer :=
  s.atStore (.rdmResponseRx p data framing t) <| s.whenOn 0x14 <|
  .next (
    let s := s.until t.toNat
    let d := s.dmx p
    match d.waits, d.queue, d.disc with
    | some .rdm, r :: _, _ =>
      let sumOk := decide (26 ≤ data.length) && rdmSum (data.take (data.length - 2)) == beNat (data.drop (data.length - 2))
      let mine := (data.drop 9).take 6 == (r.data.drop 3).take 6 && (data.drop 3).take 6 == (r.data.drop 9).take 6 &&
        byteNat data 15 == byteNat r.data 15
      if framing then s.rdmRetry p r 3 data
      else if !sumOk then s.rdmRetry p r 2 data
      else s.rdmRetry p { r with retries := 0 } (if mine then 0 else 5) data
    | some .disc, _, x :: _ => s.discAnswer p x (some (if framing then [] else data))
    | _, _, _ => s)

/-- RDM_TIMEOUT (R274): no response within 2,800 µs of the request's last slot. -/
def execRdmTimeout (p : Fin 8) (s : State) : Answer := s.atStore (.rdmTimeout p) <| s.whenOn 0x14 <|
  .next (
    let d := s.dmx p
    match d.waits with
    | none => s
    | some w =>
      let s := (s.until d.waitUntil).count (Reg.DMX_RDMTO p) 1
      match w, d.queue, d.disc with
      | .rdm, r :: _, _ => s.rdmRetry p r 1 []
      | .disc, _, x :: _ => s.discAnswer p x none
      | _, _, _ => s)

/-- RDMWAIT_EXPIRY (R273): a transaction has waited RDMWAIT ms without a gap; the port skips its next packet. -/
def execRdmwaitExpiry (p : Fin 8) (s : State) : Answer := s.whenOn 0x14 <|
  .next (match (s.dmx p).since with
    | none => s
    | some t =>
      let s := s.untilElapsed (t + s.rd (Reg.DMX_RDMT_RDMWAIT p) * 1000000)
      s.setDmx p { s.dmx p with skip := true, since := some s.time.elapsed })

/-- A discovery pass joins the port's list. -/
def State.discQueue (s : State) (p : Nat) (x : DiscSt) : State :=
  s.setDmx p { s.dmx p with disc := (s.dmx p).disc ++ [x] }

/-- DMX_DISCOVER (R276): a full pass. -/
def execDmxDiscover (ring : Fin 64) (s : State) : Answer :=
  .next (s.withDesc ring 0x1402 fun s d =>
    let p := s.ringInst ring
    if !d.reservedOk false 0 then s.complete ring d.index stBadParam []
    else if !s.flag (Reg.DMX_CTRL_ENABLE p) then s.complete ring d.index stCancelled []
    else (s.discQueue p { desc := some (ring.val, d.index), unmute := true, known := [], ranges := [(0, 2 ^ 48 - 2)],
                          found := none, fresh := 0 }).setPhase ring d.index .working)

/-- DMX_INCREMENTAL_DISCOVERY (R276): every DISC s, one branch over the full range, then a mute of each present UID. -/
def execDmxIncrementalDiscovery (p : Fin 8) (s : State) : Answer := s.atStore (.dmxIncrementalDiscovery p) <| s.whenOn 0x14 <|
  .next (
    if !(s.flag (Reg.DMX_CTRL_ENABLE p) && s.flag (Reg.DMX_CTRL_DISC_EN p)) then s
    else
      let s := s.untilElapsed ((s.dmx p).nextDisc.getD 0)
      let s := s.setDmx p { s.dmx p with nextDisc := some (s.time.elapsed + s.rd (Reg.DMX_DISC p) * 1000000000) }
      (s.readUids p).discQueue p { desc := none, unmute := false, known := s.presentUids p, ranges := [(0, 2 ^ 48 - 2)], found := none,
                                   fresh := 0 })

/-! ### Disable (R280) -/

/-- DMX_DISABLE (R280): what is in progress finishes; the rest completes with CANCELLED. -/
def State.dmxDisable (s : State) (p : Nat) : State :=
  let s := s.setFlag (Reg.DMX_CTRL_ENABLE p) false
  let x := s.dmx p
  let keepR := if x.waits = some .rdm then 1 else 0
  let keepD := if x.waits = some .disc then 1 else 0
  let s := s.setDmx p { x with queue := x.queue.take keepR, disc := x.disc.take keepD, since := none, skip := false }
  let s := (x.queue.drop keepR).foldl (fun s r => s.complete r.ring r.index stCancelled []) s
  let s := ((x.disc.drop keepD).zipIdx).foldl (fun s d => match d.1.desc with
    | some (ring, index) =>
      if d.2 = 0 ∧ keepD = 0 then (s.readUids p).complete ring index stCancelled [d.1.fresh, (s.presentUids p).length]
      else s.complete ring index stCancelled []
    | none => s) s
  s.cancelBlock 0x14 p

def execDmxDisable (p : Fin 8) (s : State) : Answer :=
  s.atStore (.dmxDisable p) <| s.byRegister (0x1C0000 + 0x100 * p.val) <| .next (s.dmxDisable p.val)

/-- DMX_QUIESCENT (R280): the packet or transaction in progress has finished and the driver is released. -/
def execDmxQuiescent (p : Fin 8) (s : State) : Answer := s.whenOn 0x14 <|
  .next (
    if !s.flag (Reg.DMX_CTRL_ENABLE p) && !s.flag (Reg.DMX_STAT_QUIESCENT p) && (s.dmx p).waits.isNone then
      (((s.until (s.dmx p).free).driveDmx p false).setFlag (Reg.DMX_STAT_QUIESCENT p) true).raise 0x1403 p []
    else s)

end Sys2Proof.Machine
end

