-- ==== Sys2Proof/Machine/Hawk.lean ====
section
/-! DEFINITION. Hawk cores, the task scheduler and the hardware queues as their operations act (R152-R187). -/
namespace Sys2Proof.Machine

/-! ### Tasks on cores -/

/-- A core's current task ends with a STATUS (R170): its record is pushed, or waits and keeps the core from being free. -/
def State.endTask (s : State) (n status : Nat) : State :=
  let h := s.hawk n
  match h.task with
  | none => s
  | some t =>
    let s := (s.setHawk n { h with task := none }).wr64 (Reg.HWK_TASK_LO n) (Reg.HWK_TASK_HI n) 0
    if taskCqEn t.word then
      let rec_ := taskRecord t.word status n ((s.time.elapsed - t.start) / 1000) t.overrun
      let (s, waits) := s.pushRecord (taskCq t.word) rec_
      if waits then s.setHawk n { s.hawk n with record := some (taskCq t.word, rec_) } else s
    else s

/-- Whether a core can take a task (R165, R170). -/
def State.coreFree (s : State) (n : Nat) : Bool :=
  s.flag (Reg.HWK_CTRL_ENABLE n) && (s.hawk n).waits && (s.hawk n).record.isNone

/-- The permitted cores of a task word: CMASK within the enabled cores (R166). -/
def State.permitted (s : State) (w : Nat) : List Nat :=
  (List.range 8).filter (fun n => bitOf (taskMask w) n && s.flag (Reg.HWK_CTRL_ENABLE n))

/-- The sources held for a ready queue: TSK_STAT.HELD follows (R168, R186). -/
def State.syncHeld (s : State) : State :=
  let rings := (List.range 64).filterMap (fun n =>
    ((s.ring n).descs.find? (fun d => d.phase == .held && d.opcode == 0x0501)).map (fun d => bitsOf (d.w 0) 0 4))
  let cal := match s.cal.held with | some e => if e.commit then [] else [e.queue] | none => []
  let held := cal ++ rings
  ({ s with tsk := { s.tsk with heldQueues := held } } : State).setFlag Reg.TSK_STAT_HELD (!held.isEmpty)

/-- Whether a release of the calendar waits for a ready queue. -/
def State.calWaits (s : State) (k : Nat) : Bool := match s.cal.held with | some e => !e.commit && e.queue == k | none => false

/-- The first ring whose TSK_POST waits for a ready queue, with its descriptor. -/
def State.heldPost (s : State) (k : Nat) : Option (Nat × Desc) :=
  (List.range 64).findSome? (fun n =>
    ((s.ring n).descs.find? (fun d => d.phase == .held && d.opcode == 0x0501 && bitsOf (d.w 0) 0 4 == k)).map (fun d => (n, d)))

/-- Whether a ready queue has room for a new post: it is not full, and neither the calendar nor an earlier TSK_POST waits for the room
there is (R168, R169). -/
def State.readyRoom (s : State) (k : Nat) : Bool := !s.readyFull k && !s.calWaits k && (s.heldPost k).isNone

/-- A held TSK_POST lands once its ready queue has room, ring by ring; the calendar goes first (R168, R169). -/
def State.acceptPosts (s : State) (k : Nat) : State :=
  if s.readyFull k || s.calWaits k then s
  else
    match s.heldPost k with
    | none => s
    | some (n, d) =>
      let w := d.w 1 + d.w 2 * 2 ^ 32
      ((s.readyAdd k (withBits (withBits w 18 1 0) 19 1 0)).complete n d.index stOk []).syncHeld

/-- The head of a ready queue goes to a core (R166, R167). -/
def State.dispatch (s : State) (k n w : Nat) (rest : List Nat) : State :=
  let w := withBits w 19 1 1
  let s := (s.setReady k rest true).count (Reg.TSK_Q_DISPATCHED k) 1
  let s : State := { s with tsk := { s.tsk with affinity := tblSet s.tsk.affinity none (taskFunc w) (some n) } }
  let s := s.setHawk n { s.hawk n with task := some { word := w, start := s.time.elapsed, overrun := false } }
  let s := (s.wr64 (Reg.HWK_TASK_LO n) (Reg.HWK_TASK_HI n) w).count (Reg.HWK_TASKS n) 1
  (s.returnNext n w 2).acceptPosts k

/-- What R166 decides for a queue's head: cancel, a core, or nothing yet. -/
inductive HeadChoice where
  | cancel
  | core (n : Nat)
  | wait
  deriving DecidableEq, Repr

/-- The decision of R166 for the head `w` of queue `k`. -/
def State.headChoice (s : State) (k w : Nat) : HeadChoice :=
  let p := s.permitted w
  if p.isEmpty then .cancel
  else
    let lowest : HeadChoice := match p.find? (fun n => s.coreFree n) with | some n => .core n | none => .wait
    match tblGet s.tsk.affinity none (taskFunc w) with
    | some r =>
      if p.contains r then
        if s.coreFree r then .core r
        else if s.time.elapsed < tblGet s.tsk.headSince 0 k + s.rd Reg.TSK_CTRL_AFF_WIN then .wait
        else lowest
      else lowest
    | none => lowest

/-- The scheduler looks at a list of queues in order and makes at most one dispatch (R166). -/
def State.schedule (s : State) : List Nat → State
  | [] => s
  | k :: t =>
    match s.readyOn k, s.readyQueue k with
    | true, w :: rest =>
      match s.headChoice k w with
      | .cancel => (((s.setReady k rest true).cancelTask w).acceptPosts k).schedule t
      | .core n => s.dispatch k n w rest
      | .wait => s.schedule t
    | _, _ => s.schedule t

/-- Heads that no enabled core may take are cancelled (R166, R173). -/
def State.cancelBlocked (s : State) (k : Nat) : Nat → State
  | 0 => s
  | f + 1 =>
    match s.readyQueue k with
    | w :: rest =>
      if s.readyOn k && (s.permitted w).isEmpty then (((s.setReady k rest true).cancelTask w).acceptPosts k).cancelBlocked k f
      else s
    | [] => s

/-- TASK_DISPATCH (R166): queue 15 first. -/
def execTaskDispatch (s : State) : Answer := s.whenOn 0x05 <| .next (s.schedule ((List.range 16).reverse))

/-- Whether a queue's head is held for its recorded core (R166, step 3): the core is permitted and not free. -/
def State.headHeld (s : State) (k : Nat) : Bool :=
  match s.readyOn k, s.readyQueue k with
  | true, w :: _ => match tblGet s.tsk.affinity none (taskFunc w) with
    | some r => (s.permitted w).contains r && !s.coreFree r
    | none => false
  | _, _ => false

/-- AFFINITY_WINDOW_EXPIRY (R166): the window of a held head ends, and the scheduler decides anew in that cycle: the head goes to the
lowest free permitted core, unless the head of a higher queue takes the cycle's dispatch. -/
def execAffinityWindowExpiry (k : Fin 16) (s : State) : Answer := s.whenOn 0x05 <|
  .next (if s.headHeld k then
      (s.untilElapsed (tblGet s.tsk.headSince 0 k + s.rd Reg.TSK_CTRL_AFF_WIN)).schedule ((List.range 16).reverse)
    else s)

/-- A core stops: its clock and alive signal fall, and it is quiescent (R173). -/
def State.stopCore (s : State) (n : Nat) : State :=
  let s := s.setHawk n { s.hawk n with waits := false, stopBy := none }
  ((s.wr (Reg.HWK_STAT_STATE n) 0).setFlag (Reg.HWK_STAT_QUIESCENT n) true).aliveFall (16 + n)

/-- NEXT (R165): the core's task ends; the load waits for a task, or returns 0 at once when the core is being disabled or an
enabled interrupt is pending, which the core then takes. -/
def execNext (core : Fin 8) (s : State) : Answer := s.whenOn 0x04 <|
  let n := core.val
  .next (
    if s.rd (Reg.HWK_STAT_STATE n) = 0 ∨ (s.hawk n).waits then s
    else
      let s := s.endTask n 0
      if !s.flag (Reg.HWK_CTRL_ENABLE n) then (s.returnNext n 0 0).stopCore n
      else if s.interruptPending n then (s.returnNext n 0 3).takeInterrupt n
      else (s.setHawk n { s.hawk n with waits := true }).wr (Reg.HWK_STAT_STATE n) 1)

/-- CQ_RECORD_PUSH (R170): a record that waited is pushed once its queue has room, and its core becomes free. -/
def execCqRecordPush (q : Fin 32) (s : State) : Answer := s.whenOn 0x04 <| .next (s.landRecord q)

/-! ### The control page -/

/-- POSTRES (R154): the result of the last post, then 0. -/
def execPostres (core : Fin 8) (s : State) : Answer := s.whenOn 0x04 <|
  let h := s.hawk core
  .next ((s.setHawk core { h with postres := 0 }).emit (.coreLoad core 0x42000008 h.postres))

/-- Whether a block-window write of a core waits for one of its accesses to the store (R159). -/
def State.windowWriteHeld (s : State) (core : Fin 8) : Bool :=
  s.arb.held.any (fun e => e.2.any (fun c => match c with
    | .registerWrite (.hawk k) _ _ => k == core
    | .queuePagePush k w _ => k == core && decide (0x40000000 ≤ w.addr.toNat) && decide (w.addr.toNat < 0x40400000)
    | _ => false))

/-- PORT_FENCE (R122, R159): every later request of the core's port waits until the earlier ones are performed, as every access of a
requester does here: a port performs its requests in order, and an access that a command makes itself waits while the port holds any
(State.reach). The fence itself waits at the port, ahead of the later requests, until the earlier ones are performed and the core's
block-window writes have taken effect (log 15). -/
def execPortFence (core : Fin 8) (s : State) : Answer := s.atStore (.portFence core) <| s.whenOn 0x04 <|
  let r := 16 + core.val
  .next (if !(s.port r).isEmpty || s.midBurst r || s.windowWriteHeld core then s.mustWait r 0 else s)

/-- CMO_BASE (R154): the base of the next cache operation, unchecked. -/
def execCmoBase (core : Fin 8) (v : BitVec 64) (s : State) : Answer := s.whenOn 0x04 <|
  .next (s.setHawk core { s.hawk core with cmoBase := v.toNat })

/-- Whether a cache operation's base and length are those R154 allows. -/
def cmoOk (base len : Nat) : Bool :=
  decide (base % 64 = 0) && decide (len % 64 = 0) && decide (64 ≤ len) && decide (len ≤ 2 ^ 21) &&
    decide (base + len ≤ storeSize)

/-- CLEAN (R154): write-back of the dirty lines; a bad base or length is a store access fault. -/
def execClean (core : Fin 8) (len : BitVec 64) (dirty : List (BitVec 29 × Bytes)) (s : State) : Answer :=
  s.atStore (.clean core len dirty) <| s.whenOn 0x04 <|
  let base := (s.hawk core).cmoBase
  .next (if cmoOk base len.toNat then (s.dirtyLines core base len.toNat dirty).cleanRange core base len.toNat
    else s.hawkFault core 7 0x42000020)

/-- FLUSH (R154): as CLEAN, then the lines are invalidated. -/
def execFlush (core : Fin 8) (len : BitVec 64) (dirty : List (BitVec 29 × Bytes)) (s : State) : Answer :=
  s.atStore (.flush core len dirty) <| s.whenOn 0x04 <|
  let base := (s.hawk core).cmoBase
  .next (if cmoOk base len.toNat then
      ((s.dirtyLines core base len.toNat dirty).cleanRange core base len.toNat).dropRange base len.toNat
    else s.hawkFault core 7 0x42000028)

/-- INVAL (R154): the lines are invalidated without writing back. -/
def execInval (core : Fin 8) (len : BitVec 64) (s : State) : Answer := s.whenOn 0x04 <|
  let base := (s.hawk core).cmoBase
  .next (if cmoOk base len.toNat then s.dropRange base len.toNat else s.hawkFault core 7 0x42000030)

/-- IPI (R154, R156, R165): MSIP is set on each core of the mask. -/
def execIpi (_core : Fin 8) (mask : BitVec 8) (s : State) : Answer := s.whenOn 0x04 <|
  .next (((List.range 8).foldl (fun s n =>
    if bitOf mask.toNat n then s.setHawk n { s.hawk n with msip := true } else s) s).wakeNext)

/-- MTIMECMP_WRITE (R154, R155, R165): MTIP is set while time is at or past the value. -/
def execMtimecmpWrite (core : Fin 8) (v : BitVec 64) (s : State) : Answer := s.whenOn 0x04 <|
  .next (s.setHawk core { s.hawk core with mtimecmp := v.toNat, mtip := decide (v.toNat ≤ s.now) }).wakeNext

/-- MTIP_EXPIRY (R155): extended device time reaches MTIMECMP. -/
def execMtipExpiry (core : Fin 8) (s : State) : Answer := s.whenOn 0x04 <|
  let t := (s.hawk core).mtimecmp
  .next (if t = 2 ^ 64 - 1 then s
    else
      let s := s.until t
      (s.setHawk core { s.hawk core with mtip := true }).wakeNext)

/-- POST_K (R164, R168, R169): the word is queued (1), refused as full (2) or invalid (3), or cancelled (4). One that is invalid and also
offered while the scheduler or its queue is disabled is refused as invalid (log 159). -/
def execPostK (core : Fin 8) (k : Fin 16) (word : BitVec 64) (s : State) : Answer := s.whenOn 0x04 <|
  let w := withBits (withBits word.toNat 18 1 0) 19 1 0
  let result (s : State) (r : Nat) := s.setHawk core { s.hawk core with postres := r }
  .next (
    if taskInvalid w then (result s 3).count Reg.TSK_INVALID 1
    else if !s.readyOn k then result s 4
    else if !s.readyRoom k then (result s 2).count Reg.TSK_REFUSED 1
    else (result s 1).readyAdd k w)

/-! ### Watchdogs, reset, enable and disable of cores -/

/-- TASK_OVERRUN (R171): the task runs past its budget; it is raised once and not stopped. -/
def execTaskOverrun (core : Fin 8) (s : State) : Answer := s.whenOn 0x04 <|
  let n := core.val
  .next (
    match (s.hawk n).task with
    | none => s
    | some t =>
      let b := taskBudget t.word
      if b = 0 ∨ t.overrun then s
      else
        let us := 2 ^ (b - 1)
        let s := s.untilElapsed (t.start + us * 1000)
        let s := s.setHawk n { s.hawk n with task := some { t with overrun := true } }
        (s.count Reg.TSK_OVERRUN 1).raise 0x0501 n [t.word % 2 ^ 32, t.word / 2 ^ 32, us])

/-- A core reset, in the order of R172. Its x, f and control registers and CMO_BASE keep their values, and MSIP is cleared, both of which
the spec leaves open (log 128). -/
def State.resetCore (s : State) (n : Nat) : State :=
  let s := s.aliveFall (16 + n)
  let s := s.setHawk n { s.hawk n with lines := [], ilines := [], waits := false, mtimecmp := 2 ^ 64 - 1, mtip := false, msip := false,
                                       postres := 0, stopBy := none, reserved := none }
  let s := s.endTask n 2
  if s.flag (Reg.HWK_CTRL_ENABLE n) then
    let s := s.setHawk n { s.hawk n with pc := s.rd64 (Reg.HWK_BOOT_LO n) (Reg.HWK_BOOT_HI n), machineMode := true }
    (s.wr (Reg.HWK_STAT_STATE n) 3).aliveRise (16 + n)
  else (s.wr (Reg.HWK_STAT_STATE n) 0).setFlag (Reg.HWK_STAT_QUIESCENT n) true

/-- HWK_WDOG (R171): a task has run for HWK_n_WDOG µs. -/
def execHwkWdog (core : Fin 8) (s : State) : Answer := s.whenOn 0x04 <|
  let n := core.val
  let us := s.rd (Reg.HWK_WDOG n)
  .next (
    match (s.hawk n).task with
    | none => s
    | some t =>
      if us = 0 then s
      else ((s.untilElapsed (t.start + us * 1000)).resetCore n).raise 0x0402 n [t.word % 2 ^ 32, t.word / 2 ^ 32])

/-- HWK_RESET (R172): a write of CTRL.RESET = 1. -/
def execHwkReset (core : Fin 8) (s : State) : Answer := s.byRegister (0x40000 + 0x1000 * core.val) <| .next (s.resetCore core)

/-- HWK_STOPMAX_EXPIRY (R173): a disabled core has not reached NEXT in time. -/
def execHwkStopmaxExpiry (core : Fin 8) (s : State) : Answer := s.whenOn 0x04 <|
  .next (
    match (s.hawk core).stopBy with
    | some t => (s.untilElapsed t).resetCore core
    | none => s)

/-- HWK_ENABLE (R170, R173): a quiescent core starts at HWK_n_BOOT; a record that waits goes on waiting. -/
def execHwkEnable (core : Fin 8) (s : State) : Answer := s.byRegister (0x40000 + 0x1000 * core.val) <|
  let n := core.val
  .next (
    if !s.flag (Reg.HWK_STAT_QUIESCENT n) || s.flag (Reg.HWK_CTRL_ENABLE n) then s
    else
      let s := (s.setFlag (Reg.HWK_CTRL_ENABLE n) true).setFlag (Reg.HWK_STAT_QUIESCENT n) false
      let s := s.setHawk n { hawkIdle with pc := s.rd64 (Reg.HWK_BOOT_LO n) (Reg.HWK_BOOT_HI n), record := (s.hawk n).record }
      (s.wr (Reg.HWK_STAT_STATE n) 3).aliveRise (16 + n))

/-- HWK_DISABLE (R173): no task is dispatched to the core; a waiting NEXT returns 0 at once; heads with no core left are
cancelled. -/
def execHwkDisable (core : Fin 8) (s : State) : Answer := s.byRegister (0x40000 + 0x1000 * core.val) <|
  let n := core.val
  .next (
    if !s.flag (Reg.HWK_CTRL_ENABLE n) then s
    else
      let s := s.setFlag (Reg.HWK_CTRL_ENABLE n) false
      let s := if (s.hawk n).waits then (s.returnNext n 0 0).stopCore n
        else s.setHawk n { s.hawk n with stopBy := some (s.time.elapsed + s.rd (Reg.HWK_STOPMAX n) * 1000) }
      (List.range 16).foldl (fun s k => s.cancelBlocked k 1024) s)

/-! ### Scheduler enable, disable and posts -/

/-- TSK_ENABLE (R174): only while quiescent. -/
def execTskEnable (s : State) : Answer := s.byRegister 0x50000 <|
  .next (if s.flag Reg.TSK_STAT_QUIESCENT && !s.flag Reg.TSK_CTRL_ENABLE then
      let s := (s.setFlag Reg.TSK_CTRL_ENABLE true).setFlag Reg.TSK_STAT_QUIESCENT false
      (List.range 16).foldl (fun s k => if s.flag (Reg.TSK_Q_CTRL k) then s.setFlag (Reg.TSK_Q_STAT_QUIESCENT k) false else s) s
    else s)

/-- The tasks waiting in a ready queue are cancelled in queue order, and held posts for it too (R108, R174). -/
def State.cancelReady (s : State) (k : Nat) : State :=
  let ws := s.readyQueue k
  let s := ws.foldl (fun s w => s.cancelTask w) (s.setReady k [] true)
  let s : State := { s with tsk := { s.tsk with
    cancelled := tblSet s.tsk.cancelled 0 k (tblGet s.tsk.cancelled 0 k + ws.length) } }
  let s := (List.range 64).foldl (fun s n =>
    match (s.ring n).descs.find? (fun d => d.phase == .held && d.opcode == 0x0501 && bitsOf (d.w 0) 0 4 == k) with
    | some d => s.complete n d.index stCancelled []
    | none => s) s
  s.syncHeld

/-- TSK_DISABLE (R174). -/
def execTskDisable (s : State) : Answer := s.byRegister 0x50000 <|
  .next (if s.flag Reg.TSK_CTRL_ENABLE then
      let s : State := { s with tsk := { s.tsk with cancelledAll := ((List.range 16).map (fun k => (s.readyQueue k).length)).sum } }
      (List.range 16).foldl (fun s k => s.cancelReady k) (s.setFlag Reg.TSK_CTRL_ENABLE false)
    else s)

/-- TSK_Q_DISABLE (R174). -/
def execTskQDisable (k : Fin 16) (s : State) : Answer := s.byRegister (0x50100 + 0x10 * k.val) <|
  .next (if s.flag (Reg.TSK_Q_CTRL k) then (s.setFlag (Reg.TSK_Q_CTRL k) false).cancelReady k else s)

/-- TSK_QUIESCENT (R174): a disabled queue is empty, or for 16 every queue is empty and every dispatched task has ended. The count is that
of the words that the disable found stored (log 129). -/
def execTskQuiescent (k : Fin 17) (s : State) : Answer := s.whenOn 0x05 <|
  let n := k.val
  .next (
    if n < 16 then
      if s.readyOn n || !(s.readyQueue n).isEmpty || s.flag (Reg.TSK_Q_STAT_QUIESCENT n) then s
      else
        let c := tblGet s.tsk.cancelled 0 n
        let s : State := { s with tsk := { s.tsk with cancelled := tblSet s.tsk.cancelled 0 n 0 } }
        (s.setFlag (Reg.TSK_Q_STAT_QUIESCENT n) true).raise 0x0502 n [c]
    else
      if s.flag Reg.TSK_CTRL_ENABLE || s.flag Reg.TSK_STAT_QUIESCENT || (List.range 16).any (fun k => !(s.readyQueue k).isEmpty) ||
          (List.range 8).any (fun c => (s.hawk c).task.isSome) then s
      else
        let c := s.tsk.cancelledAll
        let s : State := { s with tsk := { s.tsk with cancelledAll := 0 } }
        (s.setFlag Reg.TSK_STAT_QUIESCENT true).raise 0x0502 16 [c])

/-- TSK_POST (R164, R168, R169, R183): the word is queued, the descriptor waits while the queue is full, or completes with BAD_PARAM or
CANCELLED, an invalid word with BAD_PARAM in every case (log 159). -/
def execTskPost (ring : Fin 64) (s : State) : Answer :=
  .next (s.withDesc ring 0x0501 fun s d =>
    let k := bitsOf (d.w 0) 0 4
    let w := d.w 1 + d.w 2 * 2 ^ 32
    if !d.reservedOk false 3 || decide (16 ≤ d.w 0) || taskInvalid w then s.complete ring d.index stBadParam []
    else if !s.readyOn k then s.complete ring d.index stCancelled []
    else if !s.readyRoom k then (s.setPhase ring d.index .held).syncHeld
    else (s.readyAdd k (withBits (withBits w 18 1 0) 19 1 0)).complete ring d.index stOk [])

/-! ### Hardware queues -/

/-- QUE_HOST_POP (R14, R176): a host read of POP_LO pops and latches POP_HI. -/
def execQueHostPop (q : Fin 32) (s : State) : Answer :=
  let off := 0x60010 + 0x40 * q.val
  if s.isOff 0x06 then .next ((s.accessError off false true false false).emit (.readData off 0x0FF00FF0)) else
  let (s, w) := s.queuePop q
  let s : State := { s with latches := tblSet s.latches none (off + 4) (some (BitVec.ofNat 32 (w / 2 ^ 32))) }
  .next (s.emit (.readData off (w % 2 ^ 32)))

/-- QUE_HOST_PUSH (R176): a host write of PUSH_HI pushes it with the PUSH_LO written before. -/
def execQueHostPush (q : Fin 32) (hi : Word) (s : State) : Answer := s.byRegister (0x6001C + 0x40 * q.val) <|
  .next (s.queuePush q (s.rd (Reg.QUE_PUSH_LO q) + hi.toNat * 2 ^ 32))

/-- QUE_NOTICE_CLEAR (R179): NOTICE and XCNT clear together. -/
def execQueNoticeClear (q : Fin 32) (s : State) : Answer := s.byRegister (0x6000C + 0x40 * q.val) <|
  .next ((s.setFlag (Reg.QUE_STAT_NOTICE q) false).wr (Reg.QUE_STAT_XCNT q) 0)

/-- QUE_ENABLE (R181, R182): only while quiescent; queues 30 and 31 ignore it. -/
def execQueEnable (q : Fin 32) (s : State) : Answer := s.byRegister (0x60000 + 0x40 * q.val) <|
  .next (if q.val < 30 ∧ s.flag (Reg.QUE_STAT_QUIESCENT q) then
      (s.setFlag (Reg.QUE_CTRL q) true).setFlag (Reg.QUE_STAT_QUIESCENT q) false
    else s)

/-- QUE_DISABLE (R181, R182): stored words are discarded and counted, and the queue is quiescent. -/
def execQueDisable (q : Fin 32) (s : State) : Answer := s.byRegister (0x60000 + 0x40 * q.val) <|
  .next (if q.val < 30 ∧ s.flag (Reg.QUE_CTRL q) then
      let n := (s.queue q).length
      (((s.setFlag (Reg.QUE_CTRL q) false).count (Reg.QUE_DISCARD q) n).setQueue q []).setFlag (Reg.QUE_STAT_QUIESCENT q) true
    else s)

end Sys2Proof.Machine
end

