-- ==== Sys2Proof/Machine/Host.lean ====
section
/-! DEFINITION. The host interface: resets and link, configuration requests, doorbells, descriptor fetch, ring enable and
disable, vectors, NOP and DMA (R79-R116). -/
namespace Sys2Proof.Machine

/-! ### Resets, link and configuration -/

/-- Half of a free value chooses, word by word, what a stopped DMA_TO_STORE has written: old or new (R81). -/
def State.stopToStore (s : State) (a : Nat) : List Bytes → State
  | [] => s
  | w :: t =>
    let (v, s) := s.free
    (if v % 2 = 0 then s else (s.putMasked 55 a (w.map some)).moveBeats a 8).stopToStore (a + 8) t

/-- Which bytes a stopped DMA_FROM_STORE has written is free (R81). -/
def State.stopFromStore (s : State) (a : Nat) : Bytes → State
  | [] => s
  | b :: t =>
    let (v, s) := s.free
    (if v % 2 = 0 then s else s.writeHost a [b]).stopFromStore (a + 1) t

/-- The 64-bit words of a byte list. -/
def dwords : Nat → Bytes → List Bytes
  | 0, _ => []
  | k + 1, l => l.take 8 :: dwords k (l.drop 8)

/-- A DMA transfer stops where it stands, with no completion (R81) (log 97). -/
def State.stopDma (s : State) (x : DmaSt) : State :=
  if x.toStore then s.stopToStore x.store (dwords (x.data.length / 8) x.data) else s.stopFromStore x.host x.data

/-- Work that blocks have accepted from rings continues without its descriptors, which are gone (R81): nothing completes for it, and
nothing of it is written to host memory. -/
def State.forgetRings (s : State) : State :=
  let cue (e : CueEntry) : CueEntry := { e with source := none }
  let tx (f : TxFrame) : TxFrame := { f with kind := match f.kind with | .host _ i n ts => .host noRing i n ts | k => k }
  let req (q : WingReqSt) : WingReqSt := { q with query := none }
  let enum (e : WingEnumSt) : WingEnumSt := { e with ring := noRing }
  let rdm (r : RdmReqSt) : RdmReqSt := { r with ring := noRing }
  let disc (d : DiscSt) : DiscSt := { d with desc := d.desc.map (fun p => (noRing, p.2)) }
  { s with
    roo := { s.roo with entries := s.roo.entries.map cue, held := s.roo.held.map cue,
                        bulk := s.roo.bulk.map (fun b => { b with ring := noRing }) }
    macs := s.macs.map (fun p => (p.1, { p.2 with tx := p.2.tx.map tx }))
    wings := s.wings.map (fun p => (p.1, { p.2 with reqs := p.2.reqs.map req, enums := p.2.enums.map enum }))
    dmxs := s.dmxs.map (fun p => (p.1, { p.2 with queue := p.2.queue.map rdm, disc := p.2.disc.map disc }))
    selfCal := { s.selfCal with run := s.selfCal.run.map (fun r => { r with ring := if r.ring < 64 then noRing else r.ring }),
                                waiting := s.selfCal.waiting.map (fun w => { w with ring := if w.ring < 64 then noRing else w.ring }) } }

/-- A reset of the host interface alone (R81): transfers stop, rings, MSI-X table and HST registers return to their reset
values, and FLR_SEEN is set. The identity stays, and the link's fields stay while the link does (log 12). -/
def State.resetHost (s : State) (linkStays : Bool) : State :=
  let s := (s.host.dma.foldl (fun s x => s.stopDma x) s).forgetRings
  let stat := (s.word 0x10004).toNat % 256
  let id := s.word 0x10008
  let s : State := { s with regs := s.regs.filter (fun e => decide (e.1 < 0x10000) || decide (0x20000 ≤ e.1)) }
  let s := (s.setWord 0x10008 id).setWord 0x10004 (BitVec.ofNat 32 (256 + if linkStays then stat else 0))
  { s with host := { hostReset with inReset := !linkStays }, latches := s.latches.filter (fun e => e.1 / 0x10000 != 1) }

/-- FUNCTION_LEVEL_RESET (R81): the link stays up. It is a configuration request. -/
def execFunctionLevelReset (s : State) : Answer := .next (if s.host.inReset then s else s.resetHost true)

/-- HOT_RESET (R81): the host interface is held in reset until the link trains again. -/
def execHotReset (s : State) : Answer := .next (s.resetHost false)

/-- PCIE_LINK_DOWN (R81). -/
def execPcieLinkDown (s : State) : Answer := .next (s.resetHost false)

/-- Whether a link trains at a speed code and a width (R79). -/
def linkTrains (speed width : Nat) : Bool := decide (1 ≤ speed) && decide (speed ≤ 5) && [1, 2, 4, 8].contains width

/-- PCIE_LINK_UP (R79, R81, R544): training completes at a speed and width; notices that have been held are raised. At other codes no
link trains. -/
def execPcieLinkUp (speed : BitVec 3) (width : BitVec 4) (s : State) : Answer :=
  if s.pwr.held.isSome || s.isOff 0x01 || !linkTrains speed.toNat width.toNat then .next s
  else
  let s : State := { s with host := { s.host with inReset := false } }
  let s := (s.setFlag Reg.HST_STAT_LINK_UP true).wr Reg.HST_STAT_SPEED speed.toNat
  .next (s.wr Reg.HST_STAT_WIDTH width.toNat).raiseHeld

/-- Pending vectors that are no longer masked send their message (R102). -/
def State.sendPending (s : State) (vs : List Nat) : State :=
  vs.foldl (fun s v =>
    if s.busReady && s.host.msixEnable && !s.host.functionMask && !(s.vector v).masked then
      ({ s with host := { s.host with pendingBits := s.host.pendingBits.filter (· != v) } } : State).sendVector v
    else s) s

/-- CONFIGURATION_REQUEST (R79): Bus Master Enable, MSI-X Enable, Function Mask, relaxed ordering, the power state of the function, the
AER bits that it clears, and the rest of what it holds; completions that waited for D0 are written, and pending vectors that this unmasks
send their message. -/
def execConfigurationRequest (bme msixEnable functionMask relaxed : Bool) (rest : FunctionState) (s : State) : Answer :=
  if s.host.inReset then .next s
  else
    let s : State := { s with host := { s.host with bme := bme, msixEnable := msixEnable, functionMask := functionMask,
                                                    relaxed := relaxed, d3hot := rest.d3hot, control := rest.control,
                                                    aer := s.host.aer &&& ~~~rest.aerClear } }
    let s := if rest.d3hot then s else (List.range 64).foldl (fun s n => if (s.ring n).descs.isEmpty then s else s.settleRing n) s
    .next (s.sendPending s.host.pendingBits)

/-- MSIX_UNMASK (R102): a pending vector sends one message. -/
def execMsixUnmask (vec : Fin 64) (s : State) : Answer :=
  let s := s.setVector vec { s.vector vec with masked := false }
  .next (if s.host.pendingBits.contains vec.val then s.sendPending [vec.val] else s)

/-! ### Doorbells -/

/-- A dropped doorbell counts, and raises RING_ERROR for the last four cases of R86. -/
def State.dropDoorbell (s : State) (n val : Nat) (notice : Bool) : State :=
  let s := s.count (Reg.HST_RING_DBDROP n) 1
  if notice then s.raise 0x0101 n [1, val] else s

/-- Whether a doorbell value moves a command ring's tail as R86 allows. -/
def State.tailFits (s : State) (n v : Nat) : Bool :=
  let done := s.written n
  let d := (v + 2 ^ 16 - done) % 2 ^ 16
  decide (d ≤ s.ringSize n) && decide ((s.rd (Reg.HST_RING_TAIL n) + 2 ^ 16 - done) % 2 ^ 16 ≤ d)

/-- Whether a doorbell value moves a notice ring's consumed index as R86 allows. -/
def State.consumedFits (s : State) (n v : Nat) : Bool :=
  let c := (s.ring n).consumed
  decide ((v + 2 ^ 16 - c) % 2 ^ 16 ≤ (s.written n + 2 ^ 16 - c) % 2 ^ 16)

/-- COMMAND_DOORBELL (R86): the tail moves, or the doorbell is dropped and counted. It is a write to a command ring's word. A dropped
one that falls under one of the first two cases raises no RING_ERROR, whatever else it falls under (log 136). -/
def execCommandDoorbell (ring : Fin 64) (val : Word) (aligned : Bool) (s : State) : Answer :=
  let v := val.toNat
  .next (
    if !s.barsUp || s.flag (Reg.HST_RING_CFG_TYPE ring) then s
    else if !aligned || decide (2 ^ 16 ≤ v) then s.dropDoorbell ring v false
    else if !s.flag (Reg.HST_RING_CTRL ring) || !s.tailFits ring v then s.dropDoorbell ring v true
    else s.wr (Reg.HST_RING_TAIL ring) v)

/-- NOTICE_DOORBELL (R86, R99): the consumed index moves and NOTICE_LOST follows when room returns, or the doorbell is dropped
and counted. It is a write to a notice ring's word. -/
def execNoticeDoorbell (ring : Fin 64) (val : Word) (aligned : Bool) (s : State) : Answer :=
  let v := val.toNat
  .next (
    if !s.barsUp || !s.flag (Reg.HST_RING_CFG_TYPE ring) then s
    else if !aligned || decide (2 ^ 16 ≤ v) then s.dropDoorbell ring v false
    else if !s.flag (Reg.HST_RING_CTRL ring) || !s.consumedFits ring v then s.dropDoorbell ring v true
    else ((s.wr (Reg.HST_RING_TAIL ring) v).setRing ring { s.ring ring with consumed := v }).noticeLost ring)

/-! ### Descriptor fetch -/

/-- The command ring whose turn it is (R87). -/
def State.fetchRing (s : State) : Option Nat :=
  ((List.range 64).map (fun i => (s.host.turn + i) % 64)).find? (fun n => decide (0 < s.unfetched n))

/-- Descriptors read from host memory join the ring, in index order; on a ring being disabled they are cancelled (R109). -/
def State.addDescs (s : State) (n : Nat) : List (List Nat) → State
  | [] => s
  | ws :: t =>
    let r := s.ring n
    let p : DescPhase := if r.disabling then .done stCancelled 0 (s.ringBlock n) (s.ringInst n) [] else .waiting
    (s.setRing n { r with fetched := (r.fetched + 1) % 2 ^ 16,
                          descs := r.descs ++ [{ index := r.fetched, words := ws, phase := p }] }).addDescs n t

/-- The reads of `k` descriptors of a ring from an index on, each at its slot of the descriptor area (R82, R83). -/
def State.readDescs (s : State) (n i k : Nat) : State :=
  (List.range k).foldl (fun s j => s.emit (.hostRead (s.ringBase n + (i + j) % s.ringSize n * 64) 64)) s

/-- Whether a command is a register write of the host. -/
def hostWrites : Instr → Bool
  | .registerWrite .bar0 _ _ | .nodeEnSet => true
  | _ => false

/-- Whether a register write of the host waits for one of its accesses to the store (R105). -/
def State.hostWriteHeld (s : State) : Bool := s.arb.held.any (fun e => e.2.any hostWrites)

/-- DESCRIPTOR_FETCH (R82, R87, R105): one turn of the next command ring, at most 8 descriptors, whose contents the host's memory
returns as `data`; what can start starts in index order (log 5). Nothing is fetched while a BAR2 write waits to be committed, and while a
register write of the host waits to take effect the fetch waits behind it. -/
def execDescriptorFetch (data : List (List Word)) (s : State) : Answer := s.atStore (.descriptorFetch data) <|
  .next (
    if s.hostWriteHeld then s.mustWait 55 0 else
    match s.fetchRing with
    | none => s
    | some n =>
      if !s.busReady || !(s.port 55).isEmpty then s
      else
        let ds := (data.take (min 8 (s.unfetched n))).map (fun ws => (ws.map (·.toNat) ++ List.replicate 16 0).take 16)
        let s := (s.readDescs n (s.ring n).fetched ds.length).addDescs n ds
        ({ s with host := { s.host with turn := (n + 1) % 64 } } : State).settleRing n)

/-- Whether a descriptor has been accepted and not started: not yet taken up, or a receive buffer that no frame has used (R108,
R357). -/
def Desc.unstarted (d : Desc) : Bool :=
  d.phase == .waiting || ((d.phase == .started || d.phase == .working) && d.opcode == 0x1001)

/-- Whether the unit of a MAC_TX at the head of a list has all its descriptors, and every one of them has been taken up (R91, R355). -/
def unitWhole : List Desc → Bool
  | [] => false
  | d :: t => d.phase != .waiting && (!d.chain || unitWhole t)

/-- Which descriptors of a list belong to no unit that has started (R91, R108): those not taken up, and of a MAC_TX unit that is not
whole, all. `broken` says that the head belongs to such a unit. -/
def unstartedList : Bool → List Desc → List Bool
  | _, [] => []
  | broken, d :: t =>
    let b := broken || (d.opcode == 0x1002 && !unitWhole (d :: t))
    (d.unstarted || (b && d.phase == .started)) :: unstartedList (b && d.chain) t

/-- The descriptors a ring holds that have not started are cancelled (R108). -/
def State.cancelWaiting (s : State) (n : Nat) : State :=
  let r := s.ring n
  s.setRing n { r with descs := (r.descs.zip (unstartedList false r.descs)).map (fun p => if p.2 then
    { p.1 with phase := .done stCancelled 0 (s.ringBlock n) (s.ringInst n) [] } else p.1) }

/-- A descriptor whose words could not be read stands in the ring with cookie 0, cancelled (R109). -/
def blankDesc : List Nat := List.replicate 16 0

/-- A host error is reported by AER: which status bits it sets is the base specification's to say, so they are free (R79; log 130). -/
def State.reportError (s : State) : State :=
  let (v, s) := s.free
  { s with host := { s.host with aer := s.host.aer ||| BitVec.ofNat 32 v } }

/-- DESCRIPTOR_FETCH_ERROR (R111, R109): the ring stops and drains as though disabled; an error while a disable drains it
cancels the rest with cookie 0 (log 98). -/
def execDescriptorFetchError (ring : Fin 64) (s : State) : Answer :=
  let n := ring.val
  .next (
    if s.unfetched n = 0 then s
    else
      let i := (s.ring n).fetched
      let drained := (s.ring n).disabling
      let s := (s.reportError.setFlag (Reg.HST_RING_STAT_ERROR n) true).raise 0x0101 n [2, i]
      let s := s.setFlag (Reg.HST_RING_CTRL n) false
      let s := s.setRing n { s.ring n with disabling := true }
      let s := s.addDescs n (List.replicate (if drained then s.unfetched n else 1) blankDesc)
      (s.cancelWaiting n).settleRing n)

/-! ### Ring enable and disable -/

/-- RING_ENABLE (R110): a quiescent ring restarts at index 0; at any other time the write is ignored. -/
def execRingEnable (ring : Fin 64) (s : State) : Answer :=
  let n := ring.val
  .next (
    if s.flag (Reg.HST_RING_CTRL n) || !s.flag (Reg.HST_RING_STAT_QUIESCENT n) then s
    else
      let s := (s.setFlag (Reg.HST_RING_CTRL n) true).setFlag (Reg.HST_RING_STAT_QUIESCENT n) false
      ((s.wr (Reg.HST_RING_TAIL n) 0).wr (Reg.HST_RING_STAT_COMPLETED n) 0).setRing n ringIdle)

/-- RING_DISABLE (R109): fetching stops, and what has not started is cancelled; descriptors announced and not fetched are
fetched for their cookies before the ring is quiescent. -/
def execRingDisable (ring : Fin 64) (s : State) : Answer :=
  let n := ring.val
  .next (
    if !s.flag (Reg.HST_RING_CTRL n) then s
    else
      let s := s.setFlag (Reg.HST_RING_CTRL n) false
      let s := s.setRing n { s.ring n with disabling := true }
      (s.cancelWaiting n).settleRing n)

/-- Whether a ring being disabled has finished: a notice ring at once, a command ring when its completed index is its tail
(R108, R109). -/
def State.ringDrained (s : State) (n : Nat) : Bool :=
  (s.ring n).disabling &&
    (s.flag (Reg.HST_RING_CFG_TYPE n) || ((s.ring n).descs.isEmpty && decide (s.unfetched n = 0)))

/-- RING_QUIESCENT (R108): the disable finishes. -/
def execRingQuiescent (ring : Fin 64) (s : State) : Answer :=
  let n := ring.val
  .next (
    if s.ringDrained n then
      (s.setRing n { s.ring n with disabling := false }).setFlag (Reg.HST_RING_STAT_QUIESCENT n) true
    else s)

/-- The oldest unsignalled entry of a ring reaches MOD.TIME, and its vector is sent (R103). -/
def State.signalOldest (s : State) (n : Nat) : State :=
  let m := s.rd (Reg.HST_RING_MOD_TIME n)
  match (s.ring n).oldest with
  | some t => if m ≠ 0 ∧ s.flag (Reg.HST_RING_CFG_VEC_EN n) then (s.untilElapsed (t + m * 1000)).signalRing n else s
  | none => s

/-- MSIX_MOD_TIMER (R103). -/
def execMsixModTimer (ring : Fin 64) (s : State) : Answer := .next (s.signalOldest ring.val)

/-! ### The opcodes of the HST block -/

/-- NOP (R112). -/
def execNop (ring : Fin 64) (s : State) : Answer :=
  .next (s.withDesc ring 0x0100 fun s d =>
    if d.reservedOk false 0 then s.complete ring d.index stOk [0] else s.complete ring d.index stBadParam [])

/-- Whether a DMA descriptor's length and store range are those R113 allows. -/
def dmaParamsOk (d : Desc) : Bool :=
  d.reservedOk true 1 && decide (d.len % 8 = 0) && decide (8 ≤ d.len) && decide (d.len ≤ 16777216) &&
    decide (d.w 0 % 8 = 0) && decide (d.w 0 + d.len ≤ 0x20000000)

/-- Whether a DMA_TO_STORE range is one the host may write (R128, R512). -/
def State.dmaRangeOk (s : State) (a n : Nat) : Bool :=
  decide (a + n ≤ 0x1F800000) && !(s.sealedRegions.any (fun r => decide (r.1 < a + n) && decide (a < r.1 + r.2)))

/-- Whether a DMA_TO_STORE meets a range that the host may not write (R128, R512). -/
def State.dmaDenied (s : State) (d : Desc) : Bool := dmaParamsOk d && !s.dmaRangeOk (d.w 0) d.len

/-- DMA_TO_STORE (R113, R128): in D3hot nothing is read (R79). The transfer starts with what host memory returns; a host error ends it
early (R115). -/
def execDmaToStore (ring : Fin 64) (data : Bytes) (hostError : Bool) (s : State) : Answer :=
  .next (s.withDesc ring 0x0101 fun s d =>
    if !(dmaParamsOk d && s.dmaRangeOk (d.w 0) d.len) then
      (if s.dmaDenied d then s.count Reg.STO_WINDENY 1 else s).complete ring d.index stBadParam []
    else if s.host.d3hot then s
    else
      let s := s.emit (.hostRead d.addr d.len)
      let got := (data ++ List.replicate (if hostError then 0 else d.len) 0).take d.len
      let x : DmaSt := { ring := ring, index := d.index, toStore := true, host := d.addr, store := d.w 0, data := got,
                         hostError := hostError }
      { (s.setPhase ring d.index .working) with host := { (s.setPhase ring d.index .working).host with dma := s.host.dma ++ [x] } })

/-- How many bytes of a store range precede its first POISON word. -/
def State.cleanPrefix (s : State) (a : Nat) : Nat → Nat
  | 0 => 0
  | k + 1 => if s.poisoned a then 0 else 8 + s.cleanPrefix (a + 8) k

/-- DMA_FROM_STORE (R113, R115, R125, R128): the transfer reads the store, stopping before a POISON word; the Chrysalis area
reads 0. -/
def execDmaFromStore (ring : Fin 64) (s : State) : Answer :=
  .next (s.orWaits (.dmaFromStore ring) <| s.withDesc ring 0x0102 fun s d =>
    if !dmaParamsOk d then s.complete ring d.index stBadParam []
    else
      let (s, data) := (s.reach 55 (d.w 0) d.len).hostLoad 55 (d.w 0) d.len
      let clean := s.cleanPrefix (d.w 0) ((min d.len (0x1FE00000 - d.w 0)) / 8)
      let whole := clean = min d.len (0x1FE00000 - d.w 0)
      let x : DmaSt := { ring := ring, index := d.index, toStore := false, host := d.addr, store := d.w 0,
                         data := if whole then data else data.take clean, hostError := false }
      { (s.setPhase ring d.index .working) with host := { (s.setPhase ring d.index .working).host with dma := s.host.dma ++ [x] } })

/-- The time a transfer takes under HST_DMA_RATE scaled by the die throttle, in ns; with no limit and no throttle it takes none
(R114, R469). -/
def State.dmaTime (s : State) (n : Nat) : Nat :=
  let r := s.rd Reg.HST_DMA_RATE
  let dth := s.rd Reg.THM_DTH_DTH
  if r = 0 ∧ dth = 0x8000 then 0 else n * 10 * 0x8000 / ((if r = 0 then 256 else r) * dth)

/-- Whether a throttle of 0 lets no DMA byte move (R114, R469). -/
def State.dmaStopped (s : State) : Bool := s.rd Reg.THM_DTH_DTH == 0

/-- DMA_DONE (R105, R113, R125): the oldest transfer of a ring finishes; its data is committed before its completion is
written. In D3hot no data is written, and under a throttle of 0 none moves (R79, R469). -/
def execDmaDone (ring : Fin 64) (s : State) : Answer :=
  .next (s.orWaits (.dmaDone ring) <|
    match s.host.dma.find? (fun x => x.ring == ring.val) with
    | none => s
    | some x =>
      if s.host.d3hot || s.dmaStopped then s else
      let s : State := { s with host := { s.host with dma := s.host.dma.filter (fun y => y != x) } }
      let s := s.untilElapsed (s.time.elapsed + s.dmaTime x.data.length)
      if x.toStore then
        (s.storeWrite 55 x.store x.data).complete ring x.index (if x.hostError then stBadAddr else stOk) [x.data.length]
      else
        let full := match (s.ring ring).descs.find? (fun d => d.index == x.index) with
          | some d => d.len == x.data.length
          | none => true
        (s.writeHost x.host x.data).complete ring x.index (if full then stOk else 0x0240) [x.data.length])

end Sys2Proof.Machine
end

