-- ==== Sys2Proof/Machine/Mac.lean ====
section
/-! DEFINITION. The MAC and MSC rows: reception and delivery, transmission, links, preemption, PRP, disable and counters
(R348-R385). -/
namespace Sys2Proof.Machine

/-! ### Reception -/

/-- The last steps of reception (R348, R353, R359, R360, R368, R369): the oversize test, the counters of an accepted frame, the filters,
the claim, and its place in the port's own FIFO (R365). `p` received the frame; on a pair it is met as one of port `a` = 2k (log 34). -/
def State.acceptFrame (s : State) (p a : Nat) (b : Bytes) (wire time : Nat) (an : Option Nat) (prp : Bool) : State :=
  let l := b.length + 4
  if s.rd (Reg.MAC_MAXFRAME p) + 4 * tagCount b < l then s.macCount p 14 1
  else
    let s := s.macFrameCount p 0 6 b wire l
    if s.vlanDrops a b || !s.addressOk a b then s.macCount p 19 1
    else
      let claim := s.claimOf a b
      let ring := s.rd (Reg.MAC_CTRL_RXRING a)
      if claim = 0 ∧ (8 ≤ p ∨ s.flag (Reg.HST_RING_CTRL ring) = false) then s.macCount p 20 1
      else
        let at_ := if claim = 0 ∧ s.flag (Reg.MAC_CTRL_STRIP a) = true then firstTag b else none
        let tci := at_.map (fun i => beAt b (i + 2) 2)
        let data := match at_ with | some i => b.take i ++ b.drop (i + 4) | none => b
        let before := s.macFill p
        let m := s.mac p
        let f : RxFrame := { bytes := data, length := l, time := time, an := an, prp := prp, lanB := p % 2 == 1 && a != p,
                             tci := tci, claim := claim }
        (s.setMac p { m with rx := s.takeClaimed (m.rx ++ [f]) }).pauseFor p before

/-- Whether a port sends an mPacket now. -/
def State.sendsCut (s : State) (p : Nat) : Bool :=
  decide (s.time.elapsed < (s.mac p).wireUntil) && (match (s.mac p).cut with | some c => !c.suspended | none => false)

/-- The next fragment boundary of the mPacket on the wire (R362, R363). A fragment has at least 64 × (1 + ADDFRAG) bytes with its mCRC and
leaves as much as a least frame; behind it come its mCRC, a gap and the next preamble. Where it falls within what that and the bound of
(64 × (1 + ADDFRAG) + 79) byte times to the preamble leave is free; a frame that no boundary splits so ends instead (log 72). -/
def State.cutFrame (s : State) (p : Nat) : State :=
  let m := s.mac p
  match m.cut with
  | none => s
  | some c =>
    let bt := s.byteTime p
    let frag := 64 * (1 + s.rd (Reg.MAC_PREEMPT_ADDFRAG p))
    let least := max s.time.elapsed (c.began + ((frag + 20) * bt + 999) / 1000)
    let most := min (s.time.elapsed + (frag + 87) * bt / 1000) (c.began + (c.data.length - 36) * bt / 1000)
    if most < least then s
    else
      let (w, s) := s.free
      let at_ := least + w % (most - least + 1)
      let sent := min (c.data.length - 60) (max (frag - 4) ((at_ - c.began) * 1000 / bt - 24))
      let s := if c.index = 0 then s.macCount p 40 1 else s
      (s.emit (.mpacketEnd p sent)).setMac p
        { s.mac p with wireUntil := at_, cut := some { c with data := c.data.drop sent, index := c.index + 1, suspended := true } }

/-- A PAUSE frame received (R364, R369): counted; with PAUSE_RX = 1 it holds every class after the frame or fragment on the wire. -/
def State.receivePause (s : State) (p : Nat) (b : Bytes) (wire : Nat) : State :=
  let s := (s.macFrameCount p 0 6 b wire (b.length + 4)).macCount p 5 1
  if 8 ≤ p ∨ s.flag (Reg.MAC_CTRL_PAUSE_RX p) = false then s
  else
    let q := beAt b 16 2
    if q = 0 then s.setMac p { s.mac p with holdUntil := none }
    else
      let s := if s.sendsCut p then s.cutFrame p else s
      s.setMac p { s.mac p with holdUntil := some (max s.time.elapsed (s.mac p).wireUntil + s.quantaTime p q) }

/-- The SMD of verify and respond mPackets, of the first mPacket of a frame and of its later ones by the frame count, as 802.3br encodes
them (R362; log 149). -/
def smdVerify : Nat := 0x07
def smdRespond : Nat := 0x19
def smdStart (count : Nat) : Nat := [0xE6, 0x4C, 0x7F, 0xB3].getD (count % 4) 0
def smdContinue (count : Nat) : Nat := [0x61, 0x52, 0x9E, 0x2A].getD (count % 4) 0

/-- FRAG_COUNT of the n-th later mPacket of a frame. -/
def fragmentCount (n : Nat) : Nat := [0xE6, 0x4C, 0x7F, 0xB3].getD ((n + 3) % 4) 0

/-- MAC_RX_FRAME (R348, R353, R362, R364, R365, R374, R378): a whole frame, `data` from its destination address to before its FCS,
whose first bit came at `t`; `mpacket` is 1 for a verify and 2 for a respond mPacket. -/
def execMacRxFrame (p : Fin 10) (data plain : Bytes) (mpacket : Fin 3) (codeOk fcsOk fragOk icvOk : Bool) (t : BitVec 64)
    (s : State) : Answer :=
  .next (
    if s.isOff 0x10 || !s.flag (Reg.MAC_CTRL_ENABLE p) then s
    else
      let s := s.until t.toNat
      let wire := data.length + 4
      let a := if p.val < 8 ∧ s.pairOn (p.val / 2) = true then p.val / 2 * 2 else p.val
      let time := low 32 ((s.macTime p : Int) - sext 16 (s.rd (Reg.MAC_TSADJ_RX p)))
      if wire < 64 then s.macCount p 13 1
      else if s.rd (Reg.MAC_MAXFRAME p) + 46 < wire then s.macCount p 14 1
      else if 262144 < s.macFill p + wire then s.macCount p 17 1
      else if !codeOk then s.macCount p 16 1
      else if !fcsOk then s.macCount p 15 1
      else if mpacket.val = 1 then s.emit (.mpacket p smdRespond none (List.replicate 60 0) false)
      else if mpacket.val = 2 then (if (s.mac p).nextVerify.isSome then s.setPreempt p true 1 else s)
      else if !fragOk then s.macCount p 23 1
      else if etherType data = 0x8808 ∧ beAt data 14 2 = 1 then s.receivePause p data wire
      else
        let (s, v) := s.mscVerify p data plain icvOk
        match v with
        | .dropped => s
        | .passed b an =>
          let (s, ok, rct) := s.prpReceive p b
          if !ok then s
          else s.acceptFrame p a (if rct then b.take (b.length - 6) else b) wire time an rct)

/-- PAUSE_HOLD_EXPIRY (R364). -/
def execPauseHoldExpiry (p : Fin 10) (s : State) : Answer := s.whenOn 0x10 <|
  .next (match (s.mac p).holdUntil with
    | none => s
    | some t =>
      let s := s.untilElapsed t
      s.setMac p { s.mac p with holdUntil := none })

/-- PAUSE_REFRESH (R365): while the fill stays at or above LOW, the PAUSE is sent again (log 70). -/
def execPauseRefresh (p : Fin 8) (s : State) : Answer := s.whenOn 0x10 <|
  .next (
    if !(s.mac p).pauseHigh || !s.flag (Reg.MAC_CTRL_PAUSE_TX p) then s
    else
      let s := s.untilElapsed (s.mac p).pauseAt
      let q := s.rd (Reg.MAC_PAUSE p)
      s.setMac p { s.mac p with pause := some q, pauseAt := (s.mac p).pauseAt + s.quantaTime p q / 2 })

/-- MAC_RXBUF (R355, R356): a receive buffer is posted on the port's receive ring. -/
def execMacRxbuf (ring : Fin 64) (s : State) : Answer :=
  .next (s.withDesc ring 0x1001 fun s d =>
    let p := s.ringInst ring
    if 8 ≤ p ∨ s.rd (Reg.MAC_CTRL_RXRING p) ≠ ring.val ∨ d.reservedOk true 0 = false ∨ d.len % 64 ≠ 0 ∨ d.len < 256 ∨
        65536 < d.len ∨ d.chain = true then s.complete ring d.index stBadParam []
    else if !s.flag (Reg.MAC_CTRL_ENABLE p) then s.complete ring d.index stCancelled []
    else (s.setPhase ring d.index .working).settleRing ring)

/-- The buffers that a ring has posted and no frame has used, in ring order (R357). -/
def State.freeBuffers (s : State) (ring : Nat) : List Desc :=
  (s.ring ring).descs.filter (fun d => d.phase == .working && d.opcode == 0x1001)

/-- Whether a frame of `n` bytes needs a buffer that a doorbell has announced and that has not been fetched, or not been posted, yet: the
port waits for it (R357). -/
def State.bufferComes (s : State) (ring n : Nat) : Bool :=
  let room : Nat := ((s.freeBuffers ring).map (·.len)).foldl (· + ·) 0
  decide (room < n) && (decide (0 < s.unfetched ring) || (s.ring ring).descs.any (fun d => d.phase == .started))

/-- A frame is written into buffers (R356, R357); the answer says how many bytes did not fit. -/
def State.fillBuffers (ring : Nat) (f : RxFrame) (all : Nat) : List Desc → Bool → Bytes → State → State × Nat
  | [], _, rest, s => (s, rest.length)
  | d :: ds, first, rest, s =>
    let n := min d.len rest.length
    let left := rest.drop n
    let last := left.isEmpty
    let trunc := !last && ds.isEmpty
    let s := s.writeHost d.addr (rest.take n)
    let flags := b2n first + 2 * b2n (last || trunc) + 4 * b2n f.tci.isSome + 8 * b2n f.an.isSome + 16 * b2n f.prp + 32 * b2n f.lanB
    let w1 := if last then f.length else if trunc then all - left.length else 0
    let w2 := f.tci.getD 0 + f.an.getD 0 * 2 ^ 16
    let s := s.completeWith ring d.index (if trunc then 0x1041 else stOk) flags [n, w1, w2, f.time]
    if last then (s, 0) else State.fillBuffers ring f all ds false left s

/-- MAC_RX_DELIVER (R357, R360): claimed frames at the head of the FIFO go to the blocks that can take them; a frame of claim 0 goes
into available buffers of the receive ring, on a pair that of port 2k, or is truncated; one whose first buffer is missing waits. -/
def execMacRxDeliver (p : Fin 10) (s : State) : Answer := s.whenOn 0x10 <|
  let before := s.macFill p
  let s := if s.isOff 0x10 then s else (s.setMac p { s.mac p with rx := s.takeClaimed (s.mac p).rx }).pauseFor p before
  .next (match (s.mac p).rx with
    | [] => s
    | f :: rest =>
      let ring := s.rd (Reg.MAC_CTRL_RXRING (s.portOf p))
      let bufs := s.freeBuffers ring
      if bufs.isEmpty || f.claim != 0 || s.isOff 0x10 || s.bufferComes ring f.bytes.length then s
      else
        let before := s.macFill p
        let s := s.setMac p { s.mac p with rx := s.takeClaimed rest }
        let (s, lost) := State.fillBuffers ring f f.bytes.length bufs true f.bytes s
        let s := if lost = 0 ∨ f.bytes.isEmpty = true then s else s.macCount p 18 1
        s.pauseFor p before)

/-! ### Host frames -/

/-- The descriptors of a unit from its first on; none when its last has not started (R91). -/
def unitFrom : List Desc → Option (List Desc)
  | [] => none
  | d :: t =>
    if d.phase != .started then none
    else if d.chain then (unitFrom t).map (d :: ·)
    else some [d]

/-- Whether every descriptor of a MAC_TX unit is as R92 and R355 ask. -/
def macTxFieldsOk : Bool → List Desc → Bool
  | _, [] => true
  | first, d :: t =>
    d.opcode == 0x1002 && d.reservedOk true (if first then 1 else 0) && decide (1 ≤ d.len) &&
      (!first || decide (d.w 0 / 2 ^ 19 = 0)) && macTxFieldsOk false t

/-- MAC_TX (R352, R354, R355): a unit's frame is checked and queued; `data` is what host memory returns. -/
def execMacTx (ring : Fin 64) (data : Bytes) (hostError : Bool) (s : State) : Answer :=
  .next (s.withDesc ring 0x1002 fun s d =>
    match unitFrom ((s.ring ring).descs.dropWhile (fun x => x.index != d.index)) with
    | none => s
    | some ds =>
      let p := s.ringInst ring
      let n := ds.length
      let total : Nat := (ds.map (·.len)).foldl (· + ·) 0
      let w := d.w 0
      let tag := bitOf w 16
      let bytes := (data ++ List.replicate total 0).take total
      let full := if tag then bytes.take 12 ++ beBytes 2 0x8100 ++ beBytes 2 (w % 65536) ++ bytes.drop 12 else bytes
      let pair := s.pairOn (p / 2) && p % 2 == 0
      let up (q : Nat) := s.flag (Reg.MAC_STAT_LINK q) && s.flag (Reg.MAC_CTRL_ENABLE q)
      let on := s.flag (Reg.MAC_CTRL_ENABLE p) || (pair && s.flag (Reg.MAC_CTRL_ENABLE (p + 1)))
      if 8 ≤ p ∨ s.rd (Reg.MAC_CTRL_RXRING p) = ring.val ∨ total < 14 ∨ macTxFieldsOk true ds = false then
        s.completeUnit ring d.index n stBadParam []
      else if !on then s.completeUnit ring d.index n stCancelled []
      else if !(up p || (pair && up (p + 1))) then s.completeUnit ring d.index n 0x1042 []
      else
      let s := ds.foldl (fun s x => s.emit (.hostRead x.addr x.len)) s
      if hostError then s.completeUnit ring d.index n stBadAddr [0]
      else if s.macTooLong p full then
        (s.macCount p 38 1).completeUnit ring d.index n 0x1040 []
      else
        let f : TxFrame := { kind := .host ring d.index n (bitOf w 17), bytes := bytes, express := bitOf w 18, launch := none,
                             tci := if tag then some (w % 65536) else none, prpSeq := none, poison := false, done := none }
        let s := ds.foldl (fun s x => s.setPhase ring x.index .working) s
        (if pair then s.pairPut (p / 2) f else s.macPut p f).settleRing ring)

/-! ### Transmission -/

/-- ONE_STEP_INSERT (R371): the PTP time of the frame's departure into originTimestamp, the fraction into correctionField. -/
def State.oneStep (s : State) (p : Nat) (b : Bytes) : Bytes :=
  let t := low 64 ((s.planeTime p : Int) + s.phaseTarget)
  let frac := s.time.acc % 2 ^ 32 / 2 ^ 16
  b.take 50 ++ beBytes 8 frac ++ (b.drop 58).take 18 ++ ptpStamp t ++ b.drop 86

/-- The transmit timestamp of a Roost message as it leaves by port `p` (R412): at offset 36 of its header, after the Ethernet header or the
IPv4 and UDP headers (log 151). -/
def State.roostStamp (s : State) (p : Nat) (b : Bytes) : Bytes :=
  let at_ := if 8 ≤ p then 50 else 78
  b.take at_ ++ beBytes 4 (s.planeTime p) ++ b.drop (at_ + 4)

/-- Whether a frame is protected as it leaves (R376, R379): EAPOL never is. -/
def State.protects (s : State) (p : Nat) (b : Bytes) : Bool :=
  decide (p < 8) && s.flag (Reg.MSC_CTRL_TX_EN p) && etherType b != 0x888E

/-- The stages of transmission after selection (R348, R354, R366, R372, R376): tag, padding, trailer and protection. The answer is
the frame on the wire with its length L, or the status of a frame that is not sent: oversize, or OK where MACsec drops it (R377)
(log 148). -/
def State.buildFrame (s : State) (p : Nat) (f : TxFrame) : State × Except Nat (Bytes × Nat) :=
  let b := match f.kind with | .ptpOneStep => s.oneStep p f.bytes | .roost _ => s.roostStamp p f.bytes | _ => f.bytes
  let b := f.tagged b
  if s.macTooLong p b then (s.macCount p 38 1, .error 0x1040)
  else
    let s := if b.length < 60 then s.macCount p 37 1 else s
    let b := b ++ List.replicate (60 - b.length) 0
    let l := b.length + 4
    let b := match f.prpSeq with
      | some q => b ++ rctBytes q (p % 2 == 1) (lsduSize b + 6)
      | none => b
    if s.protects p b then
      let (s, o) := s.mscProtect p b
      (s, match o with | some x => .ok (x, l) | none => .error stOk)
    else (s, .ok (b, l))

/-- The wire is taken for a frame of a number of bytes, with preamble and gap. -/
def State.takeWire (s : State) (p n : Nat) : State :=
  s.setMac p { s.mac p with wireUntil := s.time.elapsed + ((n + 20) * s.byteTime p + 999) / 1000 }

/-- A frame goes on the wire: whole, or as the first mPacket of a preemptable one while preemption is active (R362). -/
def State.putWire (s : State) (p : Nat) (b : Bytes) (poison express : Bool) : State :=
  if s.flag (Reg.MAC_STAT_PREEMPT p) && !express then
    let m := s.mac p
    let c : MPacketSt := { data := b, badFcs := poison, count := m.frames, index := 0, began := s.time.elapsed, suspended := false }
    (s.emit (.mpacket p (smdStart m.frames) none b poison)).setMac p { m with cut := some c, frames := (m.frames + 1) % 4 }
  else s.emit (.frame p b poison)

/-- A suspended frame goes on with its next mPacket (R362, R363). -/
def State.resumeCut (s : State) (p : Nat) (c : MPacketSt) : State :=
  let s := s.emit (.mpacket p (smdContinue c.count) (some (fragmentCount c.index)) c.data c.badFcs)
  (s.setMac p { s.mac p with cut := some { c with suspended := false, began := s.time.elapsed } }).takeWire p (c.data.length + 4)

/-- Another copy of a frame that waits at the pair's other port counts no more in EMI_SENT (R284). -/
def State.countedOnce (s : State) (p : Nat) (f : TxFrame) : State :=
  let q := if p % 2 = 0 then p + 1 else p - 1
  let off (x : TxFrame) : TxFrame :=
    if x.prpSeq = f.prpSeq then { x with emission := x.emission.map (fun t => { t with counts := false }) } else x
  if f.prpSeq.isNone || f.emission.isNone then s else s.setMac q { s.mac q with tx := (s.mac q).tx.map off }

/-- What a packet of the emission engine does there as it leaves a port (R252, R268, R284, R375): its count and lateness, or the timestamp
of its ECHO_REQ by LAN. -/
def State.emissionLeft (s : State) (p : Nat) (f : TxFrame) (plane : Nat) : State :=
  let s := match f.emission with
    | some t => (s.emissionSent t (plane - f.launch.getD plane)).countedOnce p f
    | none => s
  match f.kind with
  | .echo seg seq =>
    let lanB := f.prpSeq.isSome && p % 2 == 1
    let stamp (e : EchoSt) : EchoSt :=
      if e.seg = seg ∧ e.seq = seq then (if lanB then { e with sentB := some plane } else { e with sentA := some plane }) else e
    s.setEmi { s.emi with echoes := s.emi.echoes.map stamp }
  | _ => s

/-- A frame leaves the port now (R361, R370, R371, R379, R381, R252, R125): its counters, its timestamp, its lateness. -/
def State.transmit (s : State) (p : Nat) (f : TxFrame) : State :=
  let plane := s.planeTime p
  let time := plane % 2 ^ 32
  let (s, o) := s.buildFrame p f
  match o with
  | .error status => s.dropFrame p f status
  | .ok (b, l) =>
    let s := s.putWire p b f.poison f.express
    let s := (s.macFrameCount p 24 30 b (b.length + 4) l).takeWire p (b.length + 4)
    let s := if etherType b = 0x88E5 then s.setMac p { s.mac p with engine := (s.mac p).wireUntil } else s
    let s := if f.express then s.macCount p 41 1 else s
    let s := s.emissionLeft p f plane
    match f.kind with
    | .host ring first count ts => s.hostSent p f ring first count ts (b.length + 4) time
    | .ptpEvent => s.ptpTransmitted (f.prpSeq.isSome && p % 2 == 1) f.alone (f.bytes.drop 42) plane
    | .roost _ =>
      if 8 ≤ p ∧ f.express = true then { s with roo := { s.roo with lastTx := tblSet s.roo.lastTx 0 (p - 8) time } } else s
    | _ => s

/-- The first frame of a list with the smallest key. -/
def earliest (key : TxFrame → Nat) : List TxFrame → Option TxFrame
  | [] => none
  | f :: t => match earliest key t with
    | some g => if key g < key f then some g else some f
    | none => some f

def TxFrame.at_ (f : TxFrame) : Nat := f.launch.getD 0

def TxFrame.isHost (f : TxFrame) : Bool := match f.kind with | .host .. => true | _ => false

/-- How far behind the other frames a Roost message waits: bulk data goes behind cue messages, and an update behind both (R425, R523). -/
def TxFrame.roostRank (f : TxFrame) : Nat := match f.kind with | .roost r => r | _ => 0

/-- How far a host frame's ring is from having its turn (R361). -/
def ringTurn (turn : Nat) (f : TxFrame) : Nat :=
  match f.kind with
  | .host ring _ _ _ => (ring + 63 - turn) % 64
  | _ => 0

/-- Whether a sync packet waits for data that it covers and that the port has not sent (R252). -/
def syncWaits (tx : List TxFrame) (f : TxFrame) : Bool :=
  match f.kind with
  | .sync g c => tx.any (fun d => match d.kind with | .data h _ e => h == g && e == c && decide (d.at_ ≤ f.at_) | _ => false)
  | _ => false

/-- The express frame with the earliest launch instant that a port may send (R252, R361). -/
def State.nextExpress (s : State) (p : Nat) : Option TxFrame :=
  let tx := (s.mac p).tx
  earliest TxFrame.at_ (tx.filter (fun f => f.express && !syncWaits tx f))

/-- The frame a port takes next among those that have arrived (R361). -/
def State.pickFrame (s : State) (p : Nat) : Option TxFrame :=
  let m := s.mac p
  let here := m.tx.filter (fun f => decide (f.at_ ≤ s.planeTime p))
  match (s.nextExpress p).filter (fun f => decide (f.at_ ≤ s.planeTime p)) with
  | some f => some f
  | none => match earliest (fun f => f.roostRank * 2 ^ 128 + f.at_) (here.filter (fun f => !f.express && !f.isHost)) with
    | some f => some f
    | none => earliest (ringTurn m.turn) (here.filter (·.isHost))

/-- A list without the first occurrence of a frame. -/
def removeFrame (f : TxFrame) : List TxFrame → List TxFrame
  | [] => []
  | g :: t => if g = f then t else g :: removeFrame f t

/-- A picked frame leaves its queue and the port. -/
def State.sendPicked (s : State) (p : Nat) (f : TxFrame) : State :=
  let m := s.mac p
  let turn := match f.kind with | .host ring _ _ _ => if f.express then m.turn else ring | _ => m.turn
  (s.setMac p { m with tx := removeFrame f m.tx, turn := turn }).transmit p f

/-- Whether a received PAUSE holds the port (R364). -/
def State.held (s : State) (p : Nat) : Bool :=
  match (s.mac p).holdUntil with | some t => decide (s.time.elapsed < t) | none => false

/-- A pending PAUSE frame leaves (R361, R365). -/
def State.sendPause (s : State) (p q : Nat) : State :=
  let b := s.pauseFrame p q
  let s := (s.setMac p { s.mac p with pause := none }).emit (.frame p b false)
  ((s.macFrameCount p 24 30 b 64 64).macCount p 29 1).takeWire p 64

/-- A free wire at a frame boundary: the next frame, waiting for the earliest instant when none has arrived (R361). -/
def State.sendNext (s : State) (p : Nat) : State :=
  let s := s.setMac p { s.mac p with cut := none }
  let s := match s.pickFrame p, earliest TxFrame.at_ (s.mac p).tx with
    | none, some f => s.untilPlane p f.at_
    | _, _ => s
  match s.pickFrame p with
  | some f => s.sendPicked p f
  | none => s

/-- A free wire (R361, R363, R364): a pending PAUSE first; at a fragment boundary the express frames due, and then the suspended frame
goes on; at a frame boundary the next frame. -/
def State.nextFrame (s : State) (p : Nat) : State :=
  match (s.mac p).pause with
  | some q => s.sendPause p q
  | none =>
    if s.held p then s
    else match (s.mac p).cut with
      | some c =>
        if c.suspended then
          (match (s.nextExpress p).filter (fun f => decide (f.at_ ≤ s.planeTime p)) with
           | some f => s.sendPicked p f
           | none => s.resumeCut p c)
        else s.sendNext p
      | none => s.sendNext p

/-- The instant at the plane from which a frame cuts into the mPacket on the wire, if one does (R361-R363): a pending PAUSE now, or an
express frame at its instant. -/
def State.cutAt (s : State) (p : Nat) : Option Nat :=
  if !s.sendsCut p then none
  else if (s.mac p).pause.isSome then some 0
  else if s.held p then none
  else match s.nextExpress p with
    | some f => if f.at_ < s.planeTime p + ((s.mac p).wireUntil - s.time.elapsed) then some f.at_ else none
    | none => none

/-- MAC_TX_SELECT (R361-R364): at the next frame boundary, or at a fragment boundary that a PAUSE or an express frame uses, the port takes
its next frame and sends it. -/
def execMacTxSelect (p : Fin 10) (s : State) : Answer := s.whenOn 0x10 <|
  .next (
    if s.isOff 0x10 || !s.flag (Reg.MAC_CTRL_ENABLE p) || !s.flag (Reg.MAC_STAT_LINK p) ||
        ((s.mac p).tx.isEmpty && (s.mac p).pause.isNone && (s.mac p).cut.isNone) then s
    else
      let s := match s.cutAt p with | some t => (s.untilPlane p t).cutFrame p | none => s
      (s.untilElapsed (s.mac p).wireUntil).nextFrame p)

/-! ### Links, preemption and PRP -/

/-- A frame that waits on a port whose link goes down (R352): a copy that the pair's other port can still send leaves there; otherwise a
host unit completes with LINK_DOWN, and an emission packet or a PTP message is counted in tx_linkdown. -/
def State.loseLink (s : State) (p : Nat) (f : TxFrame) : State :=
  let q := if p % 2 = 0 then p + 1 else p - 1
  let other := f.prpSeq.isSome && s.flag (Reg.MAC_STAT_LINK q) && s.flag (Reg.MAC_CTRL_ENABLE q)
  if other && f.alone then s.macPut q f
  else
    let copy (x : TxFrame) : TxFrame := if f.prpSeq.isSome && x.prpSeq == f.prpSeq then { x with alone := true } else x
    let s := s.setMac q { s.mac q with tx := (s.mac q).tx.map copy }
    let s := if f.kind.countsLinkDown && !other then s.macCount p 39 1 else s
    s.dropFrame p f 0x1042

/-- What a port's queue becomes when its link goes down (R352). -/
def State.dropQueue (s : State) (p : Nat) : State :=
  let tx := (s.mac p).tx
  let s := s.setMac p { s.mac p with tx := [], cut := none }
  tx.foldl (fun s f => s.loseLink p f) s

/-- MAC_LINK (R350, R352, R362): the PCS reports a link or its loss. -/
def execMacLink (p : Fin 10) (up : Bool) (s : State) : Answer :=
  .next (
    if s.isOff 0x10 || s.flag (Reg.MAC_STAT_LINK p) == up then s
    else
      let s := s.setFlag (Reg.MAC_STAT_LINK p) up
      let s := s.setFlag (Reg.MAC_STAT_AN_DONE p) (up && (s.mac p).speed == 2 && s.flag (Reg.MAC_CFG_AN37 p))
      let s := s.raise 0x1001 p [b2n up, (s.mac p).speed, (s.mac p).fec]
      (if up then s else s.dropQueue p).preemptFollow p)

/-- PREEMPT_VERIFY (R362): a verification attempt, its verify mPacket sent; after three without a respond, verification has failed
(log 69). -/
def execPreemptVerify (p : Fin 10) (s : State) : Answer := s.whenOn 0x10 <|
  .next (match (s.mac p).nextVerify with
    | none => s
    | some t =>
      let s := s.untilElapsed t
      let m := s.mac p
      if 3 ≤ m.verifyTries then
        (s.setMac p { m with nextVerify := none }).raise 0x1003 p [0, 2]
      else
        let next := s.time.elapsed + s.rd (Reg.MAC_PREEMPT_VERIFY_TIME p) * 1000000
        (s.setMac p { m with verifyTries := m.verifyTries + 1, nextVerify := some next }).emit
          (.mpacket p smdVerify none (List.replicate 60 0) false))

/-- A PRP supervision frame (R372; log 36). -/
def State.supervisionFrame (s : State) (a n : Nat) : Bytes :=
  beBytes 6 0x01154E000100 ++ beBytes 6 (s.macAddr a) ++ beBytes 2 0x88FB ++ beBytes 2 1 ++ beBytes 2 n ++ beBytes 1 20 ++
    beBytes 1 6 ++ beBytes 6 (s.macAddr a) ++ beBytes 2 0

/-- PRP_SUPERVISION (R372): every LIFE s, a supervision frame on both LANs. -/
def execPrpSupervision (k : Fin 4) (s : State) : Answer := s.whenOn 0x10 <|
  let a := 2 * k.val
  .next (match (s.mac a).nextSupervision with
    | none => s
    | some t =>
      let s := s.untilElapsed t
      let m := s.mac a
      let s := s.setMac a { m with nextSupervision := some (t + s.rd (Reg.MAC_PRP_LIFE a) * 10 ^ 9), supSeq := (m.supSeq + 1) % 65536 }
      if s.pairOn k.val && s.flag (Reg.MAC_PRP_SUPER_EN a) then
        s.pairPut k.val { kind := .supervision, bytes := s.supervisionFrame a m.supSeq, express := false, launch := none, tci := none,
                          prpSeq := none, poison := false, done := none }
      else s)

/-- PRP_ENTRY_FORGET (R374): the oldest entry is forgotten FORGET ms after it was stored. -/
def execPrpEntryForget (k : Fin 4) (s : State) : Answer := s.whenOn 0x10 <|
  let a := 2 * k.val
  .next (match (s.mac a).prpTable with
    | [] => s
    | e :: t =>
      let s := s.untilElapsed (e.stored + s.rd (Reg.MAC_PRP_FORGET a) * 1000000)
      s.setMac a { s.mac a with prpTable := t })

/-! ### Enable, disable and counters -/

/-- An ENABLE of a port (R350, R372, R382): taken only while it is quiescent, with the speed and FEC of MAC_CFG. The first port of a pair
to be enabled restarts the pair's sequence number at 0 and its supervision. -/
def State.macEnable (s : State) (p : Nat) : State :=
  if s.flag (Reg.MAC_CTRL_ENABLE p) || !s.flag (Reg.MAC_STAT_QUIESCENT p) || s.isOff 0x10 then s
  else
    let a := p / 2 * 2
    let first := decide (p < 8) && s.pairOn (p / 2) && !s.flag (Reg.MAC_CTRL_ENABLE a) && !s.flag (Reg.MAC_CTRL_ENABLE (a + 1))
    let s := (s.setFlag (Reg.MAC_CTRL_ENABLE p) true).setFlag (Reg.MAC_STAT_QUIESCENT p) false
    let s := s.setMac p { s.mac p with speed := s.rd (Reg.MAC_CFG_SPEED p), fec := s.rd (Reg.MAC_CFG_FEC p) }
    let s := if first then
        s.setMac a { s.mac a with prpNext := 0, prpTable := [],
                                  nextSupervision := some (s.time.elapsed + s.rd (Reg.MAC_PRP_LIFE a) * 10 ^ 9) }
      else s
    s.preemptFollow p

/-- MAC_ENABLE (R350, R372). -/
def execMacEnable (p : Fin 10) (s : State) : Answer := s.byRegister (0x140000 + 0x4000 * p.val) <| .next (s.macEnable p)

/-- A disable of a port (R382, R490): no new frame; queued frames and unused buffers are cancelled, the FIFO is discarded. -/
def State.macDisable (s : State) (p : Nat) : State :=
  if !s.flag (Reg.MAC_CTRL_ENABLE p) then s
  else
    let s := s.setFlag (Reg.MAC_CTRL_ENABLE p) false
    let tx := (s.mac p).tx
    let s := s.setMac p { s.mac p with tx := [], rx := [], pause := none, pauseHigh := false, holdUntil := none,
                                       nextVerify := none, disabling := true }
    let s := tx.foldl (fun s f => s.dropFrame p f stCancelled) s
    let a := p / 2 * 2
    let s := if s.flag (Reg.MAC_CTRL_ENABLE a) || s.flag (Reg.MAC_CTRL_ENABLE (a + 1)) then s
      else s.setMac a { s.mac a with nextSupervision := none }
    let s := (s.ringsOf 0x10 p).foldl (fun s n => (s.freeBuffers n).foldl (fun s d =>
      s.setPhase n d.index (.done stCancelled 0 (s.ringBlock n) (s.ringInst n) [])) s) s
    ((s.cancelBlock 0x10 p).setPreempt p false 3).cancelCalRun 0x10 p

/-- MAC_DISABLE (R382). -/
def execMacDisable (p : Fin 10) (s : State) : Answer := s.byRegister (0x140000 + 0x4000 * p.val) <| .next (s.macDisable p)

/-- The frame on the wire finishes, with all its fragments (R382). -/
def State.finishWire (s : State) (p : Nat) : State :=
  let s := s.untilElapsed (s.mac p).wireUntil
  let s := match (s.mac p).cut with
    | some c => if c.suspended then (let s := s.resumeCut p c; s.untilElapsed (s.mac p).wireUntil) else s
    | none => s
  s.setMac p { s.mac p with cut := none }

/-- MAC_QUIESCENT (R382): the frame on the wire has finished. -/
def execMacQuiescent (p : Fin 10) (s : State) : Answer := s.whenOn 0x10 <|
  .next (
    if !(s.mac p).disabling then s
    else
      let s := s.finishWire p
      ((s.setMac p { s.mac p with disabling := false }).setFlag (Reg.MAC_STAT_QUIESCENT p) true).raise 0x1004 p [])

/-- A clear of every counter of a port and its MSC (R381, R385): a top bit that falls raises its notice. -/
def State.macClear (s : State) (p : Nat) : State :=
  let s := (List.range 42).foldl (fun s i =>
    let v := s.rd64 (Reg.MAC_CNT_LO p i) (Reg.MAC_CNT_HI p i)
    s.macCount p i (2 ^ macCounterWidth i - v)) s
  if 8 ≤ p then s
  else (List.range 10).foldl (fun s i =>
    let v := s.rd64 (Reg.MSC_CNT_LO p i) (Reg.MSC_CNT_HI p i)
    s.mscCount p i (2 ^ (if i = 1 ∨ i = 8 then 48 else 32) - v)) s

/-- MAC_CNTCLR (R381). -/
def execMacCntclr (p : Fin 10) (s : State) : Answer := s.byRegister (0x14002C + 0x4000 * p.val) <| .next (s.macClear p)

/-- MSC_CTRL_WRITE (R379): the model's frames pass the engine whole, so the next frame of each direction is the first under the new
setting; MSC_STAT.QUIESCENT is computed when it is read. -/
def execMscCtrlWrite (p : Fin 8) (v : Word) (s : State) : Answer :=
  s.byRegister (0x180000 + 0x4000 * p.val) <| .next (s.loadReg (0x180000 + 0x4000 * p.val) v.toNat)

end Sys2Proof.Machine
end

