-- ==== Sys2Proof/Machine/CalCore.lean ====
section
/-! DEFINITION. The steps by which TIME corrections come into force (R484-R486). -/
namespace Sys2Proof.Machine

/-- The largest correction of a list, in ns. -/
def largestDelta (ds : List Int) : Nat := ds.foldl (fun m d => max m d.natAbs) 0

/-- A correction after one step: whole, or by at most `step` ns (R486). -/
def deltaLeft (whole : Bool) (step : Nat) (d : Int) : Int :=
  if whole then 0 else if d < 0 then min 0 (d + step) else max 0 (d - step)

/-- CAL_TIME_GRADUAL_STEP and its BOUNDARY counterpart (R486): what is in force follows the applied part; with every correction
applied the run completes with OK. -/
def State.calStep (s : State) : State :=
  let c := s.selfCal
  if c.deltas.isEmpty then s
  else
    let left := c.deltas.map (deltaLeft c.whole (s.rd Reg.CAL_SC_CTRL_STEP))
    let old := c.applied ++ List.replicate (c.deltas.length - c.applied.length) 0
    let applied := (old.zip (c.deltas.zip left)).map (fun p => p.1 + (p.2.1 - p.2.2))
    let s := s.wr Reg.CAL_SC_REMAIN (largestDelta left)
    if largestDelta left = 0 then
      let s : State := { s with selfCal := { c with deltas := [], applied := applied, next := none } }
      let max_ := match c.run with | some r => r.setting | none => 0
      (s.setFlag Reg.CAL_SC_STAT_GRADUAL false).calEnd stOk [s.calMicros, max_, 0]
    else
      { s with selfCal := { c with deltas := left, applied := applied, next := some (s.time.elapsed + 1000000) } }

end Sys2Proof.Machine
end

