-- ==== Sys2Proof/Machine/RoostEpoch.lean ====
section
/-! DEFINITION. Cue epochs: snapshots, what rank 0 sends at a latch, and how members verify and apply epochs (R420-R426). The
spec says what a snapshot and a message hold; how their words follow one another is the model's own choice (log 29). -/
namespace Sys2Proof.Machine

/-! ### Snapshots -/

/-- The low words of a signed number. -/
def signedWords (n : Nat) (x : Int) : List Nat := (List.range n).map (fun i => low 32 (x / 2 ^ (32 * i)))

/-- The signed number of a list of words. -/
def wordsSigned (ws : List Nat) : Int := sext (32 * ws.length) (leNat (wordsBytes ws))

/-- F at the next latch: that of the frame whose slot starts there (R422; log 30). -/
def State.nextF (s : State) : Nat := (s.slotF + b2n (s.flag Reg.EMI_CTRL_ENABLE)) % 2 ^ 32

/-- A context's whole-frame position at an instant in 2^-32 ns (R422). -/
def State.wholeAt (s : State) (n : Nat) (t : Int) : Int := s.ctxPosAt n t / 2 ^ 24

/-- A context's part of a snapshot, sixteen words; its rates are NUM, DEN, SPEED and the period in
force (R422; log 152). -/
def State.ctxSnap (s : State) (t : Int) (n : Nat) : List Nat :=
  [(s.word (ctxOff n 0)).toNat, s.rd (Reg.ANT_CTX_NUM n), s.rd (Reg.ANT_CTX_DEN n), s.rd (Reg.ANT_CTX_SPEED n),
   s.rd (Reg.ANT_CTX_OFS_LO n), s.rd (Reg.ANT_CTX_OFS_HI n), s.ctxState n] ++
    signedWords 2 (s.wholeAt n t) ++ signedWords 2 (s.ctx n).pb ++ signedWords 3 (s.ctx n).tb ++
    signedWords 2 (s.ctxPeriod n)

/-- A snapshot for the next latch at `t` ns (R422): record, F, contexts, and the band state and TH of every thermal model. -/
def State.snapshot (s : State) (t : Nat) (models : List (Nat × (Nat × Nat))) : Bytes :=
  wordsBytes ([s.rd Reg.OTU_STAT_MODE, s.nextF] ++ (List.range 128).flatMap (s.ctxSnap ((t : Int) * 2 ^ 32)) ++ [models.length] ++
    models.flatMap (fun m => [m.1, m.2.1, m.2.2]))

def snapWord (b : Bytes) (i : Nat) : Nat := leNat ((b.drop (4 * i)).take 4)
def snapCtx (b : Bytes) (n j : Nat) : Nat := snapWord b (2 + 16 * n + j)
def snapWhole (b : Bytes) (n : Nat) : Int := wordsSigned [snapCtx b n 7, snapCtx b n 8]
def snapPb (b : Bytes) (n : Nat) : Int := wordsSigned [snapCtx b n 9, snapCtx b n 10]
def snapTb (b : Bytes) (n : Nat) : Int := wordsSigned [snapCtx b n 11, snapCtx b n 12, snapCtx b n 13]
def snapPeriod (b : Bytes) (n : Nat) : Nat := snapCtx b n 14 + snapCtx b n 15 * 2 ^ 32
def snapCount (b : Bytes) : Nat := snapWord b 2050

/-- The thermal models of a snapshot: TH and band word of each. -/
def snapModels (b : Bytes) : List (Nat × (Nat × Nat)) :=
  (List.range (snapCount b)).map (fun i => (snapWord b (2051 + 3 * i), (snapWord b (2052 + 3 * i), snapWord b (2053 + 3 * i))))

/-- The registers of a context that make up its configuration, beside its state (R426). -/
def ctxConfigOffs : List Nat := [0x00, 0x04, 0x08, 0x0C, 0x18, 0x1C, 0x28, 0x2C, 0x30, 0x34, 0x38, 0x3C]

/-- A pending calendar event as a FULL epoch carries it (R426). -/
def CalEvent.toWords (e : CalEvent) : List Nat :=
  [e.order, e.ctx + b2n e.commit * 2 ^ 8 + b2n e.catchup * 2 ^ 9 + e.queue * 2 ^ 12 + b2n e.passed * 2 ^ 16 + b2n e.jumped * 2 ^ 17] ++
    signedWords 2 e.pos ++ [e.tag, e.payload % 2 ^ 32, e.payload / 2 ^ 32]

/-- The calendar's pending events, the one that its receiver holds up among them, in order of add. -/
def State.pendingEvents (s : State) : List CalEvent := s.cal.held.toList ++ s.cal.events

/-- What a FULL epoch adds to a snapshot: context configurations, the four OTU records, and the calendar's events (R426). -/
def State.fullPart (s : State) : Bytes :=
  wordsBytes ((List.range 128).flatMap (fun n => ctxConfigOffs.map (fun o => (s.word (ctxOff n o)).toNat)) ++
    (List.range 4).flatMap (fun k => [s.rd (Reg.OTU_MODE_CTX k), s.rd (Reg.OTU_MODE_PHASE k)]) ++
    [s.pendingEvents.length] ++ s.pendingEvents.flatMap CalEvent.toWords)

/-- The event that seven words spell. -/
def eventOfWords (w : Nat → Nat) : CalEvent :=
  { order := w 0, ctx := bitsOf (w 1) 0 7, commit := bitOf (w 1) 8, catchup := bitOf (w 1) 9, queue := bitsOf (w 1) 12 4,
    pos := wordsSigned [w 2, w 3], tag := w 4, payload := w 5 + w 6 * 2 ^ 32, passed := bitOf (w 1) 16, jumped := bitOf (w 1) 17,
    due := none, sched := 0 }

/-! ### Sending -/

/-- The 32-byte entries of a range of LSNs, in order (R420). -/
def entriesIn (es : List CueEntry) (first last : Nat) : List CueEntry :=
  es.filter (fun e => decide (first ≤ e.lsn) && decide (e.lsn ≤ last))

def entryBytes (es : List CueEntry) : Bytes := es.flatMap (fun e => wordsBytes e.words)

/-- The data of an epoch is sent in CHUNKs of at most 8,192 bytes (R413); those of a bulk epoch carry the store's words, POISON among
them (R125). -/
def State.sendChunks (s : State) (kind number dest : Nat) : Nat → Nat → Bytes → State
  | 0, _, _ => s
  | k + 1, at_, b =>
    let poison := kind == 1 && s.poisonIn at_ (min 8192 b.length)
    let s := s.sendRoostWith 5 dest (beBytes 4 kind ++ beBytes 4 number ++ beBytes 4 at_ ++ b.take 8192) (b2n (kind == 1)) poison
    s.sendChunks kind number dest k (at_ + 8192) (b.drop 8192)

/-- An epoch's CHUNKs and its close (R413). -/
def State.sendEpoch (s : State) (kind number dest applyF first last base : Nat) (entries : List CueEntry) (data : Bytes) : State :=
  let s := s.sendChunks kind number dest ((data.length + 8191) / 8192) base data
  s.sendRoostWith 4 dest (beBytes 4 kind ++ beBytes 4 number ++ beBytes 4 applyF ++ beBytes 4 first ++ beBytes 4 last ++
    beBytes 4 data.length ++ sha256 (entryBytes entries ++ data) ++ beBytes 8 0) (b2n (kind == 1)) false

/-- EPOCH_CLOSE (R422): rank 0 closes the epoch of the entries logged since the last close, for the next latch at `t`; a member that asked
for a full resync gets a FULL epoch first (R426), whose empty range of LSNs says where the entries go on, and each entry that a new rank 0
replays is reported (R434). -/
def State.closeEpoch (s : State) (t : Nat) (models : List (Nat × (Nat × Nat))) : State :=
  if !s.rooActive then s
  else
    let snap := s.snapshot t models
    let es := s.roo.entries
    let last := s.rd Reg.ROO_LSN
    let first := match es with | e :: _ => e.lsn | [] => last + 1
    let s := s.roo.resyncs.foldl (fun s n =>
      s.sendEpoch 2 (s.rd Reg.ROO_EPOCH) (s.peerSerial n) s.nextF first (first - 1) 0 [] (snap ++ s.fullPart)) s
    let number := (s.rd Reg.ROO_EPOCH + 1) % 2 ^ 32
    let e : EpochSt := { kind := 0, number := number, applyF := s.nextF, lsnFirst := first, lsnLast := last, chunks := [(0, snap)],
                         length := snap.length, digest := [], closed := true, asked := false, verified := true, sender := s.serial, theta := 0 }
    let s := s.sendEpoch 0 number 0 s.nextF first last 0 es snap
    let s := (es.filter (·.replay)).foldl (fun s e =>
      let kind := e.words.getD 1 0 % 256
      (s.count Reg.ROO_REPLAY 1).raise 0x1507 0 [e.lsn, kind, if kind = 3 then 0 else e.words.getD 5 0]) s
    { s with roo := { s.roo with closing := some e, held := es, entries := [], resyncs := [] } }

/-! ### Applying -/

/-- A write of OTU_SWITCH with GO = 1 counts as a MODE commit that arrives now, after a latch of this TIME cycle for the next one
(R334). No write is refused for want of room in the queue (R333) (log 142). -/
def State.otuSwitch (s : State) (v : Nat) : State :=
  if !bitOf v 31 then s
  else if !s.flag Reg.OTU_CTRL_ENABLE then s.count Reg.OTU_CDISC 1
  else
    let sched : Int := match s.otu.lastLatch with | some l => max s.now (l + 1) | none => s.now
    let c : CommitSt := { word := 5 + v % 4 * 2 ^ 16, sched := sched, arrival := s.now }
    { s with otu := { s.otu with commits := s.otu.commits ++ [c] } }

/-- A cue takes effect (R420, R422): a calendar descriptor, whose completion rank 0 writes, or a register write. -/
def State.applyCue (s : State) (e : CueEntry) : State :=
  let w (i : Nat) := e.words.getD i 0
  let finish (s : State) (st : Nat) (ws : List Nat) : State := match e.source with
    | some (ring, index) => s.complete ring index st ws
    | none => s
  let kind := w 1 % 256
  if kind = 1 then (let (s, st) := s.calAdd (fun i => w (2 + i)); finish s st [])
  else if kind = 2 then (let (s, st, n) := s.calCancel (fun i => w (2 + i)); finish s st [n])
  else if kind = 3 then (if w 2 = 0xF000C then s.otuSwitch (w 3) else s.ctxWrite (w 2) (w 3))
  else s

/-- The peer that holds rank 0 (R419). -/
def State.rankZeroPeer (s : State) : Option Nat :=
  [0, 1].find? (fun n => s.flag (Reg.ROO_PEER_STAT_VALID n) && s.rd (Reg.ROO_PEER_STAT_STATE n) == 3 &&
    s.rd (Reg.ROO_PEER_STAT_RANK n) == 0)

/-- θ of a peer in ns: how far its device time is ahead of this unit's (R417). -/
def State.theta (s : State) (n : Nat) : Int := sext 64 (s.rd64 (Reg.ROO_PEER_THETA_LO n) (Reg.ROO_PEER_THETA_HI n))

def EpochSt.data (e : EpochSt) : Bytes := e.chunks.flatMap (·.2)

/-- θ of the member that sent an epoch: as it stands while that member is a peer, and as it stood when the epoch closed once it is lost
(R417, R424). -/
def State.epochTheta (s : State) (e : EpochSt) : Int :=
  match [0, 1].find? (fun n => s.flag (Reg.ROO_PEER_STAT_VALID n) && s.peerSerial n == e.sender) with
  | some n => s.theta n
  | none => e.theta

/-- A context is set from a snapshot (R424) at `t` in 2^-32 ns; a LOCATE rewrites the offset as R58 does. -/
def State.setFromSnap (x : State × Jumps) (b : Bytes) (theta t : Int) (n : Nat) : State × Jumps :=
  let s := x.1
  let src := s.rd (Reg.ANT_CTX_CTRL_SOURCE n)
  if src = 0 ∨ src = 4 then
    let s := if src = 4 then s.setCtxPeriod n (snapPeriod b n) else s
    (s.setCtx n { s.ctx n with pb := snapPb b n, tb := snapTb b n - theta * 2 ^ 32 }, x.2)
  else if s.wholeAt n t = snapWhole b n then x
  else State.moveCtx 129 n (snapWhole b n * 2 ^ 24) t (s.locateOffset n (snapWhole b n * 2 ^ 24) t, x.2)

/-- A standby sets every context from the snapshot of an epoch at `t` ns (R422, R424). -/
def State.setContexts (s : State) (e : EpochSt) (t : Nat) : State :=
  State.tellJumps ((List.range 128).foldl (fun x n => State.setFromSnap x e.data (s.epochTheta e) ((t : Int) * 2 ^ 32) n) (s, []))

/-- The epoch of a kind that a member has verified with a number. -/
def State.verifiedEpoch (s : State) (kind number : Nat) : Option EpochSt :=
  s.roo.epochs.find? (fun e => e.verified && e.kind == kind && e.number == number)

/-- The entries of a range take effect in LSN order. -/
def State.applyEntries (s : State) (es : List CueEntry) : State := es.foldl (fun s e => s.applyCue e) s

/-- Rank 0 applies its own epoch: entries, not the context part (R422). The answer is the snapshot's models. -/
def State.applyOwnEpoch (s : State) (e : EpochSt) : State × List (Nat × (Nat × Nat)) :=
  let es := s.roo.held
  let s : State := { s with roo := { s.roo with closing := none, held := [], appliedLsn := e.lsnLast } }
  ((s.applyEntries es).wr Reg.ROO_EPOCH e.number, snapModels e.data)

/-- A standby applies a verified epoch at `t` ns (R422, R424). -/
def State.applyPeerEpoch (s : State) (e : EpochSt) (t : Nat) : State × List (Nat × (Nat × Nat)) :=
  let es := entriesIn s.roo.entries e.lsnFirst e.lsnLast
  let s : State := { s with roo := { s.roo with
    appliedLsn := e.lsnLast
    entries := s.roo.entries.filter (fun x => decide (e.lsnLast < x.lsn)),
    epochs := s.roo.epochs.filter (fun x => x.kind != 0 || decide (e.number < x.number)) } }
  ((s.applyEntries es).wr Reg.ROO_EPOCH e.number |>.setContexts e t, snapModels e.data)

/-- An epoch that was not applied by its latch, or a wrong F (R423). -/
def State.epochMissed (s : State) : State :=
  let s := (s.count Reg.ROO_EPOCHLATE 1).setRooState 4
  let s : State := { s with roo := { s.roo with lagSince := some s.time.elapsed, joinAsked := s.rankZeroPeer.isSome } }
  s.sendRoost 7 0 (beBytes 4 2)

/-- EPOCH_APPLY at a latch at `t` ns (R422-R424, R434, R436): a new rank 0 still applies what it had verified. The answer is the models of
the snapshot that serves the composite, when one does (R480). -/
def State.latchEpoch (s : State) (t : Nat) : State × Option (List (Nat × (Nat × Nat))) :=
  let s : State := { s with roo := { s.roo with cueGate := false } }
  match s.roo.closing with
  | some e =>
    if s.rooState = 0 ∨ s.rooState = 3 then
      let (s, m) := s.applyOwnEpoch e
      (s, if s.rooState = 3 then some m else none)
    else ({ s with roo := { s.roo with closing := none, held := [] } }, none)
  | none =>
    if !(s.rooState = 2 ∨ s.rooState = 3) then (s, none)
    else match s.verifiedEpoch 0 ((s.rd Reg.ROO_EPOCH + 1) % 2 ^ 32) with
      | some e =>
        if e.applyF = s.slotF then (let (s, m) := s.applyPeerEpoch e t; (s, some m))
        else (if s.rooState = 3 ∧ s.rooActive = false then s.epochMissed else s, none)
      | none => (if s.rooState = 3 ∧ s.rooActive = false then s.epochMissed else s, none)

/-- A verified FULL epoch that a member in JOIN or LAGGING may apply (R426). -/
def State.fullEpoch (s : State) : Option EpochSt :=
  if s.rooState = 1 ∨ s.rooState = 4 then s.roo.epochs.find? (fun e => e.verified && e.kind == 2) else none

/-- EMI_FRAME takes an F, and the frame whose slot starts now is of that F, as on rank 0 (R253, R426). -/
def State.setF (s : State) (f : Nat) : State :=
  let waiting := s.emi.frames.countP (fun x => !x.launched)
  let number (p : List EmiFrameSt × Nat) (x : EmiFrameSt) : List EmiFrameSt × Nat :=
    if x.launched then (p.1 ++ [x], p.2) else (p.1 ++ [{ x with f := p.2 % 2 ^ 32 }], p.2 + 1)
  (s.setEmi { s.emi with frames := (s.emi.frames.foldl number ([], f + 2 ^ 32 + 1 - waiting)).1 }).wr Reg.EMI_FRAME f

/-- A context is configured and set as a FULL epoch gives it (R426); its configuration stands from word `at_` on. -/
def State.fullContext (s : State) (b : Bytes) (at_ : Nat) (theta : Int) (n : Nat) : State :=
  let s := ctxConfigOffs.zipIdx.foldl (fun s p =>
    s.setWord (ctxOff n p.1) (BitVec.ofNat 32 (snapWord b (at_ + 12 * n + p.2)))) s
  let s := s.wr (Reg.ANT_CTX_STAT_STATE n) (snapCtx b n 6)
  (s.setCtxPeriod n (snapPeriod b n)).setCtx n { s.ctx n with pb := snapPb b n, tb := snapTb b n - theta * 2 ^ 32 }

/-- The calendar holds the events that a FULL epoch carries, written to its area (R426). -/
def State.fullEvents (s : State) (es : List CalEvent) : State :=
  let s := s.setEvents es
  let s := es.foldl (fun s e => s.storeUnlaid 24 e.slot 32) s
  { s with cal := { s.cal with nextOrder := es.foldl (fun m x => max m (x.order + 1)) 0, held := none } }

/-- FULL_APPLY (R426): configurations, contexts, records and calendar events as rank 0 had them; EMI_FRAME and the place in the cue log are
set; the member enters CATCHUP. -/
def State.applyFull (s : State) (e : EpochSt) : State :=
  let b := e.data
  let at_ := 2051 + 3 * snapCount b
  let theta := s.epochTheta e
  let s := (List.range 128).foldl (fun s n => s.fullContext b at_ theta n) s
  let recs := at_ + 12 * 128
  let s := (List.range 4).foldl (fun s k =>
    (s.wr (Reg.OTU_MODE_CTX k) (snapWord b (recs + 2 * k))).wr (Reg.OTU_MODE_PHASE k) (snapWord b (recs + 2 * k + 1))) s
  let evs := recs + 8
  let s := s.fullEvents ((List.range (snapWord b evs)).map (fun i => eventOfWords (fun j => snapWord b (evs + 1 + 7 * i + j))))
  let s : State := { s with roo := { s.roo with
    epochs := s.roo.epochs.filter (fun x => x.kind != 2), entries := s.roo.entries.filter (fun x => decide (e.lsnLast < x.lsn)),
    appliedLsn := e.lsnLast, lagSince := none, joinSince := none } }
  let s := (s.setF e.applyF).wr Reg.ROO_EPOCH e.number
  (s.wr Reg.OTU_SEL (snapWord b 0)).setRooState 2

end Sys2Proof.Machine
end

