-- ==== Sys2Proof/Machine/Otu.lean ====
section
/-! DEFINITION. The output timing unit: the chain of apexes, latches, commits, timing switches, deadlines, misses and the safe
look (R325-R347), and the rows that drive it. -/
namespace Sys2Proof.Machine

def State.setOtu (s : State) (o : OtuSt) : State := { s with otu := o }

/-! ### Apexes (R325, R326) -/

/-- The context and PHASE of a timing mode record. -/
def State.modeCtx (s : State) (rec_ : Nat) : Nat := s.rd (Reg.OTU_MODE_CTX rec_)
def State.modePhase (s : State) (rec_ : Nat) : Int := sext 32 (s.rd (Reg.OTU_MODE_PHASE rec_))

/-- The effective period in force of a context in 2^-32 ns; before any boundary has passed, the one its registers give (R57). -/
def State.framePeriod (s : State) (n : Nat) : Nat :=
  if s.ctxPeriod n = 0 then (s.ctxEffective n).getD (10 ^ 9 * 2 ^ 32 / 60) else s.ctxPeriod n

/-- Boundary `k` of a context after its anchor: its instant in ns, as R61 converts, and the position there. A moving context has one
at each whole position, a held one at each period (R57). -/
def State.boundaryAt (s : State) (n : Nat) (k : Int) : Int × Int :=
  let c := s.ctx n
  let per : Int := s.framePeriod n
  if s.ctxMoving n then
    let q := (c.pb / 2 ^ 24 + k) * 2 ^ 24
    (s.anchorNs n + roundDiv ((q - c.pb) * per) (2 ^ 56), q)
  else (s.anchorNs n + roundDiv (k * per) (2 ^ 32), c.pb)

/-- The earliest boundary of a context at or after an instant in ns (R326). -/
def State.boundaryFrom (s : State) (n : Nat) (x : Int) : Int × Int :=
  let c := s.ctx n
  let k := (x * 2 ^ 32 - c.tb) / (s.framePeriod n : Int)
  match ([k - 1, k, k + 1, k + 2].map (s.boundaryAt n)).find? (fun b => decide (x ≤ b.1)) with
  | some b => b
  | none => s.boundaryAt n (k + 3)

/-- The greatest and least slot period (R326). -/
def slotMax : Nat := 42150000
def slotMin : Nat := 4100000

/-- Whether a boundary of a mode's context is the one that gave the newest apex, which the context's anchor may since have moved: it has
that apex's position and lies within half a period of it (log 78). -/
def State.ownBoundary (s : State) (rec_ : Nat) (b : Int × Int) : Bool :=
  match s.otu.chain with
  | (a, p) :: _ => b.2 == p && decide (2 ^ 33 * (b.1 + s.modePhase rec_ - a).natAbs < s.framePeriod (s.modeCtx rec_))
  | [] => false

/-- The apex that follows `prev` under a mode record, where a slot lasts at least `least` ns: apex, position, and whether a boundary
after `prev`, and other than its own, was passed over or the upper limit acted (R326, R336) (log 78). -/
def State.nextApex (s : State) (rec_ prev least : Nat) : Nat × Int × Bool :=
  let n := s.modeCtx rec_
  let ph := s.modePhase rec_
  let b := s.boundaryFrom n ((prev : Int) + max least slotMin - ph)
  let b0 := s.boundaryFrom n ((prev : Int) + 1 - ph)
  let b0 := if s.ownBoundary rec_ b0 then s.boundaryFrom n (b0.1 + 1) else b0
  let a := (b.1 + ph).toNat
  if a ≤ prev + slotMax then (a, b.2, decide (b0.1 < b.1))
  else (prev + slotMax, s.ctxBackward n (low 32 ((prev + slotMax : Nat) - ph)), true)

/-- Half the effective period in ns, rounded up (R326). -/
def State.halfPeriod (s : State) (rec_ : Nat) : Nat := (s.framePeriod (s.modeCtx rec_) + 2 ^ 33 - 1) / 2 ^ 33

/-- The effective period in whole ns, rounded up (R336). -/
def State.wholePeriod (s : State) (rec_ : Nat) : Nat := (s.framePeriod (s.modeCtx rec_) + 2 ^ 32 - 1) / 2 ^ 32

/-- A limit of R326 acted: RANGE, and RATE_RANGE at most once per second. -/
def State.rateRange (s : State) (rec_ apex : Nat) : State :=
  let s := s.setFlag Reg.OTU_STAT_RANGE true
  let due := match s.otu.rangeAt with | some t => decide (t + 1000000000 ≤ s.time.elapsed) | none => true
  if due then
    (s.setOtu { s.otu with rangeAt := some s.time.elapsed }).raise 0x0E04 (s.modeCtx rec_)
      [s.framePeriod (s.modeCtx rec_) / 2 ^ 32, apex % 2 ^ 32]
  else s

/-- An apex is fixed and joins the chain (R326). -/
def State.fixApex (s : State) (rec_ : Nat) (x : Nat × Int × Bool) : State :=
  let prev := match s.otu.chain with | c :: _ => c.1 | [] => x.1
  let s := if x.2.2 then s.rateRange rec_ x.1 else s
  let s := s.setOtu { s.otu with chain := ((x.1, x.2.1) :: s.otu.chain).take 4 }
  let s := (s.wr Reg.OTU_APEX x.1).wr64 Reg.OTU_APEXPOS_LO Reg.OTU_APEXPOS_HI (low 64 x.2.1)
  s.wr Reg.OTU_PERIOD (x.1 - prev)

/-! ### Start and stop (R328, R329) -/

/-- The output starts with record OTU_SEL.REC, its first latch at `a0` (R328) (log 79). -/
def State.otuBegin (s : State) (a0 : Nat × Int) : State :=
  let s := (s.wr Reg.OTU_STAT_MODE (s.rd Reg.OTU_SEL)).setFlag Reg.OTU_CTRL_ENABLE true
  let s := s.setFlag Reg.OTU_STAT_QUIESCENT false
  s.setOtu { s.otu with chain := [a0], frames := [], next := 0, lastLatch := none, latchedAt := none, lastApex := none, stopping := false,
                        frontDone := false }

/-- OTU_ENABLE (R328): taken while QUIESCENT = 1; a_0 is the earliest apex at least 100 µs ahead. -/
def State.otuEnable (s : State) : State :=
  if s.flag Reg.OTU_CTRL_ENABLE || !s.flag Reg.OTU_STAT_QUIESCENT then s
  else
    let rec_ := s.rd Reg.OTU_SEL
    let b := s.boundaryFrom (s.modeCtx rec_) ((s.now : Int) + 100000 - s.modePhase rec_)
    s.otuBegin ((b.1 + s.modePhase rec_).toNat, b.2)

def execOtuEnable (s : State) : Answer := s.byRegister 0xF0000 <| .next s.otuEnable

/-- OTU_QUIESCENT (R329): the last fixed apex has passed. -/
def State.otuStopped (s : State) : State :=
  if s.otu.stopping && s.otu.frames.isEmpty then
    let s := s.setOtu { s.otu with stopping := false, chain := [] }
    let s := ((s.setFlag Reg.OTU_STAT_RUNNING false).setFlag Reg.OTU_STAT_QUIESCENT true)
    ((s.setFlag Reg.OTU_STAT_SAFE false).setFlag Reg.OTU_STAT_TRANSITION false).raise 0x0E05 0 []
  else s

/-- OTU_DISABLE (R329): no further latch; queued commits are discarded. Before a_0 no frame is left to wait for. -/
def State.otuDisable (s : State) : State :=
  if !s.flag Reg.OTU_CTRL_ENABLE then s
  else
    let s := (s.setFlag Reg.OTU_CTRL_ENABLE false).count Reg.OTU_CDISC s.otu.commits.length
    s.setOtu { s.otu with commits := [], stopping := true }

def execOtuDisable (s : State) : Answer := s.byRegister 0xF0000 <| .next s.otuDisable

/-! ### Commits and switches (R330-R336) -/

/-- A commit writes its register as a host write would (R330, R332); a MODE commit changes no register here. -/
def State.applyCommit (s : State) (w : Nat) : State :=
  let t := commitTarget w
  let v := commitValue w
  let s := s.count Reg.OTU_APPLIED 1
  if t = 1 then (s.ltabNext v).commitNext 0
  else if t = 2 then (s.ftabNext v).commitNext 1
  else if t = 3 then (s.lampNext v).commitNext 2
  else if t = 4 then ((s.wr Reg.EPT_COUNT_NEXT (commitAux w)).eptNext v).commitNext 3
  else s

/-- Whether a commit is due at a latch: its instant has come, and it has arrived no later than the TIME cycle of the latch (R331). -/
def CommitSt.dueAt (c : CommitSt) (latch : Nat) : Bool := decide (c.sched ≤ (latch : Int)) && decide (c.arrival < latch + 2)

/-- Commits due at a latch apply in the order of their arrival; the answer is the record the last request names (R331, R332, R334). -/
def State.applyCommits (s : State) (latch : Nat) : State × Option Nat :=
  let due := s.otu.commits.filter (fun c => c.dueAt latch)
  let s := s.setOtu { s.otu with commits := s.otu.commits.filter (fun c => !c.dueAt latch) }
  due.foldl (fun p c => (p.1.applyCommit c.word, if commitTarget c.word = 5 then some (commitAux c.word) else p.2)) (s, none)

/-- The apex of the frame being latched, with `prev` = A_{N-1} and `pprev` = A_{N-2}: a switch that is due makes its record current,
seamlessly or with a transition frame (R326, R334-R336). The answer says whether the frame is a transition frame. -/
def State.switchAndFix (s : State) (request : Option Nat) (pprev prev : Nat) : State × Bool :=
  let old := s.rd Reg.OTU_STAT_MODE
  let new := request.getD old
  let x := s.nextApex new prev (s.halfPeriod new)
  if new = old then (s.fixApex new x, false)
  else
    let period : Int := (prev - pprev : Nat)
    let tn : Int := s.framePeriod (s.modeCtx new)
    let seamless := decide (100 * (tn - period * 2 ^ 32).natAbs ≤ period.natAbs * 2 ^ 32) &&
      decide (100 * ((x.1 : Int) - prev - period).natAbs ≤ period.natAbs)
    let x := if seamless then x else s.nextApex new prev (s.wholePeriod new)
    let s := (s.wr Reg.OTU_STAT_MODE new).count Reg.OTU_SWITCHES 1
    let s := s.raise 0x0E02 0 [old, new, b2n (!seamless), x.1 % 2 ^ 32]
    (s.fixApex new x, !seamless)

/-! ### The latch -/

/-- Whether a frame's deadline lies ahead. -/
def FrameSt.waiting (f : FrameSt) : Bool := f.phase == .compositing || f.phase == .complete || f.phase == .held

/-- The models that serve a composite: a Roost's snapshot, or the unit's own (R236, R422, R474, R480). The second answer is the
unit's own as they stand at the latch. -/
def State.latchModels (s : State) (snap : Option (List (Nat × (Nat × Nat)))) :
    State × List (Nat × (Nat × Nat)) × List (Nat × (Nat × Nat)) :=
  let (s, own) := s.stepBands (s.rd Reg.SCL_CTRL_XFADE)
  (s, if s.flag Reg.THM_CTRL_NODE_EN then snap.getD own else [], own)

/-- The frame whose apex has just been fixed is latched (R326, R327, R332, R336). -/
def State.latchFrameOn (s : State) (trans : Bool) (models : List (Nat × (Nat × Nat))) : State :=
  let (apex, pos) := s.otu.chain.headD (0, 0)
  let deadline := ((s.otu.chain.drop 1).headD (0, 0)).1
  let n := s.otu.next
  let s := s.countMisses.thmQuiescent
  let s := s.compositeStart n (low 32 (pos / 2 ^ 24)) models (!trans && s.flag Reg.PIX_CTRL)
  let f : FrameSt := { number := n, deadline := deadline, apex := apex, pos := pos,
                       phase := if trans then .held else .compositing, safe := false, table := s.rd Reg.EPT_BASE,
                       count := s.rd Reg.EPT_COUNT, ftab := s.rd Reg.SCL_FTAB, ftStat := (List.range 8).map s.ftStat,
                       bands := models.map (fun m => (m.1, bitsOf m.2.2 2 2)) }
  s.setOtu { s.otu with frames := f :: s.otu.frames, next := n + 1 }

/-- The work of a latch at an instant that has arrived, with A_{N-2} = `pprev` and A_{N-1} = `prev` (R326, R332, R422, R486). -/
def State.latchAt (s : State) (pprev prev : Nat) : State :=
  let s := match s.fullEpoch with | some e => s.applyFull e | none => s
  let (s, snap) := s.latchEpoch pprev
  let (s, request) := s.applyCommits pprev
  let (s, switching) := s.switchAndFix request pprev prev
  let s := s.setOtu { s.otu with lastLatch := some pprev, latchedAt := some s.time.elapsed }
  let s := s.calStep
  let (s, models, own) := s.latchModels snap
  let s := (s.latchFrameOn switching models).wingPeriod
  s.closeEpoch prev own

/-- The first latch a_0 fixes a_1 before it, and sets RUNNING (R328). -/
def State.firstLatch (s : State) (a0 : Nat) : State :=
  let rec_ := s.rd Reg.OTU_STAT_MODE
  let x := s.nextApex rec_ a0 (s.halfPeriod rec_)
  ((s.setFlag Reg.OTU_STAT_RUNNING true).fixApex rec_ x).latchAt a0 x.1

/-- A member whose output is stopped starts it at the latch that its FULL epoch is for (R426): the next apex by the anchors that
the epoch has set. -/
def State.joinLatch (s : State) (e : EpochSt) : State :=
  let s := s.applyFull e
  let rec_ := s.rd Reg.OTU_SEL
  let b := s.boundaryFrom (s.modeCtx rec_) ((s.now : Int) - s.modePhase rec_)
  let a0 := (b.1 + s.modePhase rec_).toNat
  ((s.until a0).otuBegin (a0, b.2)).firstLatch a0

/-- The events that the calendar releases up to the TIME cycle that begins at `last` of the oscillator reach their receivers, one in each
TIME cycle at most; the count bounds how many (R67, R331). -/
def State.offerUpTo (last : Nat) : Nat → State → State
  | 0, s => s
  | k + 1, s =>
    if !s.calOffers || s.isOff 0x08 then s
    else match s.nextEvent with
      | none => s
      | some (e, t) =>
        let u := s.toOffer e t
        if last < u.time.elapsed then s else State.offerUpTo last k (u.offer e)

/-- LATCH (R326, R331): the next composite start arrives. A member that joins applies its FULL epoch here, and starts its output with
this latch as a_0 (R426). The latch waits while a frame's deadline at this instant has not been met; what the calendar releases up to its
TIME cycle is offered before it (R67). -/
def execLatch (s : State) : Answer := s.atStore .latch <| s.whenOn 0x0E <|
  .next (match s.nextLatch, s.fullEpoch with
    | none, none => s
    | none, some e => if s.flag Reg.OTU_STAT_QUIESCENT then s.joinLatch e else s
    | some l, _ =>
      if s.otu.frames.any (fun f => f.waiting && decide (f.deadline ≤ l)) then s
      else
        let s := (State.offerUpTo (s.until l).time.elapsed (s.cal.events.length + 1) s).until l
        if !s.flag Reg.OTU_STAT_RUNNING then s.firstLatch l
        else s.latchAt l (s.otu.chain.headD (0, 0)).1)

/-! ### The safe look (R342-R345) -/

/-- The causes of the safe request: pin, force, latch (R343, R346). -/
def State.safeCauses (s : State) : Nat :=
  b2n s.otu.safeFiltered + 2 * s.rd Reg.OTU_CTRL_SAFE_FORCE + 4 * b2n s.otu.safeLatched

/-- OTU_STAT.SAFE_REQ follows the request. -/
def State.safeRequest (s : State) : State := s.setFlag Reg.OTU_STAT_SAFE_REQ (s.safeCauses != 0)

/-- SAFE_N_CHANGE (R343): the pin takes a level; `low` asserts it. The filter starts anew. -/
def execSafeNChange (lowLevel : Bool) (t : BitVec 64) (s : State) : Answer := s.whenOn 0x0E <|
  let s := s.until t.toNat
  .next (if s.otu.safePin = lowLevel then s
    else s.setOtu { s.otu with safePin := lowLevel, safeSince := some s.now })

/-- SAFE_FILTER_EXPIRY (R343, R345): the pin has held its level for OTU_SAFEFLT µs. -/
def execSafeFilterExpiry (s : State) : Answer := s.whenOn 0x0E <|
  .next (match s.otu.safeSince with
    | none => s
    | some t =>
      let s := s.until (t + s.rd Reg.OTU_SAFEFLT * 1000)
      let asserts := s.otu.safePin && !s.otu.safeFiltered
      let latched := s.otu.safeLatched || (asserts && s.flag Reg.OTU_CTRL_SAFE_LATCH)
      (s.setOtu { s.otu with safeSince := none, safeFiltered := s.otu.safePin, safeLatched := latched }).safeRequest)

/-- A write of SAFE_CLR = 1 clears the latched request while the filtered pin is released (R345). -/
def State.safeClear (s : State) : State :=
  if s.otu.safeFiltered then s else (s.setOtu { s.otu with safeLatched := false }).safeRequest

/-- SAFE_CLR (R345). -/
def execSafeClr (s : State) : Answer := s.byRegister 0xF0000 <| .next s.safeClear

/-! ### Deadlines and apexes (R215, R327, R336, R338-R343) -/

/-- A frame's record is replaced. -/
def State.putFrame (s : State) (f : FrameSt) : State :=
  s.setOtu { s.otu with frames := s.otu.frames.map (fun g => if g.number = f.number then f else g) }

/-- A composite that has not completed at its deadline stops (R215). -/
def State.stopComposite (s : State) (n : Nat) : State :=
  match s.pix.composite with
  | some c =>
    if c.frame = n then
      let s : State := { s with pix := { s.pix with composite := none } }
      ((s.setPixBusy false).count Reg.PIX_OVERRUN 1).raise 0x0A07 0 [(s.time.elapsed - c.start) * 3 / 5, c.pixels]
    else s
  | none => s

/-- A frame completed in time is swapped into the front buffer (R327, R339, R340). -/
def State.swapFrame (s : State) : State :=
  let s := s.wr Reg.PIX_STAT_BUF (1 - s.rd Reg.PIX_STAT_BUF)
  let s : State := { s with pix := { s.pix with frontValid := true }, otu := { s.otu with frontDone := true } }
  s.wr Reg.OTU_STAT_MISSRUN 0

/-- A frame missed its deadline (R338, R340): `f` is the F under which the repeat is sent. -/
def State.missFrame (s : State) (f : Nat) : State :=
  let s := (s.count Reg.OTU_MISSED 1).count Reg.OTU_STAT_MISSRUN 1
  let run := s.rd Reg.OTU_STAT_MISSRUN
  if run ≤ 3 ∨ run % 64 = 0 then s.raise 0x0D01 0 [f, run] else s

/-- The third miss in a row demotes (R341). -/
def State.demoteMissed (s : State) : State :=
  if s.rd Reg.OTU_STAT_MISSRUN = 3 ∧ s.flag Reg.OTU_CTRL_DEMOTE_EN = true then s.demote 2 else s

/-- The F under which the frame swapped now is sent (R253). -/
def State.swapF (s : State) : Nat := (s.slotF + 1) % 2 ^ 32

/-- The safe request is sampled at a swap (R343, R345): SAFE_LOOK at every entry and exit (log 80). -/
def State.sampleSafe (s : State) : State × Bool :=
  let c := s.safeCauses
  let safe := c != 0
  let s := if s.flag Reg.OTU_STAT_SAFE = safe then s else s.raise 0x0E03 0 [b2n safe, c, s.swapF]
  (s.setFlag Reg.OTU_STAT_SAFE safe, safe)

/-- A frame's deadline, now (R98, R336, R338-R343): swap, miss or transition; packing of the frame starts. -/
def State.meetDeadline (s : State) (f : FrameSt) : State :=
  let phase : FramePhase := match f.phase with
    | .complete => .swapped
    | .held => .transition
    | _ => .missed
  let s := s.stopComposite f.number
  let s := if phase = .swapped then s.swapFrame else s
  let s := s.releaseVideo.setFlag Reg.OTU_STAT_TRANSITION (phase == .transition)
  let s := if phase = .missed then s.missFrame s.swapF else s
  let (s, safe) := s.sampleSafe
  let fr := { f with phase := phase, safe := safe }
  let s := if phase = .missed then s.demoteMissed else s
  (s.putFrame fr).packStart fr f.deadline

/-- DEADLINE_SWAP (R338): the deadline of the oldest frame that waits for one; apexes at or before it come first. -/
def execDeadlineSwap (s : State) : Answer := s.atStore .deadlineSwap <| s.whenOn 0x0E <|
  .next (match s.otu.frames.reverse.find? (·.waiting) with
    | none => s
    | some f =>
      if s.otu.frames.any (fun g => !g.waiting && decide (g.apex ≤ f.deadline)) then s
      else (s.until f.deadline).meetDeadline f)

/-- APEX (R327, R329, R475): the apex of the oldest frame in emission arrives; its emission ends. With the output being disabled, the last
one ends it. -/
def execApex (s : State) : Answer := s.atStore .apex <| s.whenOn 0x0E <|
  .next (match s.otu.frames.reverse.find? (fun f => !f.waiting) with
    | none =>
      if s.otu.stopping && s.otu.frames.isEmpty then (s.until (s.otu.chain.headD (0, 0)).1).otuStopped else s
    | some f =>
      if (match s.nextLatch with | some l => decide (l < f.apex) | none => false) then s
      else
      let s := s.until f.apex
      let s := match s.emi.frames.find? (fun x => x.frame.number == f.number) with
        | some x => (s.emiApex x).emiDrained
        | none => s.applyPower [] false
      let s := s.setOtu { s.otu with frames := s.otu.frames.filter (fun g => g.number != f.number), lastApex := some f.apex }
      s.otuStopped)

/-! ### Other rows -/

/-- OTU_SWITCH_GO (R334, R420): a request for a record, which is a cue. -/
def execOtuSwitchGo (rec_ : BitVec 2) (s : State) : Answer := s.byRegister 0xF000C <|
  let v := rec_.toNat + 2 ^ 31
  .next (s.cueWrite 0xF000C v (fun s => s.otuSwitch v))

/-- GRADUAL_STEP (R486): while no output runs, TIME corrections step every 1 ms. -/
def execGradualStep (s : State) : Answer :=
  .next (match s.selfCal.next with
    | none => s
    | some t =>
      if s.flag Reg.OTU_STAT_RUNNING then s
      else if s.selfCal.whole then s.calStep
      else (s.untilElapsed t).calStep)

end Sys2Proof.Machine
end

