-- ==== Sys2Proof/Machine/Pulse.lean ====
section
/-! DEFINITION. TIMEPULSE outputs and GPI inputs (R71-R75, R78, R402). -/
namespace Sys2Proof.Machine

/-! ### TIMEPULSE -/

/-- A once-mode pulse's schedule (R71, R72) (log 89). -/
def State.armOnce (s : State) (k : Nat) (p : PulseSt) : State :=
  let ahead := sext 32 (low 32 ((s.rd (Reg.ANT_TP_START k) : Int) - s.now32))
  let p := { p with periodic := false, activeLow := s.flag (Reg.ANT_TP_CFG_POL k), width := s.rd (Reg.ANT_TP_CFG_WIDTH k),
                    period := 0 }
  let s := s.setFlag (Reg.ANT_TP_STAT_ARMED k) true
  if 0 < ahead then s.setPulse k { p with next := some ((s.now + ahead.toNat) * 2 ^ 32) }
  else ((s.setPulse k { p with next := some (s.time.acc + timeInc s.time.rho) }).setFlag (Reg.ANT_TP_STAT_LATE k) true).raise 0x0707 k []

/-- A periodic output's schedule (R71, R72): a PERIOD below 16 ns is refused, and WIDTH is clamped to PERIOD's whole ns less 2 (log 166). -/
def State.armPeriodic (s : State) (k : Nat) (p : PulseSt) : State :=
  let period := s.rd (Reg.ANT_TP_PERIOD k) * 2 ^ 32 + s.rd (Reg.ANT_TP_PFRAC k)
  if period < 16 * 2 ^ 32 then s.setFlag (Reg.ANT_TP_STAT_BAD k) true
  else
    let ahead := sext 32 (low 32 ((s.rd (Reg.ANT_TP_START k) : Int) - s.now32))
    let first := if 0 < ahead then (s.now + ahead.toNat) * 2 ^ 32
      else s.now * 2 ^ 32 + period - (ahead.natAbs * 2 ^ 32) % period
    (s.setPulse k { p with periodic := true, activeLow := s.flag (Reg.ANT_TP_CFG_POL k),
                           width := min (s.rd (Reg.ANT_TP_CFG_WIDTH k)) (s.rd (Reg.ANT_TP_PERIOD k) - 2),
                           period := period, next := some first }).setFlag (Reg.ANT_TP_STAT_ARMED k) true

/-- TP_ARM (R71-R73): the configuration is latched and the schedule replaced; a pulse in progress completes. -/
def execTpArm (k : Fin 8) (s : State) : Answer := s.byRegister (0x70110 + 0x20 * k.val) <|
  let m := s.rd (Reg.ANT_TP_CFG_MODE k.val)
  .next (if m = 1 then s.armOnce k.val (s.pulse k.val) else if m = 2 then s.armPeriodic k.val (s.pulse k.val) else s)

/-- TP_DISARM (R73). -/
def execTpDisarm (k : Fin 8) (s : State) : Answer := s.byRegister (0x70110 + 0x20 * k.val) <|
  .next ((s.setPulse k.val { s.pulse k.val with next := none }).setFlag (Reg.ANT_TP_STAT_ARMED k.val) false)

/-- The end of a pulse in progress, at the TIME cycle nearest its exact instant. POL acts from the first edge after an ARM: the pulse then
in progress ends at the new inactive level, and the level between pulses stays until that edge (log 167). -/
def State.pulseOff (s : State) (k e : Nat) : State :=
  let s := s.nearest e
  let p := s.pulse k
  (s.setPulse k { p with pulseEnd := none }).emit (.pin "TIMEPULSE" k p.activeLow)

/-- The start of a pulse at the TIME cycle nearest its exact instant, and at once where that has been skipped. -/
def State.pulseOn (s : State) (k t : Nat) : State :=
  let s := s.nearest t
  let p := s.pulse k
  let start := if t + timeInc s.time.rho < s.time.acc then s.time.acc else t
  let s := s.setPulse k { p with next := if p.periodic then some (t + p.period) else none,
                                 pulseEnd := some (start + p.width * 2 ^ 32) }
  let s := s.countMod (Reg.ANT_TP_STAT_COUNT k) 1
  let s := if p.periodic then s else s.setFlag (Reg.ANT_TP_STAT_ARMED k) false
  s.emit (.pin "TIMEPULSE" k (!p.activeLow))

/-- TP_EDGE (R71): the next edge of an output, a pulse's end before the next pulse's start. Periodic pulses whose instants a forward
step of device time skips are made at once, one by one (log 137). -/
def execTpEdge (k : Fin 8) (s : State) : Answer := s.whenOn 0x07 <|
  let p := s.pulse k.val
  .next (match p.pulseEnd, p.next with
    | some e, _ => s.pulseOff k.val e
    | none, some t => s.pulseOn k.val t
    | none, none => s)

/-! ### GPI inputs -/

def State.gpi (s : State) (n : Nat) : GpiSt := tblGet s.gpis gpiIdle n

def State.setGpi (s : State) (n : Nat) (x : GpiSt) : State := { s with gpis := tblSet s.gpis gpiIdle n x }

/-- The debounce time in ns (R402). -/
def State.debounce (s : State) (n : Nat) : Nat :=
  let d := s.rd (Reg.GPI_CFG_DEBOUNCE n)
  if d = 0 then 4 else d * 100000

/-- GPI_TRANSITION (R402): the pin takes a level at `t`; the first transition away from the accepted level is t_first. -/
def execGpiTransition (n : Fin 16) (level : Bool) (t : BitVec 64) (s : State) : Answer := s.whenOn 0x09 <|
  let s := s.until t.toNat
  let g := s.gpi n
  .next (
    if !s.flag (Reg.GPI_CFG_ENABLE n) then s.setGpi n { g with pin := level }
    else
      let first := match g.accepted, g.first with
        | some a, none => if level != a then some s.now else none
        | _, f => f
      s.setGpi n { g with pin := level, first := first, since := some s.now })

/-- GPI_EDGE and GPI_OVERFLOW (R74, R75): an accepted edge that CFG.EDGE selects, timestamped with t_first (log 81) (log 90). -/
def State.gpiEdge (s : State) (n : Nat) (rise : Bool) (t : Nat) : State :=
  let sel := s.rd (Reg.GPI_CFG_EDGE n)
  if !bitOf sel (if rise then 0 else 1) then s
  else
    let pos := if s.flag (Reg.GPI_CFG_CAPTURE n) then s.ctxBackward (s.rd (Reg.GPI_CFG_CTX n)) (t % 2 ^ 32) else 0
    let g := s.gpi n
    let ws := [t % 2 ^ 32, t / 2 ^ 32 % 2 ^ 32, low 32 pos, low 32 (pos / 2 ^ 32), b2n rise]
    if 16 ≤ g.fifo.length then
      let s := (s.raise 0x0901 n ws).count (Reg.GPI_OVF n) 1
      s.raise 0x0902 n [s.rd (Reg.GPI_OVF n)]
    else (s.setGpi n { g with fifo := g.fifo ++ [{ time := t, pos := pos, rise := rise }] }).raise 0x0901 n ws

/-- GPI_DEBOUNCE_EXPIRY (R399, R402, R450): the pin has held its level for the debounce time; an accepted edge of TAPGPI is a tap,
and one of GPISEL wakes. -/
def execGpiDebounceExpiry (n : Fin 16) (s : State) : Answer := s.whenOn 0x09 <|
  let g := s.gpi n
  .next (match g.since with
    | none => s
    | some t0 =>
      let s := s.until (t0 + s.debounce n)
      let s := s.setGpi n { g with accepted := some g.pin, first := none, since := none }
      match g.accepted with
      | some a =>
        if g.pin != a then
          let s := s.gpiEdge n g.pin (g.first.getD t0)
          let s := if s.flag Reg.PWR_WAKE_EN_GPI && s.rd Reg.PWR_WAKE_EN_GPISEL == n.val then s.wakeEvent 4 0 else s
          if s.rd Reg.AUD_TRK_CFG_TAPGPI = n.val then s.tap (g.first.getD t0) else s
        else s
      | none => s)

/-- GPI_POP (R78): the head entry goes. -/
def execGpiPop (n : Fin 16) (s : State) : Answer :=
  s.byRegister (0x90018 + 0x40 * n.val) <| .next (s.setGpi n { s.gpi n with fifo := (s.gpi n).fifo.drop 1 })

/-- GPI_ENABLE (R402): the accepted level is the one held for the debounce time after the enable. -/
def State.gpiEnable (s : State) (n : Nat) : State :=
  if s.flag (Reg.GPI_CFG_ENABLE n) then s
  else (s.setFlag (Reg.GPI_CFG_ENABLE n) true).setGpi n { s.gpi n with accepted := none, first := none, since := some s.now }

def execGpiEnable (n : Fin 16) (s : State) : Answer := s.byRegister (0x90000 + 0x40 * n.val) <| .next (s.gpiEnable n.val)

end Sys2Proof.Machine
end

