-- ==== Sys2Proof/Machine/Roost.lean ====
section
/-! DEFINITION. The Roost's rows: messages in and out, peers and ranks, leases, bulk copies, resyncs, demotion and disabling
(R410-R436). -/
namespace Sys2Proof.Machine

def State.setRoo (s : State) (r : RooSt) : State := { s with roo := r }

/-! ### Ranks (R419, R434) -/

def State.peerValid (s : State) (n : Nat) : Bool := s.flag (Reg.ROO_PEER_STAT_VALID n)
def State.peerState (s : State) (n : Nat) : Nat := s.rd (Reg.ROO_PEER_STAT_STATE n)
def State.peerRank (s : State) (n : Nat) : Nat := s.rd (Reg.ROO_PEER_STAT_RANK n)

/-- A peer in MEMBER (R418). -/
def State.memberPeer (s : State) (n : Nat) : Bool := s.peerValid n && s.peerState n == 3

/-- Whether a peer stands before this unit in (PREF, SERIAL) order (R419). -/
def State.peerBefore (s : State) (n : Nat) : Bool :=
  let p := (s.peer n).pref
  let own := s.rd Reg.ROO_CFG_PREF
  decide (p < own) || (p == own && decide (s.peerSerial n < s.serial))

/-- Entries without a gap from an LSN on. -/
def gapless : Nat → List CueEntry → List CueEntry
  | _, [] => []
  | l, e :: t => if e.lsn = l then e :: gapless (l + 1) t else []

/-- The last LSN of the epochs that a member has applied or verified. -/
def State.completeLsn (s : State) : Nat :=
  (s.roo.epochs.filter (fun e => e.verified && e.kind == 0)).foldl (fun m e => max m e.lsnLast) s.roo.appliedLsn

/-- A new rank 0 keeps what it has verified, discards the incomplete epoch and bulk epochs, and carries the entries it holds without a
gap as its own (R434). -/
def State.takeOver (s : State) : State :=
  let l := s.completeLsn
  let done := s.roo.entries.filter (fun e => decide (e.lsn ≤ l))
  let replay := (gapless (l + 1) (s.roo.entries.filter (fun e => decide (l < e.lsn)))).map (fun e => { e with replay := true, source := none })
  let s := s.setRoo { s.roo with entries := done ++ replay, epochs := s.roo.epochs.filter (fun e => e.verified && e.kind == 0) }
  s.wr Reg.ROO_LSN (l + replay.length)

/-- A standby that outlives rank 0 discards its pending entries (R434). -/
def State.dropPending (s : State) : State :=
  let l := s.completeLsn
  let s := s.setRoo { s.roo with entries := s.roo.entries.filter (fun e => decide (e.lsn ≤ l)),
                                 epochs := s.roo.epochs.filter (fun e => e.verified && e.kind == 0) }
  s.wr Reg.ROO_LSN l

/-- The rank of a member beside the peer that holds rank 0 (R419). -/
def State.standbyRank (s : State) (z : Nat) : Nat :=
  1 + ((List.range 2).filter (fun n => s.memberPeer n && s.peerBefore n && n != z)).length

/-- Ranks are chosen anew (R419): rank 0 keeps it; with none, the first in order takes it; the others follow in order. A standby that has
lost its rank 0 discards its pending entries (R434). -/
def State.chooseRank (s : State) : State :=
  let s := s.wr Reg.ROO_STAT_PEERS ((List.range 2).countP s.memberPeer)
  if s.rooState ≠ 3 then s.wr Reg.ROO_STAT_RANK 3
  else if s.rd Reg.ROO_STAT_RANK = 0 then s
  else
    let members := (List.range 2).filter s.memberPeer
    let before := members.filter s.peerBefore
    match members.find? (fun n => s.peerRank n == 0) with
    | some z => s.wr Reg.ROO_STAT_RANK (s.standbyRank z)
    | none =>
      let s := s.setRoo { s.roo with zero := none }
      if before.isEmpty then (s.wr Reg.ROO_STAT_RANK 0).takeOver.updateRoles
      else (s.wr Reg.ROO_STAT_RANK before.length).dropPending

/-- A member hears from a rank 0 other than the one it has followed, which it may not have declared lost yet: a standby discards its pending
entries (R434), and one that has asked for a full resync asks again (R426). -/
def State.followZero (s : State) (n : Nat) : State :=
  if s.memberPeer n && s.peerRank n == 0 && s.roo.zero != some (s.peerSerial n) then
    let other := s.roo.zero.isSome
    let s := if other && s.rooState == 3 && !s.rooActive then s.dropPending else s
    s.setRoo { s.roo with zero := some (s.peerSerial n), joinAsked := s.roo.joinAsked && !other }
  else s

/-- JOINWAIT counts from the start of JOIN, and anew from the loss of the last MEMBER peer (R418): `had` says that there was one. -/
def State.joinClock (s : State) (had : Bool) : State :=
  if s.rooState = 1 ∧ had = true ∧ (List.range 2).any s.memberPeer = false then s.setRoo { s.roo with joinSince := some s.time.elapsed }
  else s

/-- The bulk copies whose every epoch every MEMBER peer has acknowledged complete (R425). -/
def State.bulkDone (s : State) : State :=
  let members := (List.range 2).filter s.memberPeer
  let finished := s.roo.bulk.filter (fun b => members.all (fun n =>
    (List.range b.epochs).all (fun i => (s.peer n).acked.contains (b.first + i))))
  finished.foldl (fun s b =>
    (s.setRoo { s.roo with bulk := s.roo.bulk.filter (fun x => x != b) }).complete b.ring b.index stOk [members.length, b.epochs]) s

/-- A peer is lost (R416, R419): 1 missed heartbeats, 2 LEAVE, 3 DEMOTED or OFF. Its registers keep what its last HEARTBEAT told (R441). -/
def State.losePeer (s : State) (n cause : Nat) : State :=
  if !s.peerValid n then s
  else
    let ser := s.peerSerial n
    let had := (List.range 2).any s.memberPeer
    let zero := s.roo.zero == some ser
    let s := s.raise 0x1501 n [ser % 2 ^ 32, ser / 2 ^ 32, cause]
    let s := s.setFlag (Reg.ROO_PEER_STAT_VALID n) false
    let s := s.setPeer n { peerIdle with lastPath := (s.peer n).lastPath }
    let s := s.setRoo { s.roo with resyncs := s.roo.resyncs.filter (· != n), joinAsked := s.roo.joinAsked && !zero }
    (s.joinClock had).chooseRank.bulkDone

/-- PEER_LOST (R416): four 1 ms intervals have passed since the peer's last HEARTBEAT. -/
def execPeerLost (n : Fin 2) (s : State) : Answer := s.whenOn 0x15 <|
  .next (match (s.peer n).lastHeard with
    | some t => (s.untilElapsed (t + 4000000)).losePeer n 1
    | none => s)

/-! ### Reception (R410, R413) -/

/-- The types that go on the network path (R413). -/
def netType (type : Nat) : Bool := type == 1 || type == 2 || type == 8 || type == 9

/-- The peer whose serial is the sender's. -/
def State.peerOf (s : State) (serial : Nat) : Option Nat := [0, 1].find? (fun n => s.peerValid n && s.peerSerial n == serial)

/-- A received message's header, HOPPED set, as the forwarding member sends it (R413). -/
def forwardedBytes (m : RoostMsg) (type : Nat) : Bytes :=
  beBytes 2 0x4F58 ++ beBytes 1 (0x10 + type) ++ beBytes 1 1 ++ beBytes 2 m.id.toNat ++
    beBytes 1 (m.state.toNat * 16 + m.rank.toNat) ++ beBytes 1 0 ++ beBytes 8 m.sender.toNat ++ beBytes 8 m.dest.toNat ++
    beBytes 8 m.mseq.toNat ++ beBytes 4 m.f.toNat ++ beBytes 4 m.txtime.toNat ++ beBytes 4 m.payload.length ++ beBytes 4 0 ++ m.payload

/-- ROO_FORWARD (R413): a Silk message for another member leaves once by the other Silk port of a three-member Roost; its tag, which
covers HOPPED, is formed anew (log 2), and it keeps behind the same messages as its sender's own (R425, R523). -/
def State.forwardRoost (s : State) (type : Nat) (m : RoostMsg) : State :=
  if s.rd Reg.ROO_CFG_SIZE = 3 ∧ m.path.val < 2 ∧ m.hopped = false then
    let (a, s) := s.free
    let (b, s) := s.free
    s.roostSilk (9 - m.path.val) type (forwardedBytes m type ++ beBytes 8 a ++ beBytes 8 b) 
      (if type = 15 then 2 else b2n ((type == 4 || type == 5) && beNat (m.payload.take 4) == 1)) false
  else s

/-- A message is received (R410, R413): dropped and counted where a test fails, forwarded when it is for another member, otherwise
handed on with its sender. A unit in OFF takes none, nor one whose Roost block is off. -/
def State.roostRx (s : State) (type : Nat) (m : RoostMsg) (f : State → State) : State :=
  let s := s.until m.time.toNat
  if s.rooState = 0 ∨ s.isOff 0x15 = true then s
  else if m.undefinedType || (m.path.val == 2 && !netType type) || !m.tagOk || m.id.toNat != s.rd Reg.ROO_ID ||
      decide (m.mseq.toNat ≤ tblGet s.roo.mseqs 0 m.sender.toNat) then s.count Reg.ROO_AUTHFAIL 1
  else
    let s := s.setRoo { s.roo with mseqs := tblSet s.roo.mseqs 0 m.sender.toNat m.mseq.toNat }
    if m.dest.toNat = 0 ∨ m.dest.toNat = s.serial then f s else s.forwardRoost type m

def msgField (m : RoostMsg) (at_ n : Nat) : Nat := beNat ((m.payload.drop at_).take n)

/-! ### Heartbeats (R414-R419, R428, R429) -/

/-- HEARTBEAT_TX (R414): every 1 ms while the state is not OFF. -/
def execHeartbeatTx (s : State) : Answer := s.whenOn 0x15 <|
  .next (
    if s.rooState = 0 ∨ s.isOff 0x15 = true then s
    else
      let s := s.untilElapsed (s.roo.nextHeartbeat.getD 0)
      (s.setRoo { s.roo with nextHeartbeat := some (s.time.elapsed + 1000000) }).sendHeartbeat)

/-- The entry of a sender, taken anew with PEER_JOINED where it has none (R437); a member that is DEMOTED or OFF takes none, since it is
lost at once (R416). -/
def State.peerEntry (s : State) (serial state : Nat) : State × Option (Nat × List (Nat × Nat × List Nat)) :=
  match s.peerOf serial with
  | some n => (s, some (n, []))
  | none => match [0, 1].find? (fun n => !s.peerValid n && state != 5 && state != 0) with
    | none => (s, none)
    | some n =>
      let s := (s.setFlag (Reg.ROO_PEER_STAT_VALID n) true).wr64 (Reg.ROO_PEER_SERIAL_LO n) (Reg.ROO_PEER_SERIAL_HI n) serial
      let s := s.wr (Reg.ROO_PEER_MISMATCH n) 0
      (s.setPeer n peerIdle, some (n, [(0x1508, n, [serial % 2 ^ 32, serial / 2 ^ 32])]))

/-- θ from a HEARTBEAT that came on Silk, filtered as MEAS is (R417); `peerRx` is the peer's receive timestamp r2. -/
def State.updateTheta (s : State) (n : Nat) (m : RoostMsg) (peerRx : Nat) : State :=
  if m.path.val = 2 then s
  else
    let s := s.wr (Reg.ROO_PEER_RX n) peerRx
    let a := sext 32 (low 32 ((m.txtime.toNat : Int) - m.time.toNat))
    let b := sext 32 (low 32 ((peerRx : Int) - tblGet s.roo.lastTx 0 m.path.val))
    let sample := (a + b) / 2
    let x := s.peer n
    let th := if x.thetaOk then s.theta n + (sample - s.theta n) / 8 else sample
    (s.setPeer n { x with thetaOk := true }).wr64 (Reg.ROO_PEER_THETA_LO n) (Reg.ROO_PEER_THETA_HI n) (low 64 th)

/-- Whether a second has passed since an instant of the oscillator's time. -/
def State.secondSince (s : State) (t : Option Nat) : Bool :=
  match t with | some t => decide (t + 1000000000 ≤ s.time.elapsed) | none => true

/-- SKEW for equal DIG_F (R417). The answer holds the ROO_SKEW that is due. -/
def State.updateSkew (s : State) (n f apex : Nat) : State × List (Nat × Nat × List Nat) :=
  match s.roo.digests.find? (fun d => d.1 == f) with
  | none => (s, [])
  | some d =>
    let skew := sext 32 (low 32 ((apex : Int) - s.theta n - d.2.2))
    let s := s.wr (Reg.ROO_PEER_SKEW n) (low 32 skew)
    if s.rd Reg.ROO_SKEWMAX < skew.natAbs ∧ s.secondSince (s.peer n).lastSkew = true then
      (s.setPeer n { s.peer n with lastSkew := some s.time.elapsed }, [(0x1505, n, [low 32 skew, f])])
    else (s, [])

/-- Whether this unit demotes when MISMATCH reaches DIGMAX (R429). -/
def State.mismatchDemotes (s : State) : Bool :=
  let bad (n : Nat) := s.peerValid n && decide (s.rd Reg.ROO_DIGMAX ≤ s.rd (Reg.ROO_PEER_MISMATCH n))
  let zero := s.rd Reg.ROO_STAT_RANK == 0
  if s.rd Reg.ROO_CFG_SIZE = 3 then
    let dig (n : Nat) := s.rd64 (Reg.ROO_PEER_DIG_LO n) (Reg.ROO_PEER_DIG_HI n)
    bad 0 && bad 1 && (!zero || dig 0 == dig 1)
  else (bad 0 || bad 1) && !zero

/-- Digests of equal F are compared, once for each frame (R428, R429). The answer holds the notice that is due. -/
def State.compareDigest (s : State) (n f dig : Nat) : State × List (Nat × Nat × List Nat) :=
  match s.roo.digests.find? (fun d => d.1 == f) with
  | none => (s, [])
  | some d =>
    let x := s.peer n
    if x.compared = some f then (s, [])
    else if d.2.1 = dig then
      let s := (s.setPeer n { x with compared := some f }).wr (Reg.ROO_PEER_MISMATCH n) 0
      let s := s.setRoo { s.roo with matchRun := some (s.roo.matchRun.getD 0 + 1) }
      (if s.rooState = 2 ∧ s.memberPeer n = true ∧ s.peerRank n = 0 then
        ((s.wr Reg.ROO_STAT_RANK (s.standbyRank n)).setRooState 3).chooseRank
      else s, [])
    else
      let s := (s.count (Reg.ROO_PEER_MISMATCH n) 1).count Reg.ROO_DIGMIS 1
      let due := s.secondSince x.lastMismatch
      let s := s.setRoo { s.roo with matchRun := some 0 }
      let s := s.setPeer n { x with compared := some f,
                                    lastMismatch := if due then some s.time.elapsed else x.lastMismatch }
      let own := d.2.1
      let s := if s.rooState = 3 ∧ s.mismatchDemotes = true then s.demote 1 else s
      (s, if due then [(0x1506, n, [f, own % 2 ^ 32, own / 2 ^ 32, dig % 2 ^ 32, dig / 2 ^ 32])] else [])

/-- A member in JOIN or LAGGING that finds rank 0 asks it for a full resync, once (R418, R426). -/
def State.askResync (s : State) (n : Nat) : State :=
  if (s.rooState = 1 ∨ s.rooState = 4) ∧ s.roo.joinAsked = false ∧ s.memberPeer n = true ∧ s.peerRank n = 0 then
    (s.setRoo { s.roo with joinAsked := true }).sendRoost 7 (s.peerSerial n) (beBytes 4 2)
  else s

/-- The peer entry as the HEARTBEAT gives it (R414, R441). -/
def State.loadPeer (s : State) (n : Nat) (m : RoostMsg) (pref : Nat) : State :=
  let s := (s.wr (Reg.ROO_PEER_STAT_STATE n) m.state.toNat).wr (Reg.ROO_PEER_STAT_RANK n) m.rank.toNat
  let s := (s.wr (Reg.ROO_PEER_HEALTH n) (msgField m 0 4)).wr (Reg.ROO_PEER_LASTF n) (msgField m 4 4)
  let s := (s.wr64 (Reg.ROO_PEER_DIG_LO n) (Reg.ROO_PEER_DIG_HI n) (msgField m 8 8)).wr (Reg.ROO_PEER_SEEN n) s.now32
  s.setPeer n { s.peer n with pref := pref, lastHeard := some s.time.elapsed,
                              lastPath := tblSet (s.peer n).lastPath 0 m.path.val s.time.elapsed }

/-- Two holders of rank 0 meet: the one that does not come first demotes (R419). -/
def State.mergeRanks (s : State) (n : Nat) : State :=
  if s.rooActive && s.memberPeer n && s.peerRank n == 0 && s.peerBefore n then s.demote 6 else s

/-- A HEARTBEAT of a known or new peer. What it tells of the peer follows, in the order of R98, what it does to the state of this unit. -/
def State.heartbeatFrom (s : State) (m : RoostMsg) (pref peerRx : Nat) : State :=
  let (s, n) := s.peerEntry m.sender.toNat m.state.toNat
  match n with
  | none => s
  | some (n, joined) =>
    let had := (List.range 2).any s.memberPeer
    let s := ((s.loadPeer n m pref).updateTheta n m peerRx).joinClock had
    if m.state.toNat = 5 ∨ m.state.toNat = 0 then s.losePeer n 3
    else
      let (s, skewed) := s.updateSkew n (msgField m 4 4) (msgField m 16 4)
      let (s, differ) := ((s.mergeRanks n).followZero n).chooseRank.compareDigest n (msgField m 4 4) (msgField m 8 8)
      (s.askResync n).raiseInOrder (skewed ++ differ ++ joined)

/-- A path on which a valid HEARTBEAT arrives is noted even when another path brought it before (R441; log 31). -/
def State.notePath (s : State) (m : RoostMsg) : State :=
  match s.peerOf m.sender.toNat with
  | some n =>
    if m.tagOk && m.id.toNat == s.rd Reg.ROO_ID then
      s.setPeer n { s.peer n with lastPath := tblSet (s.peer n).lastPath 0 m.path.val s.time.elapsed }
    else s
  | none => s

/-- HEARTBEAT_RX (R415-R419, R428, R429): `pref` is the sender's PREF and `peerRx` the sender's receive timestamp of this unit's last
HEARTBEAT, which the spec has members know without saying how (log 31). -/
def execHeartbeatRx (m : RoostMsg) (pref : BitVec 4) (peerRx : Word) (s : State) : Answer :=
  .next ((s.roostRx 1 m (fun s => s.heartbeatFrom m pref.toNat peerRx.toNat)).notePath m)

/-- LEAVE_RX (R416): the sender is lost at once. -/
def execLeaveRx (m : RoostMsg) (s : State) : Answer := s.whenOn 0x15 <|
  .next (s.roostRx 2 m (fun s => match s.peerOf m.sender.toNat with
    | some n => s.losePeer n 2
    | none => s))

/-! ### Cue log and epochs (R420-R426) -/

/-- The entries of a CUELOG. -/
def cueEntries : Nat → Bytes → List CueEntry
  | 0, _ => []
  | k + 1, b =>
    let ws := (List.range 8).map (snapWord b)
    { lsn := ws.headD 0, words := ws, source := none, replay := false } :: cueEntries k (b.drop 32)

/-- Entries are held in LSN order, each once. -/
def insertEntry (e : CueEntry) : List CueEntry → List CueEntry
  | [] => [e]
  | a :: t => if e.lsn < a.lsn then e :: a :: t else if e.lsn = a.lsn then a :: t else a :: insertEntry e t

/-- The epoch of a kind and number as received so far. -/
def State.epochSt (s : State) (kind number : Nat) : EpochSt :=
  (s.roo.epochs.find? (fun e => e.kind == kind && e.number == number)).getD
    { kind := kind, number := number, applyF := 0, lsnFirst := 1, lsnLast := 0, chunks := [], length := 0, digest := [],
      closed := false, asked := false, verified := false, sender := 0, theta := 0 }

def State.putEpoch (s : State) (e : EpochSt) : State :=
  s.setRoo { s.roo with epochs := s.roo.epochs.filter (fun x => !(x.kind == e.kind && x.number == e.number)) ++ [e] }

def State.dropEpoch (s : State) (e : EpochSt) : State :=
  s.setRoo { s.roo with epochs := s.roo.epochs.filter (fun x => !(x.kind == e.kind && x.number == e.number)) }

/-- An ACK (R413). -/
def State.ackEpoch (s : State) (e : EpochSt) (result dest : Nat) : State :=
  s.sendRoost 6 dest (beBytes 4 e.kind ++ beBytes 4 e.number ++ beBytes 4 result)

/-- Where the data of a CHUNK is staged in the state-copy area (R128, R425), whose layout the spec does not give (log 107). -/
def stageAddr (at_ : Nat) : Nat := 0x1FA00000 + at_ % 0x1F0000

/-- The Silk port whose requester works for a message: the one that it came by. -/
def silkOf (m : RoostMsg) : Nat := 33 + m.path.val % 2

/-- A verified bulk epoch is copied from the state-copy area into place (R425), POISON with it (R125); `req` is the Silk port's requester.
-/
def State.placeBulk (s : State) (e : EpochSt) (req : Nat) : State :=
  e.chunks.foldl (fun s c =>
    let s := s.touch req (stageAddr c.1) c.2.length
    let bad := (List.range ((c.1 % 8 + c.2.length + 7) / 8)).filter (fun i => s.poisoned (stageAddr c.1 / 8 * 8 + 8 * i))
    bad.foldl (fun s i => s.setMark (c.1 / 8 * 8 + 8 * i) .poison) (s.storeWrite req c.1 c.2)) s

/-- The runs of LSNs from `first` to `last` that a standby does not hold: first and last of each (R423). -/
def missingRuns (held : List Nat) (first last : Nat) : List (Nat × Nat) :=
  (List.range (last + 1 - first)).foldl (fun runs i =>
    let l := first + i
    if held.contains l then runs
    else match runs.getLast? with
      | some (a, b) => if b + 1 = l then runs.dropLast ++ [(a, l)] else runs ++ [(l, l)]
      | none => [(l, l)]) []

/-- A closed epoch is checked (R423, R425): missing entries are asked for once; a complete epoch is verified and acknowledged. -/
def State.checkEpoch (s : State) (e : EpochSt) (req dest : Nat) : State :=
  let es := entriesIn s.roo.entries e.lsnFirst e.lsnLast
  if !e.closed || e.verified then s
  else if es.length < e.lsnLast + 1 - e.lsnFirst then
    (if e.asked then s
     else (missingRuns (es.map (·.lsn)) e.lsnFirst e.lsnLast).foldl (fun s r =>
       s.sendRoost 7 dest (beBytes 4 1 ++ beBytes 4 r.1 ++ beBytes 4 r.2)) (s.putEpoch { e with asked := true }))
  else if e.data.length ≠ e.length then s.ackEpoch e 2 dest
  else if sha256 (entryBytes es ++ e.data) ≠ e.digest then (s.dropEpoch e).ackEpoch e 1 dest
  else if e.kind = 1 then ((s.placeBulk e req).dropEpoch e).ackEpoch e 0 dest
  else (s.putEpoch { e with verified := true }).ackEpoch e 0 dest

/-- Whether the unit takes epochs from rank 0: any member but rank 0 and one demoted (R423, R426). -/
def State.takesEpochs (s : State) : Bool := !s.rooActive && (s.rooState == 1 || s.rooState == 2 || s.rooState == 3 || s.rooState == 4)

/-- CUELOG_RX (R420, R423): a standby holds the entries; what they complete is verified. -/
def execCuelogRx (m : RoostMsg) (s : State) : Answer := s.atStore (.cuelogRx m) <| s.whenOn 0x15 <|
  .next (s.roostRx 3 m (fun s =>
    if !s.takesEpochs then s
    else
      let es := (cueEntries (m.payload.length / 32) m.payload).foldl (fun l e =>
        if e.lsn ≤ s.roo.appliedLsn then l else insertEntry e l) s.roo.entries
      let s := s.setRoo { s.roo with entries := es }
      let s := s.wr Reg.ROO_LSN (es.foldl (fun m e => max m e.lsn) (s.rd Reg.ROO_LSN))
      s.roo.epochs.foldl (fun s e => s.checkEpoch e (silkOf m) m.sender.toNat) s))

/-- CHUNK_RX (R413, R425): data is staged in the state-copy area. -/
def execChunkRx (m : RoostMsg) (s : State) : Answer := s.atStore (.chunkRx m) <| s.whenOn 0x15 <|
  .next (s.roostRx 5 m (fun s =>
    if !s.takesEpochs then s
    else
      let e := s.epochSt (msgField m 0 4) (msgField m 4 4)
      let at_ := msgField m 8 4
      if e.chunks.any (fun c => c.1 == at_) then s
      else
        let e := { e with chunks := e.chunks ++ [(at_, m.payload.drop 12)] }
        ((s.storeUnlaid (silkOf m) (stageAddr at_) (m.payload.length - 12)).putEpoch e).checkEpoch e (silkOf m) m.sender.toNat))

/-- EPOCH_RX (R413, R423, R425): the close of an epoch. -/
def execEpochRx (m : RoostMsg) (s : State) : Answer := s.atStore (.epochRx m) <| s.whenOn 0x15 <|
  .next (s.roostRx 4 m (fun s =>
    if !s.takesEpochs then s
    else
      let e := { s.epochSt (msgField m 0 4) (msgField m 4 4) with
        applyF := msgField m 8 4, lsnFirst := msgField m 12 4, lsnLast := msgField m 16 4, length := msgField m 20 4,
        digest := (m.payload.drop 24).take 32, closed := true, sender := m.sender.toNat,
        theta := match s.peerOf m.sender.toNat with | some n => s.theta n | none => 0 }
      (s.putEpoch e).checkEpoch e (silkOf m) m.sender.toNat))

/-- ACK_RX (R425): rank 0 notes an acknowledged bulk epoch, and completes what that finishes. -/
def execAckRx (m : RoostMsg) (s : State) : Answer := s.whenOn 0x15 <|
  .next (s.roostRx 6 m (fun s => match s.peerOf m.sender.toNat with
    | some n =>
      if s.rooActive && msgField m 0 4 == 1 && msgField m 8 4 == 0 then
        (s.setPeer n { s.peer n with acked := insertNat (msgField m 4 4) (s.peer n).acked }).bulkDone
      else s
    | none => s))

/-- A range of the store is sent as bulk epochs of up to 64 KiB (R425) (log 84). -/
def State.sendBulk (s : State) (dest : Nat) : Nat → Nat → Nat → State
  | 0, _, _ => s
  | k + 1, a, n =>
    let len := min n 65536
    let s := s.touch 33 a len
    let number := s.roo.bulkNumber
    let s := s.setRoo { s.roo with bulkNumber := number + 1 }
    (s.sendEpoch 1 number dest 0 1 0 a [] (s.bytesAt a len)).sendBulk dest k (a + len) (n - len)

/-- RESYNC_RX (R423, R426): rank 0 sends missing entries again, or every valid bulk region, with a FULL epoch at its next latch. -/
def execResyncRx (m : RoostMsg) (s : State) : Answer := s.atStore (.resyncRx m) <| s.whenOn 0x15 <|
  .next (s.roostRx 7 m (fun s => match s.peerOf m.sender.toNat with
    | some n =>
      if !s.rooActive then s
      else if msgField m 0 4 = 1 then
        let es := entriesIn (s.roo.held ++ s.roo.entries) (msgField m 4 4) (msgField m 8 4)
        (List.range ((es.length + 31) / 32)).foldl (fun s i =>
          s.sendRoost 3 m.sender.toNat (entryBytes ((es.drop (32 * i)).take 32))) s
      else if msgField m 0 4 = 2 then
        let s := (List.range 64).foldl (fun s r =>
          if s.flag (Reg.ROO_REG_LEN_VALID r) then
            let len := s.rd (Reg.ROO_REG_LEN_LEN r)
            s.sendBulk m.sender.toNat ((len + 65535) / 65536) (s.rd (Reg.ROO_REG_BASE r)) len
          else s) s
        s.setRoo { s.roo with resyncs := insertNat n s.roo.resyncs }
      else s
    | none => s))

/-- Whether a range lies within one valid bulk region (R425). -/
def State.inRegion (s : State) (a n : Nat) : Bool :=
  (List.range 64).any (fun r => s.flag (Reg.ROO_REG_LEN_VALID r) && decide (s.rd (Reg.ROO_REG_BASE r) ≤ a) &&
    decide (a + n ≤ s.rd (Reg.ROO_REG_BASE r) + s.rd (Reg.ROO_REG_LEN_LEN r)))

/-- ROO_SYNC (R425): rank 0 copies a range as bulk epochs; it completes when every MEMBER peer has acknowledged them. -/
def execRooSync (ring : Fin 64) (s : State) : Answer := s.atStore (.rooSync ring) <|
  .next (s.withDesc ring 0x1501 fun s d =>
    if s.rooState = 0 ∨ s.flag Reg.ROO_CTRL_ENABLE = false then s.complete ring d.index stCancelled []
    else if !s.rooActive then s.complete ring d.index 0x1540 []
    else
      let a := d.w 0
      let n := d.w 1
      if !d.reservedOk false 2 || a % 256 != 0 || n % 256 != 0 || !s.inRegion a n then s.complete ring d.index stBadParam []
      else
        let epochs := (n + 65535) / 65536
        let b : BulkSt := { ring := ring, index := d.index, first := s.roo.bulkNumber, epochs := epochs }
        let s := (s.setPhase ring d.index .working).sendBulk 0 epochs a n
        (s.setRoo { s.roo with bulk := s.roo.bulk ++ [b] }).bulkDone)

/-! ### Leases and roles (R431-R433) -/

/-- LEASE_REQ_TX (R432): with a peer witness, rank 0 asks every 2 ms. -/
def execLeaseReqTx (s : State) : Answer := s.whenOn 0x15 <|
  .next (
    if !s.rooActive || s.rd Reg.ROO_CFG_WITNESS == 0 then s
    else
      let s := s.untilElapsed (s.roo.nextLeaseReq.getD 0)
      let no := (s.roo.requestNo + 1) % 2 ^ 32
      let reqs := (no, s.now) :: s.roo.leaseReqs.filter (fun r => decide (s.now < r.2 + 6000000))
      let s := s.setRoo { s.roo with requestNo := no, leaseReqs := reqs, nextLeaseReq := some (s.time.elapsed + 2000000) }
      s.sendRoost 8 0 (beBytes 4 no))

/-- LEASE_REQ_RX (R432): a standby that sees the sender as rank 0 grants. -/
def execLeaseReqRx (m : RoostMsg) (s : State) : Answer := s.whenOn 0x15 <|
  .next (s.roostRx 8 m (fun s => match s.peerOf m.sender.toNat with
    | some n =>
      if s.rooState = 3 ∧ (s.rd Reg.ROO_STAT_RANK = 1 ∨ s.rd Reg.ROO_STAT_RANK = 2) ∧ s.memberPeer n = true ∧ s.peerRank n = 0 then
        s.sendRoost 9 m.sender.toNat (beBytes 4 (msgField m 0 4))
      else s
    | none => s))

/-- LEASE_GRANT_RX (R432): the lease runs to 6,000 µs after the request was sent, of every request of the last 6,000 µs; it never ends
sooner for a grant of an earlier one (log 174). -/
def execLeaseGrantRx (m : RoostMsg) (s : State) : Answer := s.whenOn 0x15 <|
  .next (s.roostRx 9 m (fun s => match s.roo.leaseReqs.find? (fun r => r.1 == msgField m 0 4) with
    | some (_, sent) =>
      if s.rooActive && s.rd Reg.ROO_CFG_WITNESS != 0 && decide (s.now < sent + 6000000) then
        (s.setRoo { s.roo with leaseEnd := some (max (sent + 6000000) (s.roo.leaseEnd.getD 0)) }).updateRoles
      else s
    | none => s))

/-- A host grant (R432): taken on rank 0 in MEMBER, where the host is a witness. -/
def State.leaseGrant (s : State) : State :=
  if s.rooActive && s.rd Reg.ROO_CFG_WITNESS != 1 then
    (s.setRoo { s.roo with leaseEnd := some (s.now + 6000000) }).updateRoles
  else s

/-- LEASE_GRANT_WRITE (R432). -/
def execLeaseGrantWrite (s : State) : Answer := s.byRegister 0x1D0010 <| .next s.leaseGrant

/-- LEASE_EXPIRY (R431, R433): the lease runs out, and the roles with it. -/
def execLeaseExpiry (s : State) : Answer := s.whenOn 0x15 <|
  .next (match s.roo.leaseEnd with
    | some t =>
      let s := s.until t
      (s.setRoo { s.roo with leaseEnd := none }).updateRoles
    | none => s)

/-! ### Enable, demotion, rejoining, disable (R410, R418, R430, R436) -/

/-- JOIN begins (R418). -/
def State.enterJoin (s : State) : State :=
  let s := s.setRoo { s.roo with joinSince := some s.time.elapsed, joinAsked := false, entries := [], epochs := [], closing := none,
                                 held := [], lagSince := none, demotedAt := none, appliedLsn := 0, zero := none }
  s.setRooState 1

/-- ROO_ENABLE (R410, R418): with a key and while quiescent, the unit enters JOIN; each start counts in MSEQ (R412). One that SAG_WARN has
demoted is in DEMOTED until its next start (R457; log 40). -/
def State.rooEnable (s : State) : State :=
  if !s.flag Reg.ROO_STAT_KEY || !s.flag Reg.ROO_STAT_QUIESCENT then s
  else
    let s := (s.setFlag Reg.ROO_CTRL_ENABLE true).setFlag Reg.ROO_STAT_QUIESCENT false
    let s := s.setRoo { s.roo with starts := (s.roo.starts + 1) % 2 ^ 32, messages := 0, cueGate := false }
    if s.roo.sagged then s.setRooState 5 else s.enterJoin

def execRooEnable (s : State) : Answer := s.byRegister 0x1D0000 <| .next s.rooEnable

/-- ROO_DISABLE (R436): LEAVE with cause 5; no further cue until the next latch; pending entries and queued ROO_SYNCs go (log 85). -/
def State.rooDisable (s : State) : State :=
  if !s.flag Reg.ROO_CTRL_ENABLE then s
  else
    let s := (s.setFlag Reg.ROO_CTRL_ENABLE false).sendRoost 2 0 (beBytes 4 5)
    let gone := s.roo.entries.filterMap (·.source)
    let bulk := s.roo.bulk.map (fun b => (b.ring, b.index))
    let s := s.setRoo { s.roo with entries := [], epochs := [], bulk := [], resyncs := [],
                                   cueGate := s.flag Reg.OTU_STAT_RUNNING }
    let s := (gone ++ bulk).foldl (fun s d => s.complete d.1 d.2 stCancelled []) s
    s.cancelBlock 0x15 0

def execRooDisable (s : State) : Answer := s.byRegister 0x1D0000 <| .next s.rooDisable

/-- ROO_QUIESCENT (R436): STATE becomes OFF, muting ends, QUIESCENT is set and raised. -/
def execRooQuiescent (s : State) : Answer := s.whenOn 0x15 <|
  .next (
    if s.flag Reg.ROO_CTRL_ENABLE || s.flag Reg.ROO_STAT_QUIESCENT then s
    else ((s.setRooState 0).setFlag Reg.ROO_STAT_QUIESCENT true).raise 0x1509 0 [])

/-- ROO_DEMOTE (R430): a host write of ROO_CTRL.DEMOTE = 1. -/
def execRooDemote (s : State) : Answer := s.byRegister 0x1D0000 <| .next (s.demote 5)

/-- A demoted member rejoins 100 ms after its demotion, for a cause that permits it (R430). -/
def State.rejoin (s : State) (causes : List Nat) : State :=
  match s.roo.demotedAt with
  | some t =>
    if s.rooState = 5 ∧ causes.contains (s.rd Reg.ROO_DEMCAUSE) = true then (s.untilElapsed (t + 100000000)).enterJoin else s
  | none => s

/-- ROO_REJOIN (R430): causes 1, 2, 4, 5 and 6 (log 86). -/
def execRooRejoin (s : State) : Answer := s.byRegister 0x1D0000 <| .next (s.rejoin [1, 2, 4, 5, 6])

/-- AUTOREJOIN_TIMER (R430): with AUTOREJOIN = 1, causes 1, 2, 4 and 6. -/
def execAutorejoinTimer (s : State) : Answer := s.whenOn 0x15 <| .next (if s.flag Reg.ROO_CTRL_AUTOREJOIN then s.rejoin [1, 2, 4, 6] else s)

/-- JOINWAIT_EXPIRY (R418): no MEMBER peer has appeared and no JOIN peer ranks before the unit: it becomes rank 0. -/
def execJoinwaitExpiry (s : State) : Answer := s.whenOn 0x15 <|
  .next (match s.roo.joinSince with
    | none => s
    | some t =>
      if s.rooState ≠ 1 ∨ (List.range 2).any (fun n => s.memberPeer n || (s.peerValid n && s.peerState n == 1 && s.peerBefore n)) = true
      then s
      else
        let s := s.untilElapsed (t + s.rd Reg.ROO_JOINWAIT * 1000000)
        ((s.setRoo { s.roo with joinSince := none }).wr Reg.ROO_STAT_RANK 0).setRooState 3)

/-- LAGGING_TIMEOUT (R430): LAGGING has lasted more than 1 s. -/
def execLaggingTimeout (s : State) : Answer := s.whenOn 0x15 <|
  .next (match s.roo.lagSince with
    | some t => if s.rooState = 4 then (s.untilElapsed (t + 1000000000)).demote 4 else s
    | none => s)

end Sys2Proof.Machine
end

