-- ==== Sys2Proof/Machine/Thermal.lean ====
section
/-! DEFINITION. The thermal update: die sensors, limit, throttle and trip, and the node thermal models (R462-R481). -/
namespace Sys2Proof.Machine

def State.setThm (s : State) (x : ThmSt) : State := { s with thm := x }

/-- A register field read as a signed number of its width. -/
def State.rdInt (s : State) (f : Fld) : Int := sext f.width (s.rd f)

/-- A signed result in the format that holds it: free where it falls outside, for which the spec states no result (log 2). -/
def State.fit (s : State) (width : Nat) (v : Int) : State × Int :=
  if -((2 ^ (width - 1) : Nat) : Int) ≤ v ∧ v < ((2 ^ (width - 1) : Nat) : Int) then (s, v)
  else
    let (f, s) := s.free
    (s, sext width f)

/-- A signed number written to a register field. -/
def State.wrInt (s : State) (f : Fld) (v : Int) : State :=
  let (s, v) := s.fit f.width v
  s.wr f (low f.width v)

/-! ### Die sensors -/

def sensorIdle : SensorSt := { same := [], deviating := 0, pass := 0, failed := none, before := 0 }

def State.sensor (s : State) (r : Nat) : SensorSt := tblGet s.thm.sensors sensorIdle r

def State.setSensor (s : State) (r : Nat) (x : SensorSt) : State :=
  s.setThm { s.thm with sensors := tblSet s.thm.sensors sensorIdle r x }

/-- A region's coefficient for a rail (R493). -/
def State.sensTheta (s : State) (r d : Nat) : Nat :=
  if d < 4 then bitsOf (s.rd (Reg.THM_SENS_THETA0 r)) (8 * d) 8 else bitsOf (s.rd (Reg.THM_SENS_THETA1 r)) (8 * (d - 4)) 8

/-- What the rails' power adds to a region's prediction: M_r - B in 2^-8 °C (R464). -/
def State.railHeat (s : State) (r : Nat) : Int :=
  roundDiv ((List.range 6).foldl (fun a d => a + s.rd (Reg.THM_PWR d) * s.sensTheta r d) 0 : Nat) 1000

/-- Whether a reading is out of range: below -40 °C, above 150 °C, or a conversion error (R466). -/
def readingOut (v : Int) (bad : Bool) : Bool := bad || decide (v < -10240) || decide (38400 < v)

/-- The baseline after an update, in 2^-16 °C (R464): `us` holds S_r - (M_r - B) of the healthy sensors. -/
def baselineNext (old : Option Int) (first : Bool) (us : List Int) (amb : Int) : Int :=
  if us.length < 2 then old.getD (amb * 256)
  else
    let sum := us.foldl (· + ·) 0 * 256
    let n := us.length
    match old, first with
    | some b, false => b + roundDiv (sum - n * b) (n * 16384)
    | _, _ => roundDiv sum n

/-- The cause for which a sensor's reading counts as failed at an update, 0 for none (R466) (log 51). -/
def sensorCause (x : SensorSt) (out : Bool) (updates : Nat) : Nat :=
  let most := x.same.foldl max (x.same.headD 0)
  let least := x.same.foldl min (x.same.headD 0)
  if out then 1
  else if 1000 ≤ updates ∧ 2000 ≤ x.same.length ∧ 512 < most - least then 2
  else if 1000 ≤ updates ∧ 100 ≤ x.deviating then 3
  else 0

/-- SENSOR_FAULT (R466, R467): one sensor's record at an update, its failure, and its estimate. -/
def State.updateSensor (s : State) (baseline : Int) (r : Nat) (old reading : Int) (bad : Bool) : State :=
  let m := roundDiv baseline 256 + s.railHeat r
  let x := s.sensor r
  let same := if reading = old ∧ s.thm.updates ≠ 0 then (m :: x.same).take 2000 else [m]
  let x := { x with same := same, deviating := if 2048 < (reading - m).natAbs then x.deviating + 1 else 0 }
  let cause := sensorCause x (readingOut reading bad) s.thm.updates
  let x := { x with pass := if cause = 0 then min 1000 (x.pass + 1) else 0 }
  let s := (s.wrInt (Reg.THM_SENS_MODEL r) m).setFlag (Reg.THM_SENS_STAT_PASS1S r) (x.pass == 1000)
  let failsNow := x.failed.isNone && cause != 0
  let before := if s.thm.updates = 0 then m + 1280 else s.rdInt (Reg.THM_SENS_TEMP_EST r)
  let x := if failsNow then { x with failed := some s.time.elapsed, before := before } else x
  let est := match x.failed with
    | none => reading
    | some t => if s.time.elapsed < t + 10000000000 then max (m + 1280) x.before else m + 1280
  let s := (s.setSensor r x).wrInt (Reg.THM_SENS_TEMP_EST r) est
  if failsNow then
    let s := (s.setFlag (Reg.THM_SENS_STAT_FAULT r) true).wr (Reg.THM_SENS_STAT_CAUSE r) cause
    let s := s.wr Reg.THM_STAT_FAULTS (Nat.lor (s.rd Reg.THM_STAT_FAULTS) (2 ^ r))
    s.raise 0x1701 r [cause, low 32 reading, low 32 m]
  else s

/-! ### Limit, throttle and trip -/

/-- A throttle after one step toward its target (R469, R476). -/
def throttleStep (th tgt : Nat) (shift : Nat) : Nat :=
  let d : Int := (tgt : Int) - th
  let m := Int.tdiv d (2 ^ shift)
  ((th : Int) + (if m = 0 then Int.sign d else m)).toNat

/-- THERMAL_LIMIT and THERMAL_CLEAR (R468). -/
def State.thermalLimit (s : State) (hot : Int) : State :=
  let dlim := s.rdInt Reg.THM_DIE_DLIM
  let t := s.thm
  let hotRun := if dlim ≤ hot then min 8 (t.hotRun + 1) else 0
  let coolRun := if hot < dlim - 384 then min 8 (t.coolRun + 1) else 0
  let s := s.setThm { t with hotRun := hotRun, coolRun := coolRun }
  let dth := s.rd Reg.THM_DTH_DTH
  if !s.flag Reg.THM_STAT_LIMIT && hotRun == 8 then
    ((s.setFlag Reg.THM_STAT_LIMIT true).setThm { s.thm with lowest := dth }).raise 0x1702 0
      [low 32 hot, s.rd Reg.THM_STAT_HOTREG, dth]
  else if s.flag Reg.THM_STAT_LIMIT && coolRun == 8 then
    (s.setFlag Reg.THM_STAT_LIMIT false).raise 0x1703 0 [low 32 hot, s.thm.lowest]
  else s

/-- The die throttle moves toward its target (R469). -/
def State.dieThrottle (s : State) (hot : Int) : State :=
  let dlim := s.rdInt Reg.THM_DIE_DLIM
  let cut := ((hot - dlim) * s.rd Reg.THM_DIE_KD + 128) / 256
  let tgt := if hot ≤ dlim then 0x8000 else max (s.rd Reg.THM_TRIP_DMIN : Int) (0x8000 - cut)
  let s := s.wr Reg.THM_DTH_DTH (throttleStep (s.rd Reg.THM_DTH_DTH) tgt.toNat (s.rd Reg.THM_CTRL_THSHIFT))
  s.setThm { s.thm with lowest := min s.thm.lowest (s.rd Reg.THM_DTH_DTH) }

/-! ### Node models -/

/-- The thresholds of a class that a temperature can cross, in 2^-16 °C (R472, R478). -/
def ThmClass.thresholds (c : ThmClass) : List Int := (c.tb.filter (· != 0x7FFF)).map (· * 256)

/-- A model's temperature after an update, before the node's own reading corrects it (R476). -/
def modelTemp (c : ThmClass) (amb : Int) (power : Nat) (t : Int) : Int :=
  let tt := amb * 256 + (power * c.rth + 128) / 256
  t + ((tt - t) * c.alpha + 2 ^ 23) / 2 ^ 24

/-- The node temperature that may correct a model (R317, R476): reported since the last update, by a node that has a sensor, within
range. -/
def State.nodeTemp (s : State) (g : Nat × Nat) : State × Option Int :=
  let p := bitsOf g.1 20 4
  let n := bitsOf g.2 0 8
  if !bitOf g.1 1 || !(s.wing p).fresh.contains n then (s, none)
  else
    let (s, r) := s.readRec p n
    match r with
    | none => (s, none)
    | some r =>
      let t := sext 16 (bitsOf (recWord r 5) 0 16)
      (s, if bitOf (recWord r 3) 26 && !readingOut t false then some t else none)

/-- BAND_DECIDE (R478): the band word after an update, and whether the counted candidates lie below. A pending band equal to the
to-band is dropped (R238). -/
def bandUpdate (c : ThmClass) (t : Int) (v3 : Nat) (below : Bool) : Nat × Bool :=
  let cur := if bitOf v3 14 then bitsOf v3 12 2 else bitsOf v3 2 2
  let u := (c.thresholds.filter (fun b => decide (b < t))).length
  let w := (c.thresholds.filter (fun b => decide (b - 98304 ≤ t))).length
  let dwell := bitsOf v3 16 4
  let put (k : Nat) := withBits v3 16 4 k
  if cur < u ∨ w < cur then
    let down := !decide (cur < u)
    if dwell ≠ 0 ∧ below ≠ down then (put 0, down)
    else if 7 ≤ dwell then
      let band := if down then w else u
      let held := band != bitsOf v3 2 2
      (withBits (withBits (put 0) 12 2 (if held then band else 0)) 14 1 (b2n held), down)
    else (put (dwell + 1), down)
  else (put 0, below)

/-- NODE_THROTTLE (R476): a target that first falls below 0x8000, once per model in 10 s. -/
def State.nodeThrottle (s : State) (m : Nat) (t : Int) (old tgt : Nat) : State :=
  let recent := (s.thm.throttled.find? (fun e => e.1 == m)).any (fun e => decide (s.time.elapsed < e.2 + 10000000000))
  if old < 0x8000 ∨ 0x8000 ≤ tgt ∨ recent then s
  else (s.setThm { s.thm with throttled := tblSet s.thm.throttled 0 m s.time.elapsed }).raise 0x1704 0 [m, low 32 t, tgt]

/-- NODE_MODEL_UPDATE (R476, R478, R479); a model whose state is POISON does not update (log 162). -/
def State.updateModel (s : State) (req m : Nat) (g : Nat × Nat) (c : ThmClass) : State :=
  let (s, ok) := s.readModel req m
  if !ok then s
  else
  let old := sext 32 (s.modelWord m 0)
  let t := modelTemp c (s.rdInt (Reg.THM_AMB (modelZone g.1))) (s.modelWord m 1) old
  let (s, seen) := s.nodeTemp g
  let t := match seen with | some x => t + ((x * 256 - t) * c.kc + 2 ^ 15) / 2 ^ 16 | none => t
  let (s, t) := s.fit 32 t
  let e := t - c.tlim * 256
  let cut := (e * c.kp + 2 ^ 15) / 2 ^ 16
  let tgt := if e ≤ 0 then 0x8000 else (max (c.thmin : Int) (0x8000 - cut)).toNat
  let v2 := s.modelWord m 2
  let th := throttleStep (bitsOf v2 0 16) tgt (s.rd Reg.THM_CTRL_THSHIFT)
  let (v3, below) := bandUpdate c t (s.modelWord m 3) (s.thm.below.contains m)
  let s := s.setModelWord req m 0 (low 32 t)
  let s := s.setModelWord req m 2 (th + tgt * 2 ^ 16)
  let s := s.setModelWord req m 3 v3
  let s := s.setThm { s.thm with below := if below then insertNat m s.thm.below else s.thm.below.filter (· != m) }
  s.nodeThrottle m t (bitsOf v2 16 16) tgt

/-- Every model in use updates (R476) (log 109). -/
def State.updateModels (s : State) : State :=
  let (s, req) := s.anyRequester
  let (s, ms) := s.modelsInUse req
  ms.foldl (fun s m => s.updateModel req m.1 m.2.1 (classOf m.2.2)) s

/-- The reports that nodes have made since the last update are used up (R476). -/
def State.useReports (s : State) : State :=
  (List.range 16).foldl (fun s p => if (s.wing p).fresh.isEmpty then s else s.setWing p { s.wing p with fresh := [] }) s

/-! ### The update -/

/-- The hottest estimate and its region, the lowest region winning a tie (R465). -/
def State.hottest (s : State) : Nat × Int :=
  (List.range 8).foldl (fun a r => if a.2 < s.rdInt (Reg.THM_SENS_TEMP_EST r) then (r, s.rdInt (Reg.THM_SENS_TEMP_EST r)) else a)
    (0, s.rdInt (Reg.THM_SENS_TEMP_EST 0))

/-- The readings of an update are taken, with the baseline and every sensor (R462-R467). -/
def State.updateDie (s : State) (sens : List (Int × Bool)) (power : List Nat) : State :=
  let reading (r : Nat) : Int × Bool := sens.getD r (0, false)
  let olds := (List.range 8).map (fun r => s.rdInt (Reg.THM_SENS_TEMP_READ r))
  let s := (List.range 6).foldl (fun s d => s.wr (Reg.THM_PWR d) (power.getD d 0)) s
  let s := (List.range 8).foldl (fun s r => s.wrInt (Reg.THM_SENS_TEMP_READ r) (reading r).1) s
  let healthy := (List.range 8).filter (fun r => (s.sensor r).failed.isNone && !readingOut (reading r).1 (reading r).2)
  let b := baselineNext s.thm.baseline (s.thm.updates == 0) (healthy.map (fun r => (reading r).1 - s.railHeat r))
    (s.rdInt (Reg.THM_AMB 0))
  let s := s.setThm { s.thm with baseline := some b }
  (List.range 8).foldl (fun s r => s.updateSensor b r (olds.getD r 0) (reading r).1 (reading r).2) s

/-- THM_UPDATE (R462-R470, R476-R478): one update, 1 ms after the last, with the eight readings, each with whether its
conversion failed, and the power of the six rails. -/
def execThmUpdate (sens : List (BitVec 16 × Bool)) (power : List Word) (s : State) : Answer := s.atStore (.thmUpdate sens power) <|
  .next (
    if s.isOff 0x17 then s
    else
      let s := s.untilElapsed s.thm.next
      let s := s.updateDie (sens.map (fun x => (x.1.toInt, x.2))) (power.map (·.toNat))
      let (region, hot) := s.hottest
      let s := (s.wrInt Reg.THM_DTH_HOT hot).wr Reg.THM_STAT_HOTREG region
      let s := (s.thermalLimit hot).dieThrottle hot
      let trip := if s.rdInt Reg.THM_TRIP_TRIP ≤ hot then s.thm.tripRun + 1 else 0
      let s := s.setThm { s.thm with tripRun := trip, updates := s.thm.updates + 1, next := s.time.elapsed + 1000000 }
      if 8 ≤ trip then (s.count Reg.THM_TRIPCNT 1).holdReset 7
      else (if s.flag Reg.THM_CTRL_NODE_EN then s.updateModels else s).useReports)

/-- THERMAL_TRIP_RELEASE (R470): 5 s after the trip. -/
def execThermalTripRelease (s : State) : Answer :=
  .next (
    if s.pwr.held = some 7 then
      let s := s.untilElapsed (s.pwr.heldAt + 5000000000)
      s.setPwr { s.pwr with released := true }
    else s)

/-- The write of STAT.CLR = 1 (R467): ignored unless the sensor has met no cause for 1,000 updates. -/
def State.sensorClr (s : State) (r : Nat) : State :=
  if s.flag (Reg.THM_SENS_STAT_PASS1S r) && s.flag (Reg.THM_SENS_STAT_FAULT r) then
    let s := (s.setFlag (Reg.THM_SENS_STAT_FAULT r) false).wr (Reg.THM_SENS_STAT_CAUSE r) 0
    let s := s.wr Reg.THM_STAT_FAULTS (withBits (s.rd Reg.THM_STAT_FAULTS) r 1 0)
    s.setSensor r { s.sensor r with failed := none }
  else s

/-- SENSOR_CLR (R467). -/
def execSensorClr (r : Fin 8) (s : State) : Answer :=
  s.byRegister (0x1F0108 + 0x20 * r.val) <| .next (if s.isOff 0x17 then s else s.sensorClr r.val)

/-! ### Enabling the models -/

/-- THM_CLASS_BAD (R474, R563): an invalid class is counted and reported, one that reads POISON is not. -/
def State.checkClass (s : State) (req c : Nat) : State :=
  let a := s.rd Reg.THM_PTAB + 32 * c
  let s := s.touch req a 32
  let k (i : Nat) := s.word32At (a + 4 * i)
  if !s.poisonIn a 32 && thmClassBad k then (s.wr Reg.THM_STAT_BADCLS (s.rd Reg.THM_STAT_BADCLS + 1)).raise 0x1706 0 [c, k 7] else s

/-- A model's start (R475, R477): ambient, no throttle, no power, a steady band. -/
def State.startModel (s : State) (req m : Nat) (g : Nat × Nat) (c : ThmClass) : State :=
  let t := s.rdInt (Reg.THM_AMB (modelZone g.1)) * 256
  let band := (c.thresholds.filter (fun b => decide (b < t))).length
  let s := s.setModelWord req m 0 (low 32 t)
  let s := s.setModelWord req m 1 0
  let s := s.setModelWord req m 2 (0x8000 + 0x8000 * 2 ^ 16)
  s.setModelWord req m 3 (band + band * 4)

/-- NODE_EN goes from 0 to 1 (R474, R477). A record that is not in use is no model, and gets no state (log 108). -/
def State.nodeEnSet (s : State) : State :=
  if s.isOff 0x17 || s.flag Reg.THM_CTRL_NODE_EN then s
  else
    let s := ((s.setFlag Reg.THM_CTRL_NODE_EN true).setFlag Reg.THM_STAT_QUIESCENT false).wr Reg.THM_STAT_BADCLS 0
    let s := s.setThm { s.thm with below := [] }
    let (s, req) := s.anyRequester
    let s := (List.range 64).foldl (fun s c => s.checkClass req c) s
    let (s, ms) := s.modelsInUse req
    ms.foldl (fun s m => s.startModel req m.1 m.2.1 (classOf m.2.2)) s

/-- NODE_EN_SET (R477) (log 108). -/
def execNodeEnSet (s : State) : Answer := s.atStore .nodeEnSet <| s.byRegister 0x1F0000 <| .next s.nodeEnSet

/-- NODE_EN goes to 0 (R481): no model updates from now, and the models are quiescent at once while no composite runs. -/
def State.nodeEnClear (s : State) : State :=
  if s.isOff 0x17 || !s.flag Reg.THM_CTRL_NODE_EN then s
  else
    let s := s.setFlag Reg.THM_CTRL_NODE_EN false
    if s.flag Reg.PIX_STAT_BUSY then s else s.thmQuiescent

/-- NODE_EN_CLEAR (R481). -/
def execNodeEnClear (s : State) : Answer := s.byRegister 0x1F0000 <| .next s.nodeEnClear

end Sys2Proof.Machine
end

