-- ==== Sys2Proof/Machine/Wing.lean ====
section
/-! DEFINITION. The WNG rows: ticks, cut-off, LATCH, SCAN, polling, echo, enumeration, replies, ring opcodes and disable
(R289, R295-R297, R302-R312, R316-R321). -/
namespace Sys2Proof.Machine

/-! ### The frame schedule -/

/-- WB_TICK (R289, R294): a TICK starts 4,125 symbol times after the start of the port's last frame. -/
def execWbTick (p : Fin 16) (s : State) : Answer := s.whenOn 0x0F <|
  .next (
    if !s.wingOn p.val then s
    else
      let s := match (s.wing p.val).last with | some t => s.untilElapsed (t + tauNs 4125) | none => s
      let s := s.wingFree p.val
      s.wingPut p.val 4 (wingBytes (wingH0 8 0 true false false (s.wingDir p.val)) 0 0 0 [0, 0, 0, 0] false))

/-- The frame that a port's LATCH is due for: the first launched one whose LATCH has not been sent. -/
def State.latchFrame (s : State) (p : Nat) : Option (EmiFrameSt × WingFrameSt) :=
  s.emi.frames.findSome? (fun x =>
    if x.launched then (x.wings.find? (fun w => w.port == p && !w.latched)).map (fun w => (x, w)) else none)

/-- DATA frames not sent by the cut-off are dropped, counted and raised once (R309). -/
def State.dropLate (s : State) (x : EmiFrameSt) (p : Nat) : State × EmiFrameSt :=
  let mine (q : PacketSt) : Bool := match q.kind with | .wing r _ _ => r == p | _ => false
  let late := x.packets.filter mine
  let x := { x with packets := x.packets.filter (fun q => !mine q) }
  if late.isEmpty || !s.wingOn p || s.flag Reg.ROO_STAT_MUTED then (s, x)
  else
    let first := match late.map (·.kind) with | .wing _ n _ :: _ => n | _ => 0
    (s.count (Reg.WNG_LATEDATA p) late.length).emiOnce x 0x0F07 p [late.length, first]

/-- WB_DATA_CUTOFF (R307, R309): at A_N - Lmax_p - 24 µs. -/
def execWbDataCutoff (p : Fin 16) (s : State) : Answer := s.whenOn 0x0F <|
  .next (match s.latchFrame p.val with
    | none => s
    | some (x, w) =>
      let (s, x) := (s.until (x.cutoff w)).dropLate x p.val
      s.closeFrame x)

/-- The instant of a port's LATCH: A_N - Lmax_p, not before F_N (R307, R249). -/
def EmiFrameSt.latchAt (x : EmiFrameSt) (w : WingFrameSt) : Nat := max x.first ((5 * x.frame.apex - 16 * w.lmax) / 5)

/-- Training of a port that has brought no reply by its LATCH: the setting before it is in force again (R488). -/
def State.trainEnd (s : State) (p : Nat) : State :=
  match s.selfCal.run with
  | some r =>
    if r.result.isNone then
      (s.setWing p { s.wing p with setting := r.setting }).setSelfCal { s.selfCal with run := some { r with result := some none } }
    else s
  | none => s

/-- WB_LATCH_SEND (R252, R295, R307, R310, R339, R418, R488): it is the change launch of every endpoint on the port. -/
def execWbLatchSend (p : Fin 16) (s : State) : Answer := s.whenOn 0x0F <|
  .next (match s.latchFrame p.val with
    | none => s
    | some (x, w) =>
      let (s, x) := s.dropLate x p.val
      let s := (s.untilWing p.val (x.latchAt w)).wingFree p.val
      let sends := s.wingOn p.val && !s.flag Reg.ROO_STAT_MUTED && !(w.training && s.readyPeer)
      let x := { x with wings := x.wings.map (fun v => if v.port = p.val then { v with latched := true } else v),
                        skew := if sends then max x.skew (s.wingTime p.val - x.latchAt w) else x.skew }
      let s := (if w.training then s.trainEnd p.val else s).closeFrame x
      if !sends then s
      else
        (s.wingPut p.val 4 (wingBytes (wingH0 2 0 true w.rep w.stale (s.wingDir p.val)) 0 (frameSeq x.f 1023) x.f [0, 0, 0, 0]
          false)).countMod (Reg.WNG_LATCHES p) 1)

/-! ### SCAN -/

/-- WB_SCAN_SEND (R311, R337): a node's SCAN leaves when it is due, or for a present node one second after the last. -/
def execWbScanSend (p : Fin 16) (n : BitVec 8) (s : State) : Answer := s.atStore (.wbScanSend p n) <| s.whenOn 0x0F <|
  .next (
    let p := p.val
    let n := n.toNat
    let (s, r) := s.readRec p n
    match r with
    | none => s
    | some r =>
      let due := (s.wing p).scanDue.contains n
      if !recValid r || !s.flag (Reg.WNG_PROF_CFG_VALID p (recProfile r)) || !(due || recState r == 1) then s
      else
        let s' := if due then s else s.untilElapsed (tblGet (s.wing p).scanned 0 n)
        let (t, sent) := s'.wingSend p false (wingH0 3 n false false false (s'.wingDir p)) 0 0 (s'.scanPayload p (recProfile r))
        if sent then
          t.setWing p { t.wing p with scanDue := (t.wing p).scanDue.filter (· != n),
                                      scanned := tblSet (t.wing p).scanned 0 n (t.time.elapsed + 1000000000) }
        else s)

/-- WB_PROFILE_WRITE (R311, R324): a write of a word of profile `k`, or a change of the period, computes it again. -/
def execWbProfileWrite (p : Fin 16) (k : Fin 8) (write : Option (Fin 6 × Word)) (s : State) : Answer :=
  s.atStore (.wbProfileWrite p k write) <|
  match write with
  | some (i, v) =>
    let off := 0x100100 + 0x4000 * p.val + 0x20 * k.val + 4 * i.val
    s.byRegister off (.next ((s.loadReg off v.toNat).profileCompute p k))
  | none => s.whenOn 0x0F (.next (s.profileCompute p k))

/-! ### Requests -/

/-- A REQ leaves and its RSP is awaited (R316); the answer says whether it left. -/
def State.sendReq (s : State) (p n kind offset : Nat) (payload : List Nat) (query : Option (Nat × Nat)) : State × Bool :=
  let tag := (s.wing p).tag
  let (t, sent) := s.wingSend p (kind == 2 || kind == 4) (wingH0 5 n false false false (s.wingDir p)) offset (kind + tag * 2 ^ 8)
    payload
  if sent then
    let r : WingReqSt := { node := n, kind := kind, tag := tag, sent := t.time.elapsed, query := query }
    (t.setWing p { t.wing p with reqs := (t.wing p).reqs ++ [r], tag := (tag + 1) % 256 }, true)
  else (s, false)

/-- WB_STATUS_POLL (R304): each valid record is sent a STATUS REQ every STATPER ms. -/
def execWbStatusPoll (p : Fin 16) (n : BitVec 8) (s : State) : Answer := s.atStore (.wbStatusPoll p n) <| s.whenOn 0x0F <|
  .next (
    let p := p.val
    let n := n.toNat
    let (s, r) := s.readRec p n
    match r with
    | none => s
    | some r =>
      if !(s.flag (Reg.WNG_CTRL_POLL_EN p) && recValid r) then s
      else
        let (t, sent) := (s.untilElapsed (tblGet (s.wing p).nextStat 0 n)).sendReq p n 2 0 [0, 0, 0, 0] none
        let again := t.time.elapsed + s.rd (Reg.WNG_PER_STATPER p) * 1000000
        if sent then t.setWing p { t.wing p with nextStat := tblSet (t.wing p).nextStat 0 n again } else s)

/-- WB_ECHO (R305): each present node is echoed every ECHOPER ms. -/
def execWbEcho (p : Fin 16) (n : BitVec 8) (s : State) : Answer := s.atStore (.wbEcho p n) <| s.whenOn 0x0F <|
  .next (
    let p := p.val
    let n := n.toNat
    let (s, r) := s.readRec p n
    match r with
    | none => s
    | some r =>
      if !(s.flag (Reg.WNG_CTRL_ECHO_EN p) && recValid r && recState r == 1) then s
      else
        let (t, sent) := (s.untilElapsed (tblGet (s.wing p).nextEcho 0 n)).sendReq p n 4 0 [0, 0, 0, 0] none
        let again := t.time.elapsed + s.rd (Reg.WNG_PER_ECHOPER p) * 1000000
        if sent then t.setWing p { t.wing p with nextEcho := tblSet (t.wing p).nextEcho 0 n again } else s)

/-- An ENUM leaves an end-A port (R302, R303). -/
def State.sendEnum (s : State) (p count mode eui : Nat) : State × Bool :=
  s.wingSend p false (wingH0 7 0 true false false 0) 0 0 [count, mode, eui % 2 ^ 32, eui / 2 ^ 32]

/-- WB_ENUM_CHECK (R303): an end-A port with AUTOENUM = 1 sends CHECK every ENUMPER ms. -/
def execWbEnumCheck (p : Fin 16) (s : State) : Answer := s.whenOn 0x0F <|
  .next (
    if s.rd (Reg.WNG_CTRL_END p) = 1 ∨ s.flag (Reg.WNG_CTRL_AUTOENUM p) = false then s
    else
      let (t, sent) := (s.untilElapsed ((s.wing p).nextEnum.getD 0)).sendEnum p 0 1 0
      if sent then
        t.setWing p { t.wing p with nextEnum := some (t.time.elapsed + s.rd (Reg.WNG_TMO_ENUMPER p) * 1000000) }
      else s)

/-! ### Replies -/

/-- The flags of an IDENT or STATUS word as B0 holds them (R304, R316): ACTIVE_B, LOCKA, LOCKB, MOVED, WRONGEND. -/
def recFlags (b0 w : Nat) : Nat :=
  let f (b0 at_ bit : Nat) := withBits b0 at_ 1 (bitsOf w bit 1)
  f (f (f (f (f b0 19 5) 20 3) 21 4) 22 1) 23 6

/-- A node that is found or new is to be sent its SCAN at once (R311). -/
def State.scanSoon (s : State) (p n : Nat) : State :=
  s.setWing p { s.wing p with scanDue := insertNat n (s.wing p).scanDue }

/-- An IDENT reply (R303, R323): the record of the node's address, or of its position while it has none. The reply to a WNG_QUERY tells no
position, and WB_NODE_NEW, WB_NODE_MOVED and STAT.CHAIN tell of replies to ENUM; CHAIN of those to CHECK. -/
def State.rspIdent (s : State) (p node : Nat) (position : Option Nat) (w : Nat → Nat) : State :=
  let n := match position with | some k => if bitOf (w 4) 0 then k else node | none => node
  let (s, r) := s.readRec p n
  let s := match r with
    | none => s
    | some r =>
      let s := (s.writeRec p n 0 (recFlags (recWord r 0) (w 4))).writeRec p n 1 (w 0)
      let s := (s.writeRec p n 2 (w 1)).writeRec p n 3
        (bitsOf (w 2) 0 17 + bitsOf (w 3) 16 7 * 2 ^ 17 + bitsOf (w 3) 24 8 * 2 ^ 24)
      s.writeRec p n 7 s.now32
  match position with
  | none => s
  | some k =>
    let s := if bitOf (w 4) 0 then (s.scanSoon p n).raise 0x0F01 p [k, w 0, w 1] else s
    let s := if bitOf (w 4) 1 then s.raise 0x0F04 p [node, k, w 0, w 1] else s
    if bitOf (w 4) 2 && (s.wing p).enums.all (·.mode == 1) then s.wr (Reg.WNG_STAT_CHAIN p) (k + 1) else s

/-- A reply to a WNG_ENUM counts (R319). -/
def State.enumReply (s : State) (p position : Nat) : State :=
  s.setWing p { s.wing p with enums := (s.wing p).enums.map (fun e =>
    { e with replies := e.replies + 1, highest := max e.highest position }) }

/-- SEEN of the node that has replied (R304). -/
def State.recSeen (s : State) (p n : Nat) : State :=
  let (s, r) := s.readRec p n
  if r.isSome then s.writeRec p n 7 s.now32 else s

/-- A STATUS reply (R267, R304, R317): presence, of a record with VALID = 1, sensors, flags, lamp faults and side switches. -/
def State.rspStatus (s : State) (p n : Nat) (w : Nat → Nat) : State :=
  let (s, r) := s.readRec p n
  match r with
  | none => s
  | some r =>
    let was := recState r
    let b0 := recFlags (recWord r 0) (w 0)
    let b0 := if recValid r then withBits (withBits b0 16 2 1) 24 8 0 else b0
    let s := ((s.writeRec p n 0 b0).writeRec p n 5 (w 2)).writeRec p n 6 (w 1)
    let s := s.writeRec p n 7 s.now32
    let s := if was = 1 ∨ recValid r = false then s
      else ((s.wr (Reg.WNG_STAT_NODES p) (s.rd (Reg.WNG_STAT_NODES p) + 1)).scanSoon p n).raise 0x0F03 p [n]
    let old := recWord r 6
    let s := if bitsOf old 0 16 < bitsOf (w 1) 0 16 ∨ bitsOf old 16 16 < bitsOf (w 1) 16 16 then
        s.raise 0x0F05 p [n, bitsOf (w 1) 0 16, bitsOf (w 1) 16 16] else s
    let side := bitsOf (w 6) 0 16
    let seen := tblGet (s.wing p).sides 0 n
    let s := if 0 < seen ∧ seen < side + 1 then s.raise 0x0F06 p [n, side, bitsOf (w 0) 5 1] else s
    s.setWing p { s.wing p with sides := tblSet (s.wing p).sides 0 n (side + 1), fresh := insertNat n (s.wing p).fresh }

/-- An ECHO reply (R305): a sample within RSPTO loads or filters DELAY. -/
def State.rspEcho (s : State) (p n rt : Nat) : State :=
  if s.rd (Reg.WNG_TMO_RSPTO p) * 10000 < rt then s
  else
    let (s, r) := s.readRec p n
    match r with
    | none => s
    | some r =>
      let d := (rt - 800) / 20
      (s.writeRec p n 4 (low 32 (filteredMeas (recLatOk r) (recWord r 4) d))).writeRec p n 0 (withBits (recWord r 0) 18 1 1)

/-- WB_RSP_RX (R303, R305, R316, R317): a RSP that answers an outstanding REQ, or an IDENT that answers an ENUM. -/
def execWbRspRx (p : Fin 16) (r : WingRsp) (s : State) : Answer := s.atStore (.wbRspRx p r) <| s.whenOn 0x0F <|
  let p := p.val
  let n := r.node.toNat
  let kind := r.kind.toNat
  let w (i : Nat) := (r.payload.getD i 0).toNat
  let mine (q : WingReqSt) : Bool := q.node == n && q.kind == kind && q.tag == r.tag.toNat
  .next (match (s.wing p).reqs.find? mine with
    | none => if kind = 1 then (s.rspIdent p n (some r.position.toNat) w).enumReply p r.position.toNat else s
    | some q =>
      let s := s.setWing p { s.wing p with reqs := (s.wing p).reqs.filter (fun q => !mine q) }
      let s := if kind = 1 then s.rspIdent p n none w else if kind = 2 then s.rspStatus p n w
        else (if kind = 4 then s.rspEcho p n r.rt.toNat else s).recSeen p n
      match q.query with
      | none => s
      | some (ring, index) => match (s.ring ring).descs.find? (fun d => d.index == index) with
        | none => s
        | some d =>
          (s.writeHost d.addr (wordsBytes (r.payload.map (·.toNat)))).complete ring index stOk [r.payload.length])

/-- A STATUS miss (R267, R304) of a record with VALID = 1: at 3 a present node is absent. -/
def State.wingMiss (s : State) (p n : Nat) : State :=
  let (s, r) := s.readRec p n
  match r with
  | none => s
  | some r =>
    let m := min 255 (recMisses r + 1)
    let b0 := withBits (recWord r 0) 24 8 m
    if recValid r = false then s
    else if 3 ≤ m ∧ recState r = 1 then
      ((s.writeRec p n 0 (withBits (withBits b0 16 2 2) 18 1 0)).wr (Reg.WNG_STAT_NODES p)
        (s.rd (Reg.WNG_STAT_NODES p) - 1)).raise 0x0F02 p [n]
    else s.writeRec p n 0 b0

/-- WB_RSP_TIMEOUT (R316, R319): RSPTO after the oldest request without its RSP, or after a WNG_ENUM's frame. -/
def execWbRspTimeout (p : Fin 16) (s : State) : Answer := s.atStore (.wbRspTimeout p) <| s.whenOn 0x0F <|
  let p := p.val
  let limit := s.rd (Reg.WNG_TMO_RSPTO p) * 1000
  let endEnum (e : WingEnumSt) (s : State) : State :=
    let s := s.untilElapsed e.until_
    (s.setWing p { s.wing p with enums := (s.wing p).enums.drop 1 }).complete e.ring e.index stOk [e.replies, e.highest]
  let endReq (q : WingReqSt) (s : State) : State :=
    let s := s.untilElapsed (q.sent + limit)
    let s := (s.setWing p { s.wing p with reqs := (s.wing p).reqs.drop 1 }).count (Reg.WNG_RSPMISS p) 1
    let s := if q.kind = 2 then s.wingMiss p q.node else s
    match q.query with
    | some (ring, index) => s.complete ring index 0x0F40 []
    | none => s
  .next (match (s.wing p).enums.head?, (s.wing p).reqs.head? with
    | some e, some q => if e.until_ ≤ q.sent + limit then endEnum e s else endReq q s
    | some e, none => endEnum e s
    | none, some q => endReq q s
    | none, none => s)

/-! ### Reception -/

/-- What a port makes of a received frame from header to CRC (R294, R296, R297). -/
inductive WingCheck where
  | bad | other | used
  deriving DecidableEq, Repr

/-- The payload words that a TYPE allows (R294). -/
def wingLenOk (type len : Nat) : Bool :=
  if type = 1 ∨ type = 15 then decide (4 ≤ len) && decide (len ≤ 1024)
  else if type = 3 then len == 8
  else if type = 4 then decide (4 ≤ len) && decide (len ≤ 1024) && len % 2 == 0
  else if type = 6 then decide (4 ≤ len) && decide (len ≤ 256)
  else decide (type = 2 ∨ type = 5 ∨ type = 7 ∨ type = 8) && len == 4

def wingCheck (dir : Nat) (data : Bytes) : WingCheck :=
  let word (i : Nat) := leNat ((data.drop (4 * i)).take 4)
  let len := bitsOf (word 1) 0 11
  let body := data.take (data.length - 4)
  if data.length ≠ 4 * len + 20 ∨ len < 4 ∨ 1024 < len then .bad
  else if crc32 body ≠ leNat (data.drop (data.length - 4)) then .bad
  else if bitsOf (word 0) 4 4 ≠ 1 ∨ bitsOf (word 0) 20 12 ≠ 0 ∨ bitsOf (word 1) 11 5 ≠ 0 ∨
      wingLenOk (bitsOf (word 0) 0 4) len = false then .bad
  else if bitsOf (word 0) 0 4 = 6 then .used
  else if bitsOf (word 0) 19 1 ≠ dir then .other
  else .bad

/-- What a port makes of the code groups behind an SOF (R287, R296): an EOF comes within 4,119 symbols of the SOF. -/
def wingReceived (dir : Nat) (groups : List WireGroup) : WingCheck :=
  match wireBody (groups.take 4117) with
  | some data => wingCheck dir data
  | none => .bad

/-- WB_PORT_RX (R296, R297): `first` and then `groups` are the code groups that a port receives behind an SOF. -/
def execWbPortRx (p : Fin 16) (first : WireGroup) (groups : List WireGroup) (s : State) : Answer := s.whenOn 0x0F <|
  .next (match wingReceived (s.wingDir p) (first :: groups) with
    | .bad => s.count (Reg.WNG_RXBAD p) 1
    | .other => (s.countMod (Reg.WNG_RXFRAMES p) 1).setFlag (Reg.WNG_STAT_LOOP p) true
    | .used => s.countMod (Reg.WNG_RXFRAMES p) 1)

/-- WB_LINK (R322, R323). -/
def execWbLink (p : Fin 16) (lock : Bool) (s : State) : Answer := s.whenOn 0x0F <|
  .next (
    if s.flag (Reg.WNG_STAT_RXLOCK p) = lock then s
    else (s.setFlag (Reg.WNG_STAT_RXLOCK p) lock).raise 0x0F0A p [b2n lock])

/-! ### Ring opcodes (R319, R320) -/

/-- WNG_ENUM (R319). -/
def execWngEnum (ring : Fin 64) (s : State) : Answer :=
  .next (s.withDesc ring 0x0F01 fun s d =>
    let p := s.ringInst ring
    let mode := bitsOf (d.w 0) 0 2
    if !d.reservedOk false 3 || mode == 3 || bitsOf (d.w 0) 2 6 != 0 || bitsOf (d.w 0) 16 16 != 0 then
      s.complete ring d.index stBadParam []
    else if !s.wingOn p then s.complete ring d.index stCancelled []
    else if s.rd (Reg.WNG_CTRL_END p) = 1 then s.complete ring d.index 0x0F41 []
    else
      let (t, sent) := s.sendEnum p (bitsOf (d.w 0) 8 8) mode (d.w 1 + d.w 2 * 2 ^ 32)
      if sent then
        let e : WingEnumSt := { ring := ring, index := d.index, mode := mode, replies := 0, highest := 0,
                                until_ := (t.wing p).free + t.rd (Reg.WNG_TMO_RSPTO p) * 1000 }
        (t.setWing p { t.wing p with enums := (t.wing p).enums ++ [e] }).setPhase ring d.index .working
      else s)

/-- Whether a WNG_SEND's words and length are as R319 requires. -/
def sendWordsOk (d : Desc) : Bool :=
  let type := bitsOf (d.w 0) 0 4
  d.reservedOk true 2 && (type == 4 || type == 15) && bitsOf (d.w 0) 4 4 == 0 && bitsOf (d.w 0) 17 15 == 0 &&
    d.len % 4 == 0 && decide (16 ≤ d.len) && decide (d.len ≤ 4096) && (type != 4 || d.len % 8 == 0)

/-- WNG_SEND (R319): `data` is the payload read from the host buffer. -/
def execWngSend (ring : Fin 64) (data : Bytes) (hostError : Bool) (s : State) : Answer :=
  .next (s.withDesc ring 0x0F02 fun s d =>
    let p := s.ringInst ring
    if !sendWordsOk d then s.complete ring d.index stBadParam []
    else if !s.wingOn p then s.complete ring d.index stCancelled []
    else if hostError then (s.emit (.hostRead d.addr d.len)).complete ring d.index stBadAddr []
    else
      let words := (List.range (d.len / 4)).map (fun i => leNat ((data.drop (4 * i)).take 4))
      let bcast := bitOf (d.w 0) 16
      let node := if bcast then 0 else bitsOf (d.w 0) 8 8
      let (t, sent) := s.wingSend p false (wingH0 (bitsOf (d.w 0) 0 4) node bcast false false (s.wingDir p)) 0 (d.w 1) words
      if sent then ((t.emit (.hostRead d.addr d.len)).wingFree p).complete ring d.index stOk [0] else s)

/-- The payload words of a query's reply; 0 for a query that breaks R316. -/
def replyWords (d : Desc) : Nat :=
  let kind := bitsOf (d.w 0) 8 4
  if kind = 1 ∨ kind = 2 then 8
  else if kind = 4 ∨ kind = 5 then 4
  else if kind = 3 then
    (let c := bitsOf (d.w 1) 16 9
     if 4 ≤ c ∧ c ≤ 256 ∧ bitsOf (d.w 1) 0 16 % 32 = 0 ∧ bitsOf (d.w 1) 25 3 = 0 ∧ bitsOf (d.w 1) 29 3 = 0 then c else 0)
  else 0

/-- WNG_QUERY (R316, R319). -/
def execWngQuery (ring : Fin 64) (s : State) : Answer :=
  .next (s.withDesc ring 0x0F03 fun s d =>
    let p := s.ringInst ring
    let kind := bitsOf (d.w 0) 8 4
    if !d.reservedOk true 2 || d.w 0 / 2 ^ 12 != 0 || replyWords d == 0 || decide (d.len < 4 * replyWords d) then
      s.complete ring d.index stBadParam []
    else if !s.wingOn p then s.complete ring d.index stCancelled []
    else
      let w0 := if kind = 3 then bitsOf (d.w 1) 16 9 + bitsOf (d.w 1) 28 1 * 2 ^ 16 else if kind = 5 then d.w 1 else 0
      let offset := if kind = 3 then bitsOf (d.w 1) 0 16 else 0
      let (t, sent) := s.sendReq p (bitsOf (d.w 0) 0 8) kind offset [w0, 0, 0, 0] (some (ring.val, d.index))
      if sent then t.setPhase ring d.index .working else s)

/-! ### Disable -/

/-- WB_DISABLE (R321, R490). -/
def execWbDisable (p : Fin 16) (s : State) : Answer := s.byRegister (0x100000 + 0x4000 * p.val) <| .next (s.disableWing p)

/-- WB_QUIESCENT (R321): the frame being sent has finished and nothing is left to complete. -/
def execWbQuiescent (p : Fin 16) (s : State) : Answer := s.whenOn 0x0F <|
  let w := s.wing p
  .next (
    if !s.flag (Reg.WNG_CTRL_ENABLE p) && !s.flag (Reg.WNG_STAT_QUIESCENT p) && w.enums.isEmpty &&
        w.reqs.all (fun q => q.query.isNone) then
      let s := s.wingFree p
      ((s.setWing p { s.wing p with reqs := [], scanDue := [], last := none }).setFlag (Reg.WNG_STAT_QUIESCENT p) true).raise
        0x0F0B p []
    else s)

end Sys2Proof.Machine
end

