-- ==== Sys2Proof/Machine/Access.lean ====
section
/-! DEFINITION. Register accesses through BAR0, a Hawk core's block windows and BAR4 (R14-R17, R23, R26-R32, R80, R153, R455): the
effect of a write on each block's registers, the value of a read, and the errors of GLB. -/
namespace Sys2Proof.Machine

/-- What a meaning leaves: a register write with a row of its own acts as that row does. -/
def after (a : Answer) (s : State) : State :=
  match a with
  | .next t => t
  | _ => s

/-- A write that leaves the bits of `keep` as they are: fields whose write acts by itself. -/
def State.loadOver (s : State) (off v keep : Nat) : State :=
  s.loadReg off (Nat.lor (Nat.land (s.word off).toNat keep) (v - Nat.land v keep))

/-- The element of an array and the offset within it. -/
def elemOf (off base stride : Nat) : Nat × Nat := ((off - base) / stride, (off - base) % stride)

/-! ### Writes, block by block -/

/-- HST (R110): a ring's setting is taken only while the ring is quiescent. -/
def State.writeHst (s : State) (off v : Nat) : State :=
  let (n, o) := elemOf off 0x11000 0x40
  if off < 0x11000 ∨ 0x12000 ≤ off then s.loadReg off v
  else if o = 0x1C then after (if v % 2 = 1 then execRingEnable (Fin.ofNat 64 n) s else execRingDisable (Fin.ofNat 64 n) s) s
  else if (o < 0x1C ∨ o = 0x28) ∧ (s.flag (Reg.HST_RING_CTRL n) || !s.flag (Reg.HST_RING_STAT_QUIESCENT n)) = true then s
  else s.loadReg off v

/-- STO (R147): the scrubber. -/
def State.writeSto (s : State) (off v : Nat) : State :=
  if off = 0x20000 then
    (if v % 2 = 1 then (s.setFlag Reg.STO_CTRL true).setFlag Reg.STO_STAT_SCRUB_QUIESCENT false else s.setFlag Reg.STO_CTRL false)
  else s.loadReg off v

/-- HWK (R172, R173). -/
def State.writeHwk (s : State) (off v : Nat) : State :=
  let (n, o) := elemOf off 0x40000 0x1000
  if off < 0x48000 ∧ o = 0 then
    let s := after (if v % 2 = 1 then execHwkEnable (Fin.ofNat 8 n) s else execHwkDisable (Fin.ofNat 8 n) s) s
    if bitOf v 1 then s.resetCore n else s
  else (s.loadReg off v).wakeNext

/-- A ready queue is enabled, while it is quiescent (R174). -/
def State.readyEnable (s : State) (k : Nat) : State :=
  if s.flag (Reg.TSK_Q_STAT_QUIESCENT k) then
    let s := s.setFlag (Reg.TSK_Q_CTRL k) true
    if s.flag Reg.TSK_CTRL_ENABLE then s.setFlag (Reg.TSK_Q_STAT_QUIESCENT k) false else s
  else s

/-- TSK (R174). -/
def State.writeTsk (s : State) (off v : Nat) : State :=
  let (k, o) := elemOf off 0x50100 0x10
  if off = 0x50000 then
    let s := s.loadOver off v 1
    after (if v % 2 = 1 then execTskEnable s else execTskDisable s) s
  else if 0x50100 ≤ off ∧ off < 0x50200 ∧ o = 0 then
    (if v % 2 = 1 then s.readyEnable k else after (execTskQDisable (Fin.ofNat 16 k) s) s)
  else s.loadReg off v

/-- QUE (R176, R179-R182): READY follows CUT; THRESH causes no crossing by itself. -/
def State.writeQue (s : State) (off v : Nat) : State :=
  let (q, o) := elemOf off 0x60000 0x40
  let f : Fin 32 := Fin.ofNat 32 q
  if 0x60800 ≤ off then s.loadReg off v
  else if o = 0 then after (if v % 2 = 1 then execQueEnable f s else execQueDisable f s) s
  else if o = 8 then ((s.loadReg off v).setQueue q (s.queue q)).wakeNext
  else if o = 0xC then
    let s := s.loadReg off v
    if v % 2 = 1 then after (execQueNoticeClear f s) s else s
  else if o = 0x18 then s.wr (Reg.QUE_PUSH_LO q) v
  else if o = 0x1C then after (execQueHostPush f (BitVec.ofNat 32 v) s) s
  else s.loadReg off v

/-- Whether a register of a context is one whose write is a cue: CTRL, NUM, DEN, SPEED, LOC, CMD and OFS (R420). -/
def ctxCueOffset (o : Nat) : Bool := [0, 4, 8, 0xC, 0x18, 0x1C, 0x20, 0x28, 0x2C].contains o

/-- ANT (R45, R49, R55, R56, R58, R71, R73) (log 57). -/
def State.writeAnt (s : State) (off v : Nat) : State :=
  let (k, p) := elemOf off 0x70100 0x20
  let (n, o) := elemOf off 0x71000 0x40
  if off = 0x70008 then
    let (x, s) := s.free
    (s.loadOver off v 4).forceHold (bitOf v 2) x
  else if off = 0x7000C then
    let t := s.loadReg off v
    if t.word off = s.word off then s
    else
      let (x, t) := t.free
      t.sourceListChanged x
  else if 0x70100 ≤ off ∧ off < 0x70200 ∧ p = 0x10 then
    (if v % 4 = 1 then after (execTpArm (Fin.ofNat 8 k) s) s
     else if v % 4 = 2 then after (execTpDisarm (Fin.ofNat 8 k) s) s else s)
  else if 0x71000 ≤ off ∧ off < 0x73000 ∧ ctxCueOffset o = true then s.ctxCue n o v
  else s.loadReg off v

/-- CAL (R65, R70) (log 58). -/
def State.writeCal (s : State) (off v : Nat) : State :=
  if off = 0x80000 then
    ((s.calLead false (bitsOf v 8 4)).calLead true (bitsOf v 12 4)).calEnable (bitOf v 0)
  else s.loadReg off v

/-- GPI (R78, R402): a disabled input takes no further edge. -/
def State.writeGpi (s : State) (off v : Nat) : State :=
  let (n, o) := elemOf off 0x90000 0x40
  if 0x90400 ≤ off then s.loadReg off v
  else if o = 0 then
    let s := s.loadOver off v 1
    if v % 2 = 1 then s.gpiEnable n
    else (s.setFlag (Reg.GPI_CFG_ENABLE n) false).setGpi n { s.gpi n with accepted := none, first := none, since := none }
  else if o = 0x18 then (if v % 2 = 1 then after (execGpiPop (Fin.ofNat 16 n) s) s else s)
  else s.loadReg off v

/-- PIX (R191, R201, R216). -/
def State.writePix (s : State) (off v : Nat) : State :=
  let (d, o) := elemOf off 0xB0000 0x20
  if off = 0xA0000 then (if v % 2 = 1 then s.pixEnable else s.setFlag Reg.PIX_CTRL false)
  else if off = 0xA000C then s.ltabNext v
  else if 0xB0000 ≤ off ∧ off < 0xB8000 then (if o = 0x1C then s.surfCommit d v else s.writeShadow d (o / 4) v)
  else s.loadReg off v

/-- SCL (R221, R235, R239). -/
def State.writeScl (s : State) (off v : Nat) : State :=
  if off = 0xC0008 then s.ftabNext v
  else if off = 0xC0010 then s.lampNext v
  else if off = 0xC0014 then s.imagoWrite false v
  else if off = 0xC0018 then s.imagoWrite true v
  else s.loadReg off v

/-- EPT (R244, R283). -/
def State.writeEpt (s : State) (off v : Nat) : State :=
  if off = 0xD0008 then s.eptNext v
  else if off = 0xD000C then s.eptCountNext v
  else if off = 0xD0010 ∧ s.flag Reg.PIX_STAT_QUIESCENT = false then s
  else s.loadReg off v

/-- EMI (R278, R279): emission starts only while it is quiescent. -/
def State.writeEmi (s : State) (off v : Nat) : State :=
  let (g, o) := elemOf off 0xE1000 0x40
  if off = 0xE0000 then
    let s := s.loadOver off v 1
    if v % 2 = 0 then (if s.flag Reg.EMI_CTRL_ENABLE then s.emiDisable else s)
    else if s.flag Reg.EMI_STAT then (s.setFlag Reg.EMI_CTRL_ENABLE true).setFlag Reg.EMI_STAT false
    else s
  else if 0xE1000 ≤ off ∧ off < 0xE2000 ∧ o = 0 then
    let t := s.loadOver off v 1
    if v % 2 = 0 then t.segDisable g else t.setFlag (Reg.EMI_SEG_CTRL_ENABLE g) true
  else s.loadReg off v

/-- Whether a mode record's phase is one that R325 allows. -/
def phaseOk (v : Nat) : Bool := decide (-4000000 ≤ sext 32 v) && decide (sext 32 v ≤ 4000000)

/-- OTU (R325, R328, R329, R334, R342-R345) (log 62). -/
def State.writeOtu (s : State) (off v : Nat) : State :=
  let (m, o) := elemOf off 0xF0100 0x10
  let base := v % 2 ^ 29
  if off = 0xF0000 then
    let s := (s.loadOver off v 1).safeRequest
    let s := if bitOf v 4 then s.safeClear else s
    if v % 2 = 1 then s.otuEnable else s.otuDisable
  else if off = 0xF000C then s.cueWrite off v (fun s => s.otuSwitch v)
  else if off = 0xF0010 then
    (if base % 256 = 0 ∧ base < 0x1F800000 ∧ base + s.rd Reg.EPT_IMAGOLEN ≤ 0x1F800000 then s.loadReg off v else s)
  else if 0xF0100 ≤ off ∧ off < 0xF0140 then
    (if s.flag Reg.OTU_STAT_RUNNING = true ∧ s.rd Reg.OTU_STAT_MODE = m then s
     else if o = 4 ∧ phaseOk v = false then s else s.loadReg off v)
  else s.loadReg off v

/-- A Wingbeat port is enabled, while it is quiescent (R321). -/
def State.wingEnable (s : State) (p : Nat) : State :=
  if s.flag (Reg.WNG_STAT_QUIESCENT p) && !s.flag (Reg.WNG_CTRL_ENABLE p) then
    (s.setFlag (Reg.WNG_CTRL_ENABLE p) true).setFlag (Reg.WNG_STAT_QUIESCENT p) false
  else s

/-- WNG (R311, R321): NODEBASE, MIRROR and END take writes only while the port is quiescent. -/
def State.writeWng (s : State) (off v : Nat) : State :=
  let (p, o) := elemOf off 0x100000 0x4000
  let quiet := s.flag (Reg.WNG_STAT_QUIESCENT p)
  if o = 0 then
    let s := s.loadOver off v (if quiet then 1 else 0xF3)
    if v % 2 = 1 then s.wingEnable p else s.disableWing p
  else if o = 8 ∧ quiet = false then s
  else if 0x100 ≤ o ∧ o < 0x200 ∧ o % 0x20 / 4 < 6 then
    after (execWbProfileWrite (Fin.ofNat 16 p) (Fin.ofNat 8 ((o - 0x100) / 0x20)) (some (Fin.ofNat 6 (o % 0x20 / 4), BitVec.ofNat 32 v)) s) s
  else s.loadReg off v

/-- MAC (R17, R349, R350, R365, R371, R372, R381, R382): the settings of a PRP pair's ports change only while both are quiescent, and SPEED
and FEC only to a PHY type the port has (log 50) (log 59) (log 150). -/
def State.writeMac (s : State) (off v : Nat) : State :=
  let (p, o) := elemOf off 0x140000 0x4000
  let a := p / 2 * 2
  let pair := decide (p < 8) && (s.pairOn (p / 2) || (decide (p = a) && bitOf v 9))
  let both := s.flag (Reg.MAC_STAT_QUIESCENT a) && s.flag (Reg.MAC_STAT_QUIESCENT (a + 1))
  if o = 0 then
    let s := if pair && !both then s else s.loadOver off v 1
    if v % 2 = 1 then s.macEnable p else s.macDisable p
  else if o = 8 then
    let t := s.loadReg off v
    if s.flag (Reg.MAC_STAT_QUIESCENT p) = false then s
    else
      let t := if macSpeedOk p (t.rd (Reg.MAC_CFG_SPEED p)) then t else t.wr (Reg.MAC_CFG_SPEED p) (s.rd (Reg.MAC_CFG_SPEED p))
      if macFecOk (t.rd (Reg.MAC_CFG_SPEED p)) (t.rd (Reg.MAC_CFG_FEC p)) then t else t.wr (Reg.MAC_CFG_FEC p) (s.rd (Reg.MAC_CFG_FEC p))
  else if o = 0x18 then
    let t := s.loadReg off v
    if t.rd (Reg.MAC_FIFO_LOW p) < t.rd (Reg.MAC_FIFO_HIGH p) then t else s
  else if o = 0x20 then (s.loadReg off v).preemptFollow p
  else if o = 0x2C then (if v % 2 = 1 then s.macClear p else s)
  else s.loadReg off v

/-- Whether a flow of a kind that is not quiescent writes a target (R403). -/
def State.flowBusy (s : State) (kind target : Nat) : Bool :=
  (List.range 32).any (fun f => !s.flag (Reg.VIN_FLOW_CTRL_QUIESCENT f) && s.rd (Reg.VIN_FLOW_CTRL_KIND f) == kind &&
    (kind == 3 || s.flowTarget f == target))

/-- VIN (R393, R403, R405, R406): buffers and settings change only while the function that uses them is quiescent (log 61). -/
def State.writeVin (s : State) (off v : Nat) : State :=
  let (i, o) := elemOf off 0x1A0000 0x100
  let (f, q) := elemOf off 0x1A2000 0x20
  if off < 0x1A1000 then
    if o = 0 ∧ i < 4 then
      let s := s.loadOver off v 1
      if v % 2 = 1 then s.vinEnable i else if s.flag (Reg.VIN_CTRL_ENABLE i) then s.vinDisable i else s
    else if (o = 4 ∨ o = 0xC ∨ o = 0x10) ∧ (!s.flag (Reg.VIN_STAT_QUIESCENT i) || s.flowBusy 1 i) = true then s
    else s.loadReg off v
  else if 0x1A2000 ≤ off ∧ off < 0x1A2400 ∧ q = 0 then
    let s := if v % 2 = 0 ∧ s.flag (Reg.VIN_FLOW_CTRL_ENABLE f) = true then s.vinDisable (16 + f) else s
    let s := if s.flag (Reg.VIN_FLOW_CTRL_QUIESCENT f) then s.loadOver off v 1 else s
    if v % 2 = 1 then s.flowEnable f else s
  else if (off = 0x1A3000 ∨ off = 0x1A3004) ∧ s.flowBusy 3 0 = true then s
  else s.loadReg off v

/-- AUD (R396, R399, R403, R407) (log 60). -/
def State.writeAud (s : State) (off v : Nat) : State :=
  let (c, o) := elemOf off 0x1B1000 0x10
  if off = 0x1B0000 then
    (List.range 7).foldl (fun s fn => if bitOf v fn then s.audEnable fn else s.audDisable fn) (s.loadOver off v 0x7F)
  else if off = 0x1B0204 then
    let t := s.loadReg off v
    if t.rd Reg.AUD_TRK_RANGE_TMIN < bitsOf v 16 9 then t else t.wr Reg.AUD_TRK_RANGE_TMAX (s.rd Reg.AUD_TRK_RANGE_TMAX)
  else if off = 0x1B0208 ∧ bitOf (s.rd Reg.AUD_STAT) 4 = false then s
  else if off = 0x1B020C then (if v % 2 = 1 then s.tap s.now else s)
  else if 0x1B1000 ≤ off ∧ off < 0x1B1480 then
    let quiet := s.flag (Reg.AUD_CH_CFG_QUIESCENT c)
    if o = 0 ∧ quiet = false then s
    else if o = 4 then
      let s := if quiet then s.loadOver off v 0x80000000 else s
      if bitOf v 31 then s.channelEnable c else s.channelDisable c
    else s.loadReg off v
  else s.loadReg off v

/-- A DMX port is enabled, while it is quiescent: its driver is enabled (R270, R280) (log 63). -/
def State.dmxEnable (s : State) (p : Nat) : State :=
  if s.flag (Reg.DMX_STAT_QUIESCENT p) && !s.flag (Reg.DMX_CTRL_ENABLE p) then
    ((s.setFlag (Reg.DMX_CTRL_ENABLE p) true).setFlag (Reg.DMX_STAT_QUIESCENT p) false).driveDmx p true
  else s

/-- DMX (R276, R280): incremental discovery counts its period from the write that starts it. -/
def State.writeDmx (s : State) (off v : Nat) : State :=
  let (p, o) := elemOf off 0x1C0000 0x100
  if off < 0x1C0800 ∧ o = 0 then
    let runs (s : State) := s.flag (Reg.DMX_CTRL_ENABLE p) && s.flag (Reg.DMX_CTRL_DISC_EN p)
    let old := runs s
    let s := s.loadOver off v 1
    let s := if v % 2 = 1 then s.dmxEnable p else if s.flag (Reg.DMX_CTRL_ENABLE p) then s.dmxDisable p else s
    if runs s && !old then
      s.setDmx p { s.dmx p with nextDisc := some (s.time.elapsed + s.rd (Reg.DMX_DISC p) * 1000000000) }
    else s
  else s.loadReg off v

/-- ROO (R410, R430, R432, R436, R440): a bulk region is not valid where it reaches beyond the tables' top (log 153). -/
def State.writeRoo (s : State) (off v : Nat) : State :=
  let (r, o) := elemOf off 0x1D0100 0x10
  let quiet := s.flag Reg.ROO_STAT_QUIESCENT
  if off = 0x1D0000 then
    let s := s.loadOver off v 1
    let s := if v % 2 = 0 then s.rooDisable else if s.flag Reg.ROO_CTRL_ENABLE then s else s.rooEnable
    let s := if bitOf v 2 then s.demote 5 else s
    if bitOf v 3 then s.rejoin [1, 2, 4, 5, 6] else s
  else if (off = 0x1D0004 ∨ off = 0x1D0008) ∧ quiet = false then s
  else if off = 0x1D0004 then
    let t := s.loadReg off v
    if t.rd Reg.ROO_CFG_SIZE = 2 ∧ bitsOf v 8 2 = 1 then t.wr Reg.ROO_CFG_WITNESS (s.rd Reg.ROO_CFG_WITNESS) else t
  else if off = 0x1D0010 then (if v % 2 = 1 then s.leaseGrant else s)
  else if 0x1D0100 ≤ off ∧ off < 0x1D0500 ∧ o < 8 ∧ s.rooState = 3 ∧ s.flag (Reg.ROO_REG_LEN_VALID r) = true then s
  else if 0x1D0100 ≤ off ∧ off < 0x1D0500 ∧ o < 8 then
    let t := s.loadReg off v
    if !t.flag (Reg.ROO_REG_LEN_VALID r) ||
        decide (t.rd (Reg.ROO_REG_BASE r) + t.rd (Reg.ROO_REG_LEN_LEN r) ≤ tableTop) then t
    else if s.flag (Reg.ROO_REG_LEN_VALID r) then s
    else t.setFlag (Reg.ROO_REG_LEN_VALID r) false
  else s.loadReg off v

/-- PWR (R444, R454): the idle mask takes writes only in Run. -/
def State.writePwr (s : State) (off v : Nat) : State :=
  if off = 0x1E0000 then (if v % 2 = 1 then s.releasePads else s)
  else if off = 0x1E0008 ∧ s.rd Reg.PWR_STAT_STATE ≠ 0 then s
  else s.loadReg off v

/-- THM (R467, R471, R477, R481). -/
def State.writeThm (s : State) (off v : Nat) : State :=
  let (r, o) := elemOf off 0x1F0100 0x20
  let base := v % 2 ^ 29
  if off = 0x1F0000 then
    let s := s.loadOver off v 1
    if v % 2 = 1 then s.nodeEnSet else s.nodeEnClear
  else if off = 0x1F0014 ∨ off = 0x1F0018 then
    (if s.flag Reg.THM_STAT_QUIESCENT = true ∧ base % 256 = 0 ∧ base < 0x1F800000 then s.loadReg off v else s)
  else if 0x1F0100 ≤ off ∧ off < 0x1F0200 ∧ o = 8 then (if bitOf v 8 then s.sensorClr r else s)
  else s.loadReg off v

/-- CHY (R496). -/
def State.writeChy (s : State) (off v : Nat) : State :=
  if off = 0x200018 then (if v % 2 = 1 then after (execChyRestartWrite s) s else s) else s.loadReg off v

/-- A write that reaches its block: the matching _HI is sampled afresh by the next read of _LO (R14), and the block's registers take
the value, fields with a behaviour of their own by that behaviour (R15-R17). -/
def State.writeBlock (s : State) (off v : Nat) : State :=
  let s : State := { s with latches := tblSet s.latches none off none }
  match blockOf off with
  | 0x01 => s.writeHst off v
  | 0x02 => s.writeSto off v
  | 0x04 => s.writeHwk off v
  | 0x05 => s.writeTsk off v
  | 0x06 => s.writeQue off v
  | 0x07 => s.writeAnt off v
  | 0x08 => s.writeCal off v
  | 0x09 => s.writeGpi off v
  | 0x0A => s.writePix off v
  | 0x0B => s.writeScl off v
  | 0x0C => s.writeEpt off v
  | 0x0D => s.writeEmi off v
  | 0x0E => s.writeOtu off v
  | 0x0F => s.writeWng off v
  | 0x10 => s.writeMac off v
  | 0x12 => s.writeVin off v
  | 0x13 => s.writeAud off v
  | 0x14 => s.writeDmx off v
  | 0x15 => s.writeRoo off v
  | 0x16 => s.writePwr off v
  | 0x17 => s.writeThm off v
  | 0x18 => s.writeChy off v
  | _ => s.loadReg off v

/-! ### Reads -/

/-- The head entry of a GPI FIFO as its registers show it (R78). -/
def State.readGpi (s : State) (n o : Nat) : Nat :=
  let g := s.gpi n
  let e := g.fifo.head?
  let f (h : GpiEntry → Nat) : Nat := (e.map h).getD 0
  if o = 4 then f (fun e => e.time % 2 ^ 32)
  else if o = 8 then f (fun e => e.time / 2 ^ 32 % 2 ^ 32)
  else if o = 0xC then f (fun e => low 32 e.pos)
  else if o = 0x10 then f (fun e => low 32 (e.pos / 2 ^ 32))
  else f (fun e => b2n e.rise) + g.fifo.length * 2 ^ 8 + b2n e.isSome * 2 ^ 31

/-- Whether a HEARTBEAT of a peer came on a path within 4 ms (R439). -/
def State.seenOn (s : State) (n path : Nat) : Bool :=
  match (s.peer n).lastPath.find? (fun e => e.1 == path) with
  | some e => decide (s.time.elapsed ≤ e.2 + 4000000)
  | none => false

/-- The fields that a read computes from the rest of the state, over the stored word (R42, R43, R54, R78, R349, R379, R432, R439, R482); a
transmit SCI is one while transmission is protected, and its Reset value before (R385) (log 119). -/
def State.shown (s : State) (off : Nat) : Nat :=
  let w := (s.word off).toNat
  let (n, o) := elemOf off 0x71000 0x40
  let (g, q) := elemOf off 0x90000 0x40
  let (p, m) := elemOf off 0x140000 0x4000
  let (c, k) := elemOf off 0x180000 0x4000
  if off = 0x70000 then s.now % 2 ^ 32
  else if off = 0x70004 then s.now / 2 ^ 32 % 2 ^ 32
  else if off = 0x70014 then low 32 (rateUnits s.time.rho)
  else if 0x71000 ≤ off ∧ off < 0x73000 then
    (if o = 0x10 then low 32 (s.ctxPosAt n ((s.time.acc : Nat) : Int))
     else if o = 0x14 then low 32 (s.ctxPosAt n ((s.time.acc : Nat) : Int) / 2 ^ 32)
     else if o = 0x24 then withBits w 3 1 (b2n (s.srcOk n)) else w)
  else if 0x90000 ≤ off ∧ off < 0x90400 ∧ 4 ≤ q ∧ q ≤ 0x14 then s.readGpi g q
  else if 0x140000 ≤ off ∧ off < 0x168000 ∧ m = 0x30 then s.macFill p
  else if 0x180000 ≤ off ∧ off < 0x1A0000 ∧ k = 4 then
    withBits w 0 1 (b2n (!s.flag (Reg.MSC_CTRL_TX_EN c) && !s.flag (Reg.MSC_CTRL_RX_EN c) &&
      decide ((s.mac c).engine ≤ s.time.elapsed)))
  else if 0x180000 ≤ off ∧ off < 0x1A0000 ∧ k = 0x1C then (if s.flag (Reg.MSC_CTRL_TX_EN c) then (s.macAddr c * 65536 + 1) % 2 ^ 32 else 0)
  else if 0x180000 ≤ off ∧ off < 0x1A0000 ∧ k = 0x20 then (if s.flag (Reg.MSC_CTRL_TX_EN c) then s.macAddr c / 2 ^ 16 % 2 ^ 32 else 0)
  else if off = 0x88018 then (if s.pwr.rtcC.natAbs < 2 ^ 15 then low 16 s.pwr.rtcC else (Config.oscShown s.pwr.rtcC).toNat)
  else if off = 0x1D0010 then s.leaseLeft * 2 ^ 16
  else if off = 0x1E0020 then (if s.time.elapsed < 1000 then w else s.pwr.rail)
  else if off = 0x1E0024 then (if s.time.elapsed < 1000 then w else min w s.pwr.rail)
  else if off = 0x1D1008 ∨ off = 0x1D1048 then
    let n := if off = 0x1D1008 then 0 else 1
    withBits w 8 3 (b2n (s.seenOn n 0) + 2 * b2n (s.seenOn n 1) + 4 * b2n (s.seenOn n 2))
  else w

/-- A write-only field reads 0 (R15). -/
def hideWo (off w : Nat) : Nat :=
  match regRow? off with
  | some r => r.fields.foldl (fun w f => if f.acc = .wo then withBits w f.lsb f.width 0 else w) w
  | none => 0

/-- The bases of the _LO registers that a _HI register follows (R14). -/
def loBases : List Nat :=
  [0x4, 0x11000, 0x11008, 0x11010, 0x40008, 0x40018, 0x40024, 0x70000, 0x7002C, 0x71010, 0x71018, 0x71028, 0x71038, 0x9000C, 0xE1024,
   0xF001C, 0x140010, 0x140100, 0x140800, 0x18000C, 0x180014, 0x18001C, 0x180100, 0x1D1000, 0x1D1010, 0x1D1020]

/-- Whether an offset holds a _LO register (R14). -/
def isLo (off : Nat) : Bool := match regRow? off with | some r => loBases.contains r.base | none => false

/-- The value that a read returns now, the _HI of a sample as it was latched (R14, R15, R27). -/
def State.readValue (s : State) (off : Nat) : Nat :=
  match tblGet s.latches none off with
  | some w => w.toNat
  | none => hideWo off (s.shown off)

/-- What a read returns leaves by the way it came in (log 56). -/
def State.answerRead (s : State) (sp : Space) (off v : Nat) : State :=
  match sp with
  | .hawk c => s.emit (.coreLoad c (0x40000000 + off) v)
  | .chy => s.emit (.chyLoad (0x40000000 + off) v)
  | .chyRom => s.emit (.chyLoad off v)
  | .chySram => s.emit (.chyLoad (0x10000000 + off) v)
  | .chyDevice page => s.emit (.chyLoad (0x50000000 + 0x400000 * page.val + off) v)
  | _ => s.emit (.readData off v)

/-- A read of a register: _LO latches its _HI (R14), and QUE_q_POP_LO pops (R176). -/
def State.readBlock (s : State) (sp : Space) (off : Nat) : State :=
  let (q, o) := elemOf off 0x60000 0x40
  if 0x60000 ≤ off ∧ off < 0x60800 ∧ o = 0x10 then
    let (s, w) := s.queuePop q
    let s : State := { s with latches := tblSet s.latches none (off + 4) (some (BitVec.ofNat 32 (w / 2 ^ 32))) }
    s.answerRead sp off (w % 2 ^ 32)
  else
    let hi := hideWo (off + 4) (s.shown (off + 4))
    let v := s.readValue off
    let s : State := if isLo off then { s with latches := tblSet s.latches none (off + 4) (some (BitVec.ofNat 32 hi)) } else s
    s.answerRead sp off v

/-! ### BAR4 -/

/-- A write to BAR4 (R80, R85, R102): a doorbell word, or a word of the MSI-X table; every other offset drops it (log 64). -/
def State.writeBar4 (s : State) (off v : Nat) : State :=
  let (n, o) := elemOf off 0 0x40
  let (x, k) := elemOf off 0x2000 0x10
  let e := s.vector x
  if off < 0x1000 ∧ o = 0 then
    after (if s.flag (Reg.HST_RING_CFG_TYPE n) then execNoticeDoorbell (Fin.ofNat 64 n) (BitVec.ofNat 32 v) true s
      else execCommandDoorbell (Fin.ofNat 64 n) (BitVec.ofNat 32 v) true s) s
  else if 0x2000 ≤ off ∧ off < 0x2400 then
    (if k = 0 then s.setVector x { e with addr := e.addr / 2 ^ 32 * 2 ^ 32 + v / 4 * 4 }
     else if k = 4 then s.setVector x { e with addr := v * 2 ^ 32 + e.addr % 2 ^ 32 }
     else if k = 8 then s.setVector x { e with data := v }
     else if v % 2 = 1 then s.setVector x { e with masked := true }
     else after (execMsixUnmask (Fin.ofNat 64 x) s) s)
  else s

/-- The value of a word of BAR4 (R80): the MSI-X table and the pending bits. -/
def State.readBar4 (s : State) (off : Nat) : Nat :=
  let (x, k) := elemOf off 0x2000 0x10
  let e := s.vector x
  let pend := (s.host.pendingBits.map (fun v => 2 ^ v)).sum
  if 0x2000 ≤ off ∧ off < 0x2400 then
    (if k = 0 then e.addr % 2 ^ 32 else if k = 4 then e.addr / 2 ^ 32 % 2 ^ 32 else if k = 8 then e.data else b2n e.masked)
  else if off = 0x3000 then pend % 2 ^ 32
  else if off = 0x3004 then pend / 2 ^ 32
  else 0

/-! ### Chrysalis's own map -/

/-- A word of Chrysalis's SRAM (R495, R498): of the firmware in the code region, as last written elsewhere, and before that as power-on
left it (log 177). -/
def State.sramWord (s : State) (i : Nat) : Word :=
  if i < s.chy.codeWords then Config.firmwareWord s.chy.codeDigest i
  else (tblGet s.chy.sram none i).getD (Config.sramPowerOn s.pwr.starts i)

/-- A write of a word of Chrysalis's SRAM; the code region is locked (R495). -/
def State.writeSram (s : State) (i : Nat) (v : Word) : State :=
  if i < s.chy.codeWords then s else s.setChy { s.chy with sram := tblSet s.chy.sram none i (some v) }

/-- Whether the spec says nothing of what an access of Chrysalis reaches: a write to a private device, or a word past its boot ROM or SRAM
(R498). -/
def chyUnstated (sp : Space) (off : Nat) (write : Bool) : Bool :=
  match sp with
  | .chyRom => decide (0x10000 ≤ off)
  | .chySram => decide (0x80000 ≤ off)
  | .chyDevice _ => write
  | _ => false

/-- A read of Chrysalis's own map (R498): what a private device's register holds is free (log 177). -/
def State.readOwn (s : State) (sp : Space) (off : Nat) : State :=
  match sp with
  | .chyRom => s.answerRead sp off (Config.bootRomWord (off / 4)).toNat
  | .chySram => s.answerRead sp off (s.sramWord (off / 4)).toNat
  | _ =>
    let (f, s) := s.free
    s.answerRead sp off (f % 2 ^ 32)

/-! ### Accesses -/

/-- Whether an access can arrive: the host's while its interface runs, a core's while the core does, Chrysalis's while it serves (R80,
R81, R153, R498). -/
def State.accessible (s : State) (sp : Space) : Bool :=
  match sp with
  | .hawk c => s.rd (Reg.HWK_STAT_STATE c) != 0
  | .chy => s.chyUp
  | .chyRom => s.chyUp
  | .chySram => s.chyUp
  | .chyDevice _ => s.chyUp
  | _ => s.barsUp && !s.isOff 0x00

/-- Whether an access is to the block windows (R29, R498). -/
def inWindows (sp : Space) : Bool :=
  match sp with
  | .bar0 => true
  | .hawk _ => true
  | .chy => true
  | _ => false

/-- Whether the block of an offset is off (R455), or its instance is: SDI inputs 0-3 while the SDI reference is lost (R543). -/
def State.offsetOff (s : State) (off : Nat) : Bool :=
  s.isOff (blockOf off) || (blockOf off == 0x12 && decide (instOf off < 4) && s.pwr.lostClocks.contains 4)

/-- An access in error (R27, R28, R32, R455): one error with every bit that applies; a read returns 0, or 0x0FF0_0FF0 from a block that
is off; a write is dropped. -/
def State.badAccess (s : State) (sp : Space) (off : Nat) (write bad : Bool) : State :=
  let unmapped := decide (0x210000 ≤ off)
  let offBlock := !unmapped && s.offsetOff off
  let s := if bad || unmapped || offBlock then s.accessError off write offBlock unmapped bad else s
  if write then s else s.answerRead sp off (if offBlock && !bad then 0x0FF00FF0 else 0)

/-- A write of one aligned word by BAR0, a core, BAR4 or Chrysalis; the boot ROM takes none. -/
def State.writeAccess (s : State) (sp : Space) (off v : Nat) : State :=
  if !s.accessible sp then s
  else if sp = .bar4 then s.writeBar4 off v
  else if sp = .chySram then s.writeSram (off / 4) (BitVec.ofNat 32 v)
  else if !inWindows sp then s
  else
    let off := off / 4 * 4
    if 0x210000 ≤ off ∨ s.offsetOff off = true then s.badAccess sp off true false else s.writeBlock off v

/-- A read of one aligned word. -/
def State.readAccess (s : State) (sp : Space) (off : Nat) : State :=
  if !s.accessible sp then s
  else if sp = .bar4 then s.answerRead sp off (s.readBar4 off)
  else if !inWindows sp then s.readOwn sp (off / 4 * 4)
  else
    let off := off / 4 * 4
    if 0x210000 ≤ off ∨ s.offsetOff off = true then s.badAccess sp off false false else s.readBlock sp off

/-- REGISTER_WRITE (R15-R17, R498): a write of one aligned word; a register whose write has a row of its own acts as that row does. -/
def execRegisterWrite (sp : Space) (off : BitVec 22) (val : Word) (s : State) : Answer := s.atStore (.registerWrite sp off val) <|
  if chyUnstated sp off.toNat true then .refused .chyUnstated else .next (s.writeAccess sp off.toNat val.toNat)

/-- LO_READ_LATCH (R14, R498): a read of one aligned word; a _LO register latches its _HI. -/
def execLoReadLatch (sp : Space) (off : BitVec 22) (s : State) : Answer :=
  if chyUnstated sp off.toNat false then .refused .chyUnstated else .next (s.readAccess sp off.toNat)

/-- BAR0_UNMAPPED_ACCESS (R27): an access at or above 0x0021_0000. -/
def execBar0UnmappedAccess (sp : Space) (off : BitVec 22) (write : Bool) (s : State) : Answer :=
  .next (if s.accessible sp && inWindows sp && decide (0x210000 ≤ off.toNat) then s.badAccess sp off.toNat write false else s)

/-- BAR0_BAD_ACCESS (R28): a request that is not one aligned word reaches no register. -/
def execBar0BadAccess (sp : Space) (off : BitVec 22) (write : Bool) (s : State) : Answer :=
  .next (if s.accessible sp && inWindows sp then s.badAccess sp off.toNat write true else s)

/-- ACCESS_OFF (R455): an access to a block that is off. -/
def execAccessOff (sp : Space) (off : BitVec 22) (write : Bool) (s : State) : Answer :=
  .next (if s.accessible sp && inWindows sp && decide (off.toNat < 0x210000) && s.offsetOff off.toNat then
      s.badAccess sp off.toNat write false else s)

/-- GLB_ERRSTAT_CLEAR (R32): error bits written 1 are cleared; the capture is open once all three are 0. -/
def execGlbErrstatClear (val : Word) (s : State) : Answer := .next (s.loadReg 0x10 val.toNat)

end Sys2Proof.Machine
end

