-- ==== Sys2Proof/Machine/ChyUpdate.lean ====
section
/-! DEFINITION. Staging sessions, eclosion and the chained update push (R517, R519, R521-R523, R562). -/
namespace Sys2Proof.Machine

/-! ### Staging -/

/-- The source of a request's session (R527). -/
def ChyReq.source (r : ChyReq) : Nat := if r.svc then 2 else 1

/-- STAGE_OPEN (R505, R521, R522). -/
def execStageOpen (s : State) : Answer := s.atStore .stageOpen <|
  .next (s.chyOp 0x20 (fun s r =>
    if s.life = 2 then denied s 3
    else if r.params.length ≠ 52 ∨ lengthOk (r.word 0) = false then badParam s
    else if s.openStatus ≠ stOk then (s, s.openStatus, [])
    else s.flashWrite fun s =>
      let (s, id) := s.openSession r.source (r.word 0) (r.params.drop 4) false false
      (s, stOk, leBytes 4 id)))

/-- Whether a STAGE_WRITE's range continues the image: at the bytes staged, at most 1 MiB, a multiple of 256 unless it ends the
image (R522). -/
def stageFits (staged length offset len : Nat) : Bool :=
  decide (offset = staged) && decide (len ≤ 2 ^ 20) && decide (offset + len ≤ length) &&
    (decide (len % 256 = 0) || decide (offset + len = length))

/-- STAGE_WRITE (R522): the data comes from the store, or inline on the service port; `flashOk` says whether it read back right. -/
def execStageWrite (flashOk : Bool) (s : State) : Answer := s.atStore (.stageWrite flashOk) <|
  .next (s.chyOp 0x21 (fun s r =>
    match s.chy.session with
    | none => (s, stNoSession, [])
    | some x =>
      let staged := s.chy.staged
      let len := r.word 3
      let a := r.word 2
      if r.word 0 ≠ x.id then (s, stNoSession, [])
      else if stageFits staged.length x.length (r.word 1) len = false ∨ r.params.length ≠ 16 + (if r.svc then len else 0) ∨
          (r.svc = false ∧ (a % 256 ≠ 0 ∨ inGeneral a len = false)) then badParam s
      else
        let (s, data) := if r.svc then (s, some (r.params.drop 16)) else s.chyRead a len
        match data with
        | none => badParam s
        | some d =>
          if !flashOk then (s, stFlashError, [])
          else
            let s := s.setChy { s.chy with staged := staged ++ d }
            (s, stOk, leBytes 4 (staged.length + len))))

/-- A commit in recovery mode ends it: the failed-boot count is cleared and a start with cause 12 runs (R562). -/
def State.leaveRecovery (s : State) : State :=
  if s.pwr.recovery then
    let s := (s.setPwr { s.pwr with failedBoots := 0 }).holdReset 12
    s.setPwr { s.pwr with released := true }
  else s

/-- STAGE_COMMIT (R522, R562). -/
def execStageCommit (s : State) : Answer := s.atStore .stageCommit <|
  let committed := s.chy.current.isSome && s.chy.session.isSome
  let t := s.chyOp 0x22 (fun s r =>
    match s.chy.session with
    | none => (s, stNoSession, [])
    | some x =>
      if r.word 0 ≠ x.id then (s, stNoSession, [])
      else s.flashWrite fun s =>
        let (s, cause) := s.commitSession x
        if cause = 0 then okDone s else deniedAs s cause)
  .next (if committed && t.chy.session.isNone && t.rd Reg.CHY_STAT_CAND == 2 then t.leaveRecovery else t)

/-- STAGE_ABORT (R522). -/
def execStageAbort (s : State) : Answer := s.atStore .stageAbort <|
  .next (s.chyOp 0x23 (fun s r =>
    match s.chy.session with
    | none => (s, stNoSession, [])
    | some x => if r.word 0 ≠ x.id then (s, stNoSession, []) else s.flashWrite fun s => okDone (s.endSession 4)))

/-- STAGE_EXPIRED (R521): 60 s after the session's last request has completed, with none of it in execution. -/
def execStageExpired (s : State) : Answer :=
  .next (match s.chy.session with
    | none => s
    | some x =>
      if s.chy.current.any (·.ofSession x) || !s.chyUp then s
      else
        let s := s.untilElapsed (x.idleSince + 60000000000)
        (s.endSession 4).report 0x1807 0 [x.source, x.id, s.chy.staged.length])

/-! ### Eclosion -/

/-- The end of the eclosion window in the oscillator's time; none without a limit (R519). -/
def State.windowEnd (s : State) : Option Nat :=
  let w := s.rd Reg.CHY_ECLWIN
  if w = 0 then none else some (s.chy.startAt + w * 1000000000)

/-- Whether a candidate may eclose now. -/
def State.mayEclose (s : State) : Bool :=
  s.rd Reg.CHY_STAT_CAND == 3 && s.windowEnd.all (fun t => decide (s.time.elapsed ≤ t))

/-- Eclosion (R519): the candidate becomes the eclosed image, the floor rises, the old settings go and the old slot is empty. -/
def State.eclose (s : State) : State :=
  let c := s.chy
  let s := s.setFlag Reg.CHY_STAT_SLOT (!s.flag Reg.CHY_STAT_SLOT)
  let s := s.wr Reg.CHY_FLOOR (max (s.rd Reg.CHY_FLOOR) (imageSvn c.staged))
  let s := s.setChy { c with eclosed := c.staged, staged := [], otherSettings := [], autoEclose := false, windowOpen := false }
  ((s.wr Reg.CHY_STAT_CAND 0).wr Reg.CHY_CAND 0).report 0x1805 0 [imageInstar c.staged, s.rd Reg.CHY_FLOOR]

/-- ECLOSE (R519). -/
def execEclose (s : State) : Answer := s.atStore .eclose <|
  .next (s.chyOp 0x24 (fun s _ => if s.mayEclose then s.flashWrite fun s => okDone s.eclose else denied s 7))

/-- ECLOSION_TIMEOUT (R519): the window lapses while a candidate runs. -/
def execEclosionTimeout (s : State) : Answer :=
  .next (match s.windowEnd with
    | some t =>
      if s.chyUp && s.chy.windowOpen && s.rd Reg.CHY_STAT_CAND == 3 then
        let s := s.untilElapsed t
        (s.setChy { s.chy with windowOpen := false }).report 0x1806 0 [s.rd Reg.CHY_INSTAR]
      else s
    | none => s)

/-- AUTO_ECLOSE_TIMER (R523): 60 s in MEMBER showing READY, within the window. -/
def execAutoEcloseTimer (s : State) : Answer :=
  .next (match s.chy.readySince with
    | some t =>
      if s.chyUp && s.chy.autoEclose && s.rd Reg.CHY_STAT_CAND == 3 && s.windowEnd.all (fun e => decide (t + 60000000000 ≤ e)) then
        let s := s.untilElapsed (t + 60000000000)
        if s.mayEclose then s.eclose else s
      else s
    | none => s)

/-! ### The chained update push -/

/-- An UPDATE message to a member (R413, R523; log 29). -/
def State.sendUpdate (s : State) (dest sub : Nat) (body : Bytes) : State := s.sendRoostWith 15 dest (beBytes 1 sub ++ body) 2 false

/-- DATA of up to 8,192 bytes, as far as 2 MiB may go unanswered (R523). -/
def State.pushData (s : State) (image : Bytes) (dest acked : Nat) : Nat → Nat → State × Nat
  | 0, sent => (s, sent)
  | k + 1, sent =>
    let n := min 8192 (image.length - sent)
    if n = 0 ∨ 2 * 2 ^ 20 < sent + n - acked then (s, sent)
    else
      let s := s.sendUpdate dest 2 (beBytes 4 sent ++ (image.drop sent).take n)
      s.pushData image dest acked k (sent + n)

/-- What a peer is sent next: more DATA, then COMMIT. -/
def State.pushPeer (s : State) (image : Bytes) (q : PushPeer) : State × PushPeer :=
  if q.status.isSome || !q.opened || q.committing then (s, q)
  else
    let (s, sent) := s.pushData image q.serial q.acked 257 q.sent
    if sent = image.length then (s.sendUpdate q.serial 3 [], { q with sent := sent, committing := true })
    else (s, { q with sent := sent })

/-- The push goes on with every peer; a peer that is lost has failed, with a free status (R523; log 2). -/
def State.pushAll (s : State) (image : Bytes) : List PushPeer → State × List PushPeer
  | [] => (s, [])
  | q :: t =>
    let (s, q) := if q.status.isNone && (s.peerOf q.serial).isNone then
        (let (f, s) := s.free; (s, { q with status := some (f % 65536) }))
      else s.pushPeer image q
    let (s, l) := s.pushAll image t
    (s, q :: l)

/-- The reply of PUSH: serial and status of each peer (R503). -/
def pushReplyBytes (l : List PushPeer) : Bytes := l.flatMap (fun q => leBytes 8 q.serial ++ leBytes 4 (q.status.getD 0))

/-- A push in progress goes on, or ends: when the role is lost, with ABORT to every peer; when every peer has committed or failed,
with the reply (R523). -/
def State.pushStep (s : State) : State :=
  match s.chy.push, s.chy.current with
  | some p, some r =>
    if !s.holdsRoles then
      let s := (p.peers.filter (fun q => q.status.isNone)).foldl (fun s q => s.sendUpdate q.serial 4 []) s
      (s.setChy { s.chy with push := none }).answer r stNoRole [] true
    else
      let (s, peers) := s.pushAll p.image p.peers
      if peers.all (fun q => q.status.isSome) then
        (s.setChy { s.chy with push := none }).answer r stOk (pushReplyBytes peers) true
      else s.setChy { s.chy with push := some { p with peers := peers } }
  | _, _ => s

/-- PUSH (R523): it begins with OPEN to every peer; while it runs, the command is its next step. -/
def execPush (s : State) : Answer := s.atStore .push <|
  .next (match s.chy.current with
    | none => s
    | some r =>
      if r.op ≠ 0x25 ∨ s.chyUp = false then s
      else if s.chy.push.isSome then s.pushStep
      else
        let source := r.word 0
        let flags := bitsOf (r.word 1) 0 1 + 2 * bitsOf (r.word 2) 0 1
        let image := if source = 0 then s.chy.staged else s.chy.eclosed
        let serials := ([0, 1].filter s.peerValid).map s.peerSerial
        if r.params.length ≠ 12 ∨ 1 < source ∨ 1 < r.word 1 ∨ 1 < r.word 2 ∨ r.rpCap < 12 * serials.length then
          s.answer r stBadParam [] true
        else if !s.holdsRoles then s.answer r stNoRole [] true
        else if source = 0 ∧ s.rd Reg.CHY_STAT_CAND ≠ 2 then s.answer r stBadParam [] true
        else
          let s := serials.foldl (fun s d =>
            s.sendUpdate d 1 (beBytes 4 image.length ++ sha384 image ++ beBytes 1 flags)) s
          let peers : List PushPeer := serials.map (fun d =>
            { serial := d, opened := false, sent := 0, acked := 0, committing := false, status := none })
          (s.setChy { s.chy with push := some { image := image, flags := flags, peers := peers } }).pushStep)

/-- A peer's RESULT (R523): an OPEN answered OK starts its data, DATA acknowledges, COMMIT ends it; any other status ends it. -/
def PushPeer.result (q : PushPeer) (sub status staged : Nat) : PushPeer :=
  if q.status.isSome then q
  else if status ≠ stOk then { q with status := some status }
  else if sub = 1 then { q with opened := true }
  else if sub = 2 then { q with acked := max q.acked staged }
  else if sub = 3 then { q with status := some stOk }
  else q

/-- RESULT reaches the pusher. -/
def State.updateResult (s : State) (sender sub status staged : Nat) : State :=
  match s.chy.push with
  | none => s
  | some p =>
    let peers := p.peers.map (fun q => if q.serial = sender then q.result sub status staged else q)
    (s.setChy { s.chy with push := some { p with peers := peers } }).pushStep

/-- RESULT from this unit as a peer: the SUB answered, a status and the bytes staged. -/
def State.sendResult (s : State) (dest sub status : Nat) : State :=
  s.sendUpdate dest 5 (beBytes 1 sub ++ beBytes 2 status ++ beBytes 4 s.chy.staged.length)

/-- The Silk session, if that is what is open. -/
def State.silkSession (s : State) : Option SessionSt := s.chy.session.bind (fun x => if x.source = 3 then some x else none)

/-- A Silk session's last request has completed now (R521). -/
def State.touchSession (s : State) : State :=
  s.setChy { s.chy with session := s.chy.session.map (fun x => { x with idleSince := s.time.elapsed }) }

/-- UPDATE OPEN at a peer (R521, R523). -/
def State.updateOpen (s : State) (sender length : Nat) (digest : Bytes) (flags : Nat) : State :=
  if s.life = 2 then s.sendResult sender 1 stDenied
  else if lengthOk length = false then s.sendResult sender 1 stBadParam
  else if s.openStatus ≠ stOk then s.sendResult sender 1 s.openStatus
  else
    let (bad, s) := s.flashFails
    if bad then s.sendResult sender 1 stFlashError
    else (s.openSession 3 length digest (bitOf flags 0) (bitOf flags 1)).1.sendResult sender 1 stOk

/-- UPDATE DATA at a peer: staged in order, with a RESULT for every MiB (R523). -/
def State.updateData (s : State) (sender offset : Nat) (data : Bytes) (flashOk : Bool) : State :=
  match s.silkSession with
  | none => s.sendResult sender 2 stNoSession
  | some x =>
    let old := s.chy.staged.length
    if offset ≠ old ∨ x.length < old + data.length ∨ 8192 < data.length then s.sendResult sender 2 stBadParam
    else if !flashOk then s.touchSession.sendResult sender 2 stFlashError
    else
      let s := (s.setChy { s.chy with staged := s.chy.staged ++ data }).touchSession
      if old / 2 ^ 20 < (old + data.length) / 2 ^ 20 then s.sendResult sender 2 stOk else s

/-- UPDATE COMMIT at a peer; with REBOOT the peer demotes and an update restart is due (R523). -/
def State.updateCommit (s : State) (sender : Nat) : State :=
  match s.silkSession with
  | none => s.sendResult sender 3 stNoSession
  | some x =>
    let (bad, s) := s.flashFails
    if bad then s.touchSession.sendResult sender 3 stFlashError
    else
    let (s, cause) := s.commitSession x
    if cause ≠ 0 then s.sendResult sender 3 stDenied
    else
      let s := s.sendResult sender 3 stOk
      if x.reboot then (s.demote 5).setChy { (s.demote 5).chy with reboot := true } else s

/-- UPDATE_RX (R523): RESULT concerns a push; the rest is acted on only when it comes from the member seen as rank 0 in MEMBER.
`flashOk` says whether DATA read back right. -/
def execUpdateRx (m : RoostMsg) (flashOk : Bool) (s : State) : Answer := s.atStore (.updateRx m flashOk) <| s.whenOn 0x15 <|
  .next (s.roostRx 15 m (fun s =>
    let sub := msgField m 0 1
    let sender := m.sender.toNat
    if !s.chyUp then s
    else if sub = 5 then s.updateResult sender (msgField m 1 1) (msgField m 2 2) (msgField m 4 4)
    else
      let active := match s.peerOf sender with
        | some n => s.memberPeer n && s.peerRank n == 0
        | none => false
      if !active then s
      else if sub = 1 then s.updateOpen sender (msgField m 1 4) ((m.payload.drop 5).take 48) (msgField m 53 1)
      else if sub = 2 then s.updateData sender (msgField m 1 4) (m.payload.drop 5) flashOk
      else if sub = 3 then s.updateCommit sender
      else if sub = 4 then (match s.silkSession with
        | some _ => (s.endSession 4).sendResult sender 4 stOk
        | none => s.sendResult sender 4 stNoSession)
      else s))

end Sys2Proof.Machine
end

