-- ==== Sys2Proof/Machine/CoreAccess.lean ====
section
/-! DEFINITION. What a Hawk core's loads, stores, fetches and CSR accesses reach: its address map (R153-R162, R175, R176). The table has
rows for a load and a store of the queue page; they carry every access of a core (log 126). -/
namespace Sys2Proof.Machine

/-- A core's access that is not naturally aligned takes the address-misaligned exception of its kind (R153); mepc is free (log 126). -/
def State.misaligned (s : State) (core cause addr : Nat) : State :=
  let (pc, s) := s.free
  s.trapCore core pc cause addr

/-- A value that a core's read returns; none is a POISON word, and faults with a cause (R162). -/
def State.answerCore (s : State) (core addr cause : Nat) (v : Option Nat) : State :=
  match v with
  | some v => s.emit (.coreLoad core addr v)
  | none => s.hawkFault core cause addr

/-- An uncached read of the store: one request of its own size, which neither caches nor meets cached copies (R157). -/
def State.aliasRead (s : State) (core a n : Nat) : State × Option Nat :=
  let bad := s.poisonIn a n
  let (s, data) := (s.reach (16 + core) a n).hostLoad (16 + core) a n
  (s, if bad then none else some (leNat data))

/-- Whether a core has a CSR: not one of supervisor mode or of a hypervisor, and of PMP those of 16 entries (R152; log 13). -/
def csrExists (k : Nat) : Bool :=
  (bitsOf k 8 2 == 0 || bitsOf k 8 2 == 3) && (decide (k < 0x3A0) || k == 0x3A0 || k == 0x3A2 || (decide (0x3B0 ≤ k) && decide (k < 0x3C0)) ||
    decide (0x3F0 ≤ k))

/-- An access to a CSR that a core does not have is an illegal instruction (R152; log 13). -/
def State.illegal (s : State) (core : Nat) : State :=
  let (pc, s) := s.free
  s.trapCore core pc 2 0

/-- A CSR as a core reads it: mhartid is its number, time is extended device time, and mip shows what is pending (R152, R155, R156). -/
def State.csrRead (s : State) (core k : Nat) : Nat :=
  if k = 0xF14 then core else if k = 0xC01 then s.now else if k = 0x344 then s.mip core else s.csr core k

/-- A core writes a CSR: MSIP is cleared through mip, mie may let a pending interrupt end a NEXT load, and the read-only ones stay (R155,
R156, R165). -/
def State.csrWrite (s : State) (core k v : Nat) : State :=
  if k = 0x344 then s.setHawk core { s.hawk core with msip := (s.hawk core).msip && bitOf v 3 }
  else if 0xC00 ≤ k then s
  else if k = 0x304 then (s.setCsr core k v).wakeNext
  else s.setCsr core k v

/-- The queue page: +0x00 of a queue pops, +0x10 returns STAT and LEVEL (R175, R176). -/
def State.queuePage (s : State) (core addr : Nat) : State :=
  let o := addr - 0x41000000
  let q := o / 0x100
  if o % 0x100 = 0 then
    let (s, w) := s.queuePop q
    s.emit (.coreLoad core addr w)
  else if o % 0x100 = 0x10 then
    s.emit (.coreLoad core addr ((s.word (0x6000C + 0x40 * q)).toNat + (s.word (0x60004 + 0x40 * q)).toNat * 2 ^ 32))
  else s.hawkFault core 5 addr

/-- A load of the control page: NEXT, POSTRES and MTIMECMP (R154). -/
def State.controlLoad (s : State) (core : Fin 8) (addr : Nat) : State :=
  let o := addr - 0x42000000
  if o = 0 then after (execNext core s) s
  else if o = 8 then after (execPostres core s) s
  else if o = 0x40 then s.emit (.coreLoad core addr (s.hawk core).mtimecmp)
  else s.hawkFault core 5 addr

/-- A store to the control page (R154). -/
def State.controlStore (s : State) (core : Fin 8) (addr v : Nat) : State :=
  let o := addr - 0x42000000
  let x : BitVec 64 := BitVec.ofNat 64 v
  if o = 0x10 then after (execPortFence core s) s
  else if o = 0x18 then after (execCmoBase core x s) s
  else if o = 0x20 then after (execClean core x [] s) s
  else if o = 0x28 then after (execFlush core x [] s) s
  else if o = 0x30 then after (execInval core x s) s
  else if o = 0x38 then after (execIpi core (BitVec.ofNat 8 v) s) s
  else if o = 0x40 then after (execMtimecmpWrite core x s) s
  else if 0x100 ≤ o ∧ o < 0x180 then after (execPostK core (Fin.ofNat 16 ((o - 0x100) / 8)) x s) s
  else s.hawkFault core 7 addr

/-- A load of a lock window: the offset is a region base with SIZE or RECOVERED in bits 3 and up (R160). -/
def State.lockLoad (s : State) (core : Fin 8) (addr : Nat) : State :=
  let r : Fin 57 := ⟨16 + core.val, by omega⟩
  let o := addr % 0x20000000
  let k := o % 256 / 8
  let base : BitVec 29 := BitVec.ofNat 29 (o / 256 * 256)
  if addr < 0x80000000 then (if k < 5 then after (execLockBegin r base (Fin.ofNat 5 k) s) s else s.hawkFault core 5 addr)
  else if k < 2 then after (execLockEnd r base (k == 1) s) s
  else s.hawkFault core 5 addr

/-- A core's read of its address map (R153, R154, R157, R161, R162). An access that is misaligned and also outside the map, or of a kind
that the range does not allow, takes the misaligned exception (log 158). FENCE.I empties the L1 instruction cache (R158) (log 161). -/
def State.coreRead (s : State) (core : Fin 8) (kind : CoreRead) (addr size : Nat) : State :=
  let n := 2 ^ size
  match kind with
  | .csr k => if csrExists k.toNat then s.emit (.csrLoad core k.toNat (s.csrRead core k.toNat)) else s.illegal core
  | .fenceI => s.setHawk core { s.hawk core with ilines := [] }
  | .fetch =>
    if 0x40000000 ≤ addr then s.hawkFault core 1 addr
    else
      let (s, v) := if addr < 0x20000000 then s.codeRead core addr n else s.aliasRead core (addr - 0x20000000) n
      s.answerCore core addr 1 v
  | .load =>
    if 0x40000000 ≤ addr ∧ addr < 0x40400000 then
      (if size = 2 ∧ addr % 4 = 0 then s.readAccess (.hawk core) (addr - 0x40000000)
       else s.badAccess (.hawk core) (addr - 0x40000000) false true)
    else if addr % n ≠ 0 then s.misaligned core 4 addr
    else if addr < 0x20000000 then
      let (s, v) := s.cacheRead core addr n
      s.answerCore core addr 5 v
    else if addr < 0x40000000 then
      let (s, v) := s.aliasRead core (addr - 0x20000000) n
      s.answerCore core addr 5 v
    else if size ≠ 3 then s.hawkFault core 5 addr
    else if 0x41000000 ≤ addr ∧ addr < 0x41002000 then s.queuePage core addr
    else if 0x42000000 ≤ addr ∧ addr < 0x42001000 then s.controlLoad core addr
    else if 0x60000000 ≤ addr ∧ addr < 0xA0000000 then s.lockLoad core addr
    else s.hawkFault core 5 addr
  | .lr =>
    if addr % n ≠ 0 then s.misaligned core 4 addr
    else if 0x20000000 ≤ addr then s.hawkFault core 5 addr
    else
      let (s, v) := s.cacheRead core addr n
      (s.answerCore core addr 5 v).setHawk core { (s.answerCore core addr 5 v).hawk core with
        reserved := if v.isSome then some (addr / 64 * 64) else none }

/-- A core's cacheable write; one that reaches a POISON word in part faults (R162). -/
def State.coreCacheWrite (s : State) (core addr n v : Nat) : State :=
  let (s, ok) := s.cacheWrite core addr n v
  if ok then s else s.hawkFault core 7 addr

/-- A core's write in its address map. An AMO returns the old value and writes the word, which the core has computed from it; a
store-conditional writes and returns 0 where the reservation holds, and returns 1 otherwise (R153, R154, R157). -/
def State.coreWrite (s : State) (core : Fin 8) (kind : CoreWrite) (addr size v : Nat) : State :=
  let n := 2 ^ size
  match kind with
  | .csr k => if csrExists k.toNat then s.csrWrite core k.toNat v else s.illegal core
  | .store =>
    if 0x40000000 ≤ addr ∧ addr < 0x40400000 then
      (if size = 2 ∧ addr % 4 = 0 then s.writeAccess (.hawk core) (addr - 0x40000000) (v % 2 ^ 32)
       else s.badAccess (.hawk core) (addr - 0x40000000) true true)
    else if addr % n ≠ 0 then s.misaligned core 6 addr
    else if addr < 0x20000000 then s.coreCacheWrite core addr n v
    else if addr < 0x40000000 then
      (s.reach (16 + core) (addr - 0x20000000) n).hostStore (16 + core) (addr - 0x20000000) ((leBytes n v).map some)
    else if size ≠ 3 then s.hawkFault core 7 addr
    else if 0x41000000 ≤ addr ∧ addr < 0x41002000 then
      (if addr % 0x100 = 8 then s.queuePush ((addr - 0x41000000) / 0x100) v else s.hawkFault core 7 addr)
    else if 0x42000000 ≤ addr ∧ addr < 0x42001000 then s.controlStore core addr v
    else s.hawkFault core 7 addr
  | .amo =>
    if addr % n ≠ 0 then s.misaligned core 6 addr
    else if 0x20000000 ≤ addr then s.hawkFault core 7 addr
    else
      let (s, old) := s.cacheRead core addr n
      match old with
      | some w => (s.coreCacheWrite core addr n v).emit (.coreLoad core addr w)
      | none => s.hawkFault core 7 addr
  | .sc =>
    if addr % n ≠ 0 then s.misaligned core 6 addr
    else if 0x20000000 ≤ addr then s.hawkFault core 7 addr
    else
      let held := (s.hawk core).reserved == some (addr / 64 * 64)
      let s := s.setHawk core { s.hawk core with reserved := none }
      if held then (s.coreCacheWrite core addr n v).emit (.coreLoad core addr 0) else s.emit (.coreLoad core addr 1)

/-- Whether a core executes: it is not stopped (R185). -/
def State.coreRuns (s : State) (core : Nat) : Bool := s.rd (Reg.HWK_STAT_STATE core) != 0 && !(s.hawk core).waits

/-- What a cache's SECDED finds in the line of an access: a corrected error counts, and an uncorrectable one poisons its word (R152, R162,
R185). -/
def State.cacheError (s : State) (core addr : Nat) (code : Bool) (ecc : Option Bool) : State :=
  match ecc with
  | some true => if addr < 0x20000000 then s.spoil core addr code else s
  | some false => s.count Reg.HWK_L2_CE 1
  | none => s

/-- QUEUE_PAGE_POP (R152, R153, R162, R175, R176, R185): a core's load; of the queue page, it pops. -/
def execQueuePagePop (core : Fin 8) (load : CoreLoad) (s : State) : Answer := s.atStore (.queuePagePop core load) <| s.whenOn 0x04 <|
  let addr := load.addr.toNat
  .next (if !s.coreRuns core then s
    else (s.cacheError core addr (load.kind == .fetch) load.ecc).coreRead core load.kind addr load.size)

/-- QUEUE_PAGE_PUSH (R153, R162, R176, R178): a core's store; to the queue page, it pushes. -/
def execQueuePagePush (core : Fin 8) (store : CoreStore) (word : BitVec 64) (s : State) : Answer :=
  s.atStore (.queuePagePush core store word) <| s.whenOn 0x04 <|
  let addr := store.addr.toNat
  .next (if !s.coreRuns core then s
    else (s.cacheError core addr false store.ecc).coreWrite core store.kind addr store.size word.toNat)

end Sys2Proof.Machine
end

