-- ==== Sys2Proof/Machine/Jtag.lean ====
section
/-! DEFINITION. The boundary-scan port (R550). -/
namespace Sys2Proof.Machine

/-- Whether the port serves: in Run, after the start. -/
def State.jtagOn (s : State) : Bool :=
  s.flag Reg.CHY_STAT_RUN && s.rd Reg.PWR_STAT_STATE == 0 && s.pwr.mode == .on && s.pwr.held.isNone

/-- The output pins of the boundary register with their data cells, the enable cell following each; of a bidirectional pin the
input cell comes first (R530, R533, R550). -/
def boundaryOutputs : List (String × Nat × Nat) :=
  (List.range 8).map (fun k => ("TIMEPULSE", k, 16 + 2 * k)) ++ [("LTC_OUT", 0, 33)] ++
    (List.range 8).map (fun k => ("DMX_TX", k, 35 + 2 * k)) ++ (List.range 8).map (fun k => ("DMX_DE", k, 59 + 2 * k)) ++
    [("QSPI_CLK", 0, 75), ("QSPI_CS_N", 0, 77)] ++ (List.range 4).map (fun k => ("QSPI_IO", k, 80 + 3 * k)) ++
    [("AVS_SCL", 0, 94), ("AVS_SDA", 0, 97)]

/-- The pins that the boundary register drives, where their enable is set. -/
def State.driveBoundary (s : State) : State :=
  let b := s.jtag.boundary
  { s with out := s.out ++ ((boundaryOutputs.filter (fun c => bitOf b (c.2.2 + 1))).map (fun c => Output.pin c.1 c.2.1 (bitOf b c.2.2))) }

/-- Bits leave by TDO. -/
def State.shiftOut (s : State) (bits value : Nat) : State := s.emit (.tdo bits value)

/-- An instruction is loaded; pads that it gives back take their block's drive. -/
def State.setIr (s : State) (code : Nat) : State :=
  let was := s.padsCut
  let s : State := { s with jtag := { s.jtag with ir := code } }
  if was && !s.padsCut then s.drivePads else s

/-- EXTEST: the captured cells leave, `shift` takes their place, and the pins follow it. -/
def execExtest (capture shift : BitVec 100) (s : State) : Answer :=
  .next (
    if !s.jtagOn then s
    else
      let s := (s.setIr 0).shiftOut 100 capture.toNat
      ({ s with jtag := { s.jtag with boundary := shift.toNat } } : State).driveBoundary)

/-- IDCODE: version 1, part 0x7640, the fused manufacturer identity, and 1 (log 24). -/
def execIdcode (s : State) : Answer :=
  .next (if !s.jtagOn then s else (s.setIr 1).shiftOut 32 (0x17640000 + Config.jtagMaker.toNat * 2 + 1))

/-- SAMPLE/PRELOAD: the captured cells leave, and `shift` is preloaded; the pins keep their blocks' drive. -/
def execSamplePreload (capture shift : BitVec 100) (s : State) : Answer :=
  .next (
    if !s.jtagOn then s
    else
      let s := (s.setIr 2).shiftOut 100 capture.toNat
      { s with jtag := { s.jtag with boundary := shift.toNat } })

/-- HIGHZ: the outputs are not driven, and the bypass register is selected. -/
def execHighz (s : State) : Answer := .next (if !s.jtagOn then s else (s.setIr 8).shiftOut 1 0)

/-- CLAMP: the outputs hold the boundary register, and the bypass register is selected. -/
def execClamp (s : State) : Answer := .next (if !s.jtagOn then s else (s.setIr 9).driveBoundary.shiftOut 1 0)

/-- BYPASS: 0xFF and every code without an instruction. -/
def execBypass (code : BitVec 8) (s : State) : Answer :=
  .next (if !s.jtagOn || [0x00, 0x01, 0x02, 0x08, 0x09, 0x10, 0x11].contains code.toNat then s
    else (s.setIr code.toNat).shiftOut 1 0)

/-- DEBUG_TRANSPORT (R513, R550): codes 0x10 and 0x11 select dtmcs and dmi at debug level 1 or 2, and the bypass register
otherwise. What the debug transport carries is not in the spec (log 49). -/
def execDebugTransport (dmi : Bool) (s : State) : Answer :=
  .next (
    if !s.jtagOn then s
    else
      let s := s.setIr (0x10 + b2n dmi)
      if s.rd Reg.CHY_STAT_DEBUG = 0 then s.shiftOut 1 0 else s)

end Sys2Proof.Machine
end

