-- ==== Sys2Proof/Machine/PowerEnter.lean ====
section
/-! DEFINITION. PWR_ENTER: the vote, the stopping order, rollback, completion and power removal (R442-R453). -/
namespace Sys2Proof.Machine

/-! ### The vote -/

/-- The stopping order (R448). -/
def stopOrder : List Nat :=
  [0x0E, 0x0D, 0x0F, 0x14, 0x0C, 0x0A, 0x0B, 0x12, 0x13, 0x15, 0x11, 0x10, 0x09, 0x08, 0x05, 0x06, 0x04, 0x07, 0x17, 0x03, 0x02,
   0x18, 0x01]

/-- The first of `n` instances that is not quiescent. -/
def firstBusy (n : Nat) (quiet : Nat → Bool) : Option Nat := (List.range n).find? (fun i => !quiet i)

/-- The instance of a single-instance block that refuses while a condition holds. -/
def busyIf (b : Bool) : Option Nat := if b then some 0 else none

/-- Whether a command ring other than `ring` holds a descriptor that is announced and not completed (R447). -/
def State.otherRingBusy (s : State) (ring : Nat) : Bool :=
  (List.range 64).any (fun n => n != ring && !s.flag (Reg.HST_RING_CFG_TYPE n) &&
    (decide (0 < s.unfetched n) || !(s.ring n).descs.isEmpty))

/-- Whether Chrysalis writes its flash now: for a session, or for the request it executes (R447, R522; log 66). -/
def State.flashBusy (s : State) : Bool :=
  s.chy.session.isSome || s.chy.current.any (fun r => [0x20, 0x21, 0x22, 0x23, 0x24, 0x29].contains r.op)

/-- The first instance for which a block refuses, none when it agrees (R447) (log 66). -/
def State.refuses (s : State) (ring b : Nat) : Option Nat :=
  if b = 0x04 then firstBusy 8 (fun i => s.flag (Reg.HWK_STAT_QUIESCENT i))
  else if b = 0x05 then
    busyIf (!(s.flag Reg.TSK_STAT_QUIESCENT && (List.range 16).all (fun q => s.flag (Reg.TSK_Q_STAT_QUIESCENT q))))
  else if b = 0x06 then firstBusy 30 (fun i => s.flag (Reg.QUE_STAT_QUIESCENT i))
  else if b = 0x0A then busyIf (!s.flag Reg.PIX_STAT_QUIESCENT)
  else if b = 0x0D then busyIf (!s.flag Reg.EMI_STAT)
  else if b = 0x0E then busyIf (!s.flag Reg.OTU_STAT_QUIESCENT)
  else if b = 0x0F then firstBusy 16 (fun i => s.flag (Reg.WNG_STAT_QUIESCENT i))
  else if b = 0x10 then firstBusy 10 (fun i => s.flag (Reg.MAC_STAT_QUIESCENT i))
  else if b = 0x11 then firstBusy 8 (fun i => bitOf (s.shown (0x180004 + 0x4000 * i)) 0)
  else if b = 0x12 then
    firstBusy 48 (fun i => if i < 16 then s.flag (Reg.VIN_STAT_QUIESCENT i) else s.flag (Reg.VIN_FLOW_CTRL_QUIESCENT (i - 16)))
  else if b = 0x13 then
    busyIf (!(s.rd Reg.AUD_STAT == 0x7F && (List.range 3).all (fun j => s.rd (Reg.AUD_CHQ j) == (regReset (Reg.AUD_CHQ j).off).toNat)))
  else if b = 0x14 then firstBusy 8 (fun i => s.flag (Reg.DMX_STAT_QUIESCENT i))
  else if b = 0x15 then busyIf (!s.flag Reg.ROO_STAT_QUIESCENT)
  else if b = 0x08 then busyIf (s.flag Reg.CAL_CTRL_ENABLE)
  else if b = 0x02 ∨ b = 0x03 then busyIf (s.rd Reg.ARB_LOCKS != 0)
  else if b = 0x01 then busyIf (s.otherRingBusy ring)
  else if b = 0x18 then busyIf s.flashBusy
  else none

/-- The blocks that the target state stops, in the stopping order (R444, R446, R448). -/
def State.targetSet (s : State) (target : Nat) : List Nat :=
  if target = 1 then
    stopOrder.filter (fun b => bitOf (s.rd Reg.PWR_IDLEMASK) b && !([0x01, 0x02, 0x03, 0x07, 0x18].contains b))
  else stopOrder

/-! ### Completion -/

/-- The PWR_ENTER completes; word 0 holds the µs since it started (R445). -/
def State.enterDone (s : State) (ring index began status block inst : Nat) : State :=
  (s.setPhase ring index (.done status 0 block inst [(s.time.elapsed - began) / 1000])).settleRing ring

/-- A refusal (R446, R449): the state is what it was, PWR_REFUSE is loaded, and the descriptor completes with REFUSED. -/
def State.enterRefused (s : State) (ring index began prior block inst phase : Nat) : State :=
  let s := (s.wr Reg.PWR_STAT_STATE prior).wr Reg.PWR_STAT_TARGET 0
  let s := ((s.wr Reg.PWR_REFUSE_BLOCK block).wr Reg.PWR_REFUSE_INST inst).wr Reg.PWR_REFUSE_PHASE phase
  (s.count Reg.PWR_REFUSE_COUNT 1).enterDone ring index began stRefused block inst

/-! ### Stopping -/

/-- What happens during an entry: how many blocks have been taken by then, and what (R447, R457, R458). -/
abbrev EntryEvent := Fin 24 × EntryAct

/-- One such event. -/
def State.entryAct (s : State) : EntryAct → State
  | .write sp off v => s.writeAccess sp off.toNat v.toNat
  | .lock base size => after (execLockBegin 56 base size s) s
  | .request => s.nextRequest
  | .sagWarn level => s.sagWarn level.toNat
  | .sagReset level => s.sagReset level.toNat
  | .vcoreLow => s.vcoreLow

/-- The events that come when `k` blocks have been taken; a reset ends the entry (R458). -/
def State.entryActs (s : State) (during : List EntryEvent) (k : Nat) : State :=
  during.foldl (fun s e => if e.1.val = k ∧ s.pwr.held.isNone = true then s.entryAct e.2 else s) s

/-- A block stops: its alive signal falls and its clock stops, within 5 µs (R446). HST stops after the completion. -/
def State.enterStop (s : State) (b : Nat) : State :=
  let s := s.within 5000
  if b = 0x01 then s
  else ((s.stopBlock b).setPwr { s.pwr with idle := if s.pwr.idle.contains b then s.pwr.idle else s.pwr.idle ++ [b] }).setOff

/-- The blocks are taken one by one, each testing R447 again; the answer names the block and the instance that refuse. A reset ends it. -/
def State.stopAll (ring : Nat) (during : List EntryEvent) : List Nat → Nat → State → State × Option (Nat × Nat)
  | [], k, s => (s.entryActs during k, none)
  | b :: t, k, s =>
    let s := s.entryActs during k
    if s.pwr.held.isSome then (s, none)
    else match s.refuses ring b with
    | some i => (s, some (b, i))
    | none => State.stopAll ring during t (k + 1) (s.enterStop b)

/-- The rollback of R449: the blocks stopped by this entry restart in reverse, within 200 µs. -/
def State.rollBack (s : State) (prior : List Nat) : State :=
  let stopped := s.pwr.idle.filter (fun b => !prior.contains b)
  let s := (s.wr Reg.PWR_STAT_STATE 3).within 200000
  let s := (s.setPwr { s.pwr with idle := prior }).setOff
  stopped.reverse.foldl (fun s b => s.startBlock b) s

/-- Power removal (R446, R453): the pads latch, every domain but KEEP powers down within 1 ms, and Cocoon drives SUPPLY_OFF. -/
def State.powerRemoval (s : State) (target : Nat) : State :=
  let s := s.latchPads (target == 2)
  let s := s.within 1000000
  let s := s.setPwr { s.pwr with idle := [], lowered := [], stoppedTime := none, mode := if target = 2 then .dormant else .cocoonPending, supplyOff := target == 3 }
  let s := s.loseDomains true true
  let s : State := { s with store := { storeReset with powered := false } }
  if target = 2 then s else s.emit (.pin "SUPPLY_OFF" 0 true)

/-! ### Wake events during an entry -/

/-- Whether a wake event is enabled: sources 2 WAKE_N, 3 RTC, 4 GPI (R450). -/
def State.wakeEnabled (s : State) (src : Nat) : Bool :=
  if src = 2 then s.flag Reg.PWR_WAKE_EN_PIN else if src = 3 then s.flag Reg.PWR_WAKE_EN_RTC
  else s.flag Reg.PWR_WAKE_EN_GPI && !s.isOff 0x09

/-- A wake event that came during the entry and is held (R452) (log 67). -/
def State.heldWake (s : State) (wake : Option (Fin 3)) : Option Nat :=
  match wake with
  | some k => if s.wakeEnabled (2 + k.val) then some (2 + k.val) else none
  | none => none

/-- An entry to Idle, Dormant or Cocoon (R446-R449, R452) (log 68) (log 115). -/
def State.enter (s : State) (ring index target : Nat) (during : List EntryEvent) (wake : Option (Fin 3)) : State :=
  let began := s.time.elapsed
  let prior := s.rd Reg.PWR_STAT_STATE
  let idle := s.pwr.idle
  let set := s.targetSet target
  let s := (s.wr Reg.PWR_STAT_STATE 2).wr Reg.PWR_STAT_TARGET target
  let held := s.heldWake wake
  let s := s.setFlag Reg.PWR_STAT_WAKEPEND held.isSome
  let s := s.within 10000
  let wakePrior (s : State) : State :=
    match held with
    | some src => if prior = 1 then s.wakeIdle src false else s.setFlag Reg.PWR_STAT_WAKEPEND false
    | none => s
  let no := set.filterMap (fun b => (s.refuses ring b).map (fun i => (b, i)))
  let (pick, s) := s.free
  match no[pick % no.length]? with
  | some (b, i) => wakePrior (s.enterRefused ring index began prior b i 0)
  | none =>
    let (s, refused) := State.stopAll ring during set 0 s
    if s.pwr.held.isSome then s
    else match refused with
    | some (b, i) => wakePrior ((s.rollBack idle).enterRefused ring index began prior b i 1)
    | none =>
      if target = 1 then
        let s := ((s.wr Reg.PWR_STAT_STATE 1).wr Reg.PWR_STAT_TARGET 0).enterDone ring index began stOk 0x16 0
        match held with
        | some src => s.wakeIdle src true
        | none => s
      else
        let s := ((s.enterDone ring index began stOk 0x16 0).signalOldest ring).powerRemoval target
        match held with
        | some src => if src = 4 then s else s.wakeDeep src 0 true
        | none => s

/-- A PWR_ENTER of a target (R445): a reserved bit gives BAD_PARAM, and the current state completes at once. -/
def State.powerEnter (s : State) (ring target : Nat) (run : State → Desc → State) : State :=
  s.withDesc ring 0x1601 fun s d =>
    if d.w 0 % 4 ≠ target then s
    else if !(d.reservedOk false 1 && decide (d.w 0 < 4)) then s.complete ring d.index stBadParam [0]
    else if s.rd Reg.PWR_STAT_STATE = target then s.complete ring d.index stOk [0]
    else run s d

/-- PWR_ENTER_RUN (R445, R450, R451): the wake from Idle; the descriptor completes when the last block has restarted. -/
def execPwrEnterRun (ring : Fin 64) (s : State) : Answer :=
  .next (s.powerEnter ring 0 fun s d =>
    let began := s.time.elapsed
    (s.wakeIdle 1 false).enterDone ring d.index began stOk 0x16 0)

/-- PWR_ENTER_IDLE (R445-R452). -/
def execPwrEnterIdle (ring : Fin 64) (during : List EntryEvent) (wake : Option (Fin 3)) (s : State) : Answer :=
  s.atStore (.pwrEnterIdle ring during wake) <|
  .next (s.powerEnter ring 1 fun s d => s.enter ring d.index 1 during wake)

/-- PWR_ENTER_DORMANT (R445-R453). -/
def execPwrEnterDormant (ring : Fin 64) (during : List EntryEvent) (wake : Option (Fin 3)) (s : State) : Answer :=
  s.atStore (.pwrEnterDormant ring during wake) <|
  .next (s.powerEnter ring 2 fun s d => s.enter ring d.index 2 during wake)

/-- PWR_ENTER_COCOON (R445-R453). -/
def execPwrEnterCocoon (ring : Fin 64) (during : List EntryEvent) (wake : Option (Fin 3)) (s : State) : Answer :=
  s.atStore (.pwrEnterCocoon ring during wake) <|
  .next (s.powerEnter ring 3 fun s d => s.enter ring d.index 3 during wake)

end Sys2Proof.Machine
end

