-- ==== Sys2Proof/Machine/SelfCal.lean ====
section
/-! DEFINITION. Oscillator compensation and self-calibration (R482-R490). -/
namespace Sys2Proof.Machine

/-! ### Oscillator compensation -/

/-- C2 × (T_x - T0)² in 2^-10 ppm, to the nearest (R482; log 41): T_x is E_7 - TOFS. -/
def State.curvature (s : State) : Int :=
  let tx := s.rdInt (Reg.THM_SENS_TEMP_EST 7) - s.rdInt Reg.CAL_OSC_T_TOFS
  let d := tx - s.rdInt Reg.CAL_OSC_T_T0
  roundDiv (s.rdInt Reg.CAL_OSC_C_C2 * d * d) (2 ^ 22)

/-- RTC_SECOND (R482): the RTC counts a second; c, which CAL_OSC_NOW shows, is computed again while region 7 is estimated and held
otherwise. The accumulator takes the correction of the next second and keeps the fraction of a cycle; whole cycles lengthen that second or
shorten it. Without the KEEP clock the RTC stands (R543). -/
def execRtcSecond (s : State) : Answer :=
  if s.pwr.lostClocks.contains 6 then .next s
  else
  let s := s.countMod Reg.PWR_RTC 1
  let c := if s.isOff 0x17 then s.pwr.rtcC else s.rdInt Reg.CAL_OSC_C_C0 + s.curvature
  let frac := s.pwr.rtcFrac + roundDiv (c * 2 ^ 31) 1024000000
  .next (s.setPwr { s.pwr with rtcC := c, rtcFrac := frac % 65536, rtcCycles := (32768 + frac / 65536).toNat })

/-! ### Starting a run -/

/-- Whether the fields of a CAL_RUN are those R484 accepts: KIND 1 to 3, GRADUAL with TIME alone, a SERDES target that exists, and
reserved bits 0. -/
def calParamsOk (d : Desc) : Bool :=
  let w := d.w 0
  let kind := bitsOf w 0 4
  let tb := bitsOf w 8 8
  let ti := bitsOf w 16 8
  d.reservedOk false 1 && decide (1 ≤ kind) && decide (kind ≤ 3) && (bitsOf w 4 1 == 0 || kind == 1) &&
    bitsOf w 5 3 == 0 && bitsOf w 24 8 == 0 &&
    (kind != 2 || (tb == 0x0F && decide (ti < 16)) || (tb == 0x10 && decide (ti < 10)) || (tb == 0x12 && decide (ti < 4)))

/-- CAL_RUN of a kind (R484, R485): a descriptor that starts begins its run, or waits while another runs. -/
def State.calRun (s : State) (ring kind : Nat) : State :=
  if s.isOff 0x08 then s
  else
    s.withDesc ring 0x0803 fun s d =>
      if !calParamsOk d then ((s.count Reg.CAL_SC_RUNS 1).wr Reg.CAL_SC_RESULT 0).complete ring d.index stBadParam []
      else if bitsOf (d.w 0) 0 4 ≠ kind then s
      else ((s.setPhase ring d.index .working).calAsk ring d.index (d.w 0)).settleRing ring

/-- CAL_RUN_TIME (R484-R486). -/
def execCalRunTime (ring : Fin 64) (s : State) : Answer := .next (s.calRun ring.val 1)

/-- CAL_RUN_SERDES (R484, R485, R487, R488). -/
def execCalRunSerdes (ring : Fin 64) (s : State) : Answer := .next (s.calRun ring.val 2)

/-- CAL_RUN_OSC (R484, R485, R489). -/
def execCalRunOsc (ring : Fin 64) (s : State) : Answer := .next (s.calRun ring.val 3)

/-- AUTO_OSC_TIMER (R483): 600 s after the last, while LOCKED; a calibration of the oscillator runs, or waits for the one that
does. -/
def execAutoOscTimer (s : State) : Answer :=
  .next (
    if s.isOff 0x08 || !s.flag Reg.CAL_SC_CTRL_AUTO_OSC || s.rd Reg.ANT_STAT_STATE != 2 || s.selfCal.waiting.any (·.ring == 64) then s
    else
      let s := match s.selfCal.autoLast with | some t => s.untilElapsed (t + 600000000000) | none => s
      (s.setSelfCal { s.selfCal with autoLast := some s.time.elapsed }).calAsk 64 0 3)

/-! ### Ending a run -/

/-- The end of a TIME measurement (R486): a correction past 50 ns fails the run; otherwise the corrections are applied as APPLY
selects. -/
def State.calTimeDone (s : State) (r : CalRunSt) (deltas : List Int) : State :=
  let s := s.within 2000000
  let ds := if deltas.isEmpty then [0] else deltas
  let most := largestDelta ds
  if 50 < most then s.calEnd 0x0842 [s.calMicros, most, 0]
  else
    let s := s.setSelfCal { s.selfCal with run := some { r with setting := most }, deltas := ds, whole := !r.gradual,
                                           next := some (s.time.elapsed + 1000000) }
    let s := (s.setFlag Reg.CAL_SC_STAT_GRADUAL r.gradual).wr Reg.CAL_SC_REMAIN most
    if !r.gradual && !s.flag Reg.OTU_STAT_RUNNING then s.calStep else s

/-- The setting with the fewest errors, the lowest winning a tie, and its errors (R488). -/
def bestSetting (errs : List Nat) : Nat × Nat :=
  (List.range 16).foldl (fun a k => if errs.getD k 0 < a.2 then (k, errs.getD k 0) else a) (0, errs.getD 0 0)

/-- What transmit training of a Wingbeat port has found comes into force, before the LATCH (R488): the best setting, or with no reply the
one before. -/
def State.trainFound (s : State) (r : CalRunSt) (found : Option (Nat × Nat)) : State :=
  let setting := match found with | some (k, _) => k | none => r.setting
  (s.setWing r.tinst { s.wing r.tinst with setting := setting }).setSelfCal { s.selfCal with run := some { r with result := some found } }

/-- The end of a SERDES calibration (R487, R488): adaptation in place. On a Wingbeat port, transmit training ends with what the nearest node
reported, before the LATCH; the run ends with the receive adaptation behind it. -/
def State.calSerdesDone (s : State) (r : CalRunSt) (reply : Bool) (errs : List Nat) : State :=
  if r.tblock ≠ 0x0F then
    let s := s.within 50000000
    s.calEnd stOk [s.calMicros, 0, 0]
  else if !r.trained then s
  else match s.emi.frames.find? (fun x => x.wings.any (fun w => w.port == r.tinst && w.training && !w.latched)) with
    | some x => if x.launched && r.result.isNone then s.trainFound r (if reply then some (bestSetting errs) else none) else s
    | none =>
      let s := s.within 2000000
      match r.result with
      | some (some (k, e)) => s.calEnd stOk [s.calMicros, k, e]
      | _ =>
        let s := s.setWing r.tinst { s.wing r.tinst with setting := r.setting }
        s.calEnd 0x0842 [s.calMicros, r.setting, 0]

/-- The end of an OSC measurement over 16 s of device time (R489): `e` is the crystal's error in 2^-10 ppm. -/
def State.calOscDone (s : State) (r : CalRunSt) (e : Int) : State :=
  let s := s.until (r.startNow + 16000000000)
  if 30720 < e.natAbs then s.calEnd 0x0842 [s.calMicros, low 32 e, 0]
  else (s.wrInt Reg.CAL_OSC_C_C0 (e - s.curvature)).calEnd stOk [s.calMicros, low 32 e, 0]

/-- CAL_RUN_COMPLETE (R485-R489): the running calibration's measurement ends with what it found: delay corrections in ns, whether
the nearest node replied and its new code errors by setting, or the crystal's error. -/
def execCalRunComplete (deltas : List Int) (reply : Bool) (errs : List Nat) (e : Int) (s : State) : Answer :=
  .next (match s.selfCal.run with
    | none => s
    | some r =>
      if r.kind = 1 then (if s.selfCal.deltas.isEmpty then s.calTimeDone r deltas else s)
      else if r.kind = 2 then s.calSerdesDone r reply errs
      else s.calOscDone r e)

end Sys2Proof.Machine
end

