-- ==== Sys2Proof/Machine/Start.lean ====
section
/-! DEFINITION. Starts, the pins that cause them, reference clocks and the core supply (R518, R536, R538, R543, R544,
R554-R562). -/
namespace Sys2Proof.Machine

/-! ### The kind of a start -/

/-- The causes that R557 marks warm. -/
def warmCause (cause : Nat) : Bool := [2, 4, 5, 6, 7, 8, 9, 10, 12].contains cause

/-- The cause of the start that may run now (R442, R556, R557): the main rails have risen, after Cocoon or, with VKEEP lost, from Off; a
reset is released; or an update restart is due. -/
def State.startCause (s : State) (rails keepLost : Bool) : Option Nat :=
  if s.pwr.testmode then none
  else if rails then some (if s.pwr.mode = .cocoon ∧ keepLost = false then 11 else 1)
  else match s.pwr.held with
    | some c => if s.pwr.released then some c else none
    | none => if s.chy.reboot && s.pwr.mode == .on && s.pwr.starting.isNone && !s.pwr.recovery then some 10 else none

/-- What goes with the keep domain (R442, R525, R556): the retained log and its notices, the RTC and the tamper record. -/
def State.loseKeep (s : State) : State :=
  let s := s.setChy { s.chy with log := [], unflushed := 0, held := [] }
  let s := (s.wr Reg.PWR_RTC 0).wr Reg.CHY_TAMPER_COUNT 0
  let s := s.wr Reg.CHY_TAMPER_LAST 0
  s.setPwr { s.pwr with failedBoots := 0, starts := 0, rtcFrac := 0, rtcC := 0, rtcCycles := 32768 }

/-- The pads take their reset levels (R533, R559). -/
def State.resetPads (s : State) : State :=
  let s := s.setFlag Reg.PWR_STAT_PADLATCH false
  let s := (List.range 8).foldl (fun s k => s.emit (.pin "TIMEPULSE" k false)) s
  (List.range 8).foldl (fun s p => s.emit (.pin "DMX_DE" p false)) s

/-- START_CLASSIFY, STORE_BIST and the store's restore (R442, R514, R527, R554-R559): the state in which image selection finds the
part (log 75). -/
def State.classify (s : State) (cause : Nat) (keepLost : Bool) : State × StartSt :=
  let s := if keepLost then s.loseKeep else s
  let keep := s.pwr.keepOk && !keepLost && !s.flag Reg.PWR_STAT_KEEP_LOW
  let cold := !(warmCause cause && keep)
  let kept := !cold && cause != 9 && !s.pwr.vstoreFell && s.store.powered
  let s := if s.pwr.supplyOff then s.emit (.pin "SUPPLY_OFF" 0 false) else s
  let s := s.loseDomains (!cold) false
  let s := if cold then
      (s.wr Reg.CHY_STAT_DEBUG 0).setChy { s.chy with debugSeen := 0 }
    else s
  let s := if cause = 9 ∨ cause = 11 then s else s.resetPads
  let s := (s.setFlag Reg.PWR_STAT_KEEP_LOW false).setFlag Reg.PWR_STAT_SAG false
  let p := s.pwr
  let p : PwrSt := { pwrReset with
    failedBoots := if keep then p.failedBoots else 0, starts := (if keep then p.starts else 0) + 1,
    lostClocks := p.lostClocks.filter (· != 5), vcore := if cold then 800 else p.vcore, rtcFrac := p.rtcFrac, rtcC := p.rtcC, rtcCycles := p.rtcCycles, rail := p.rail }
  let st : StartSt := { cause := cause, began := s.time.elapsed, cold := cold, kept := kept, recovery := false, bist := [] }
  let s := (s.setPwr { p with starting := some st }).setChy { s.chy with reboot := false }
  let s : State := { s with store := if kept then { s.store with ueTimes := [], nextScrub := [] } else storeReset }
  ((s.wr Reg.PWR_STAT_STATE 0).showKeys.setOff, st)

/-! ### Image selection -/

/-- The running image's registers, and its firmware in the SRAM, whose code region has a free size (R495, R528; log 177). -/
def State.runImage (s : State) (image : Bytes) : State :=
  let (f, s) := s.free
  let s := s.setChy { s.chy with sram := [], codeWords := f % 0x20001, codeDigest := leNat (imageDigest image) }
  (s.wr Reg.CHY_INSTAR (imageInstar image)).showDigest Reg.CHY_INSTARDIG (imageDigest image)

/-- The payload LENGTH of an image, in MiB, rounded up (R516, R554). -/
def imageMib (b : Bytes) : Nat := (leNat ((b.drop 16).take 4) + 2 ^ 20 - 1) / 2 ^ 20

/-- The start record (R560). -/
def State.logStart (s : State) (st : StartSt) (ms : Nat) : State :=
  let flags := b2n st.kept + 2 * b2n st.recovery + 4 * b2n (s.rd Reg.CHY_STAT_CAND == 3)
  s.logEvent 1 0x1880 (leBytes 1 (b2n !st.cold) ++ leBytes 1 st.cause ++ leBytes 1 s.pwr.failedBoots ++ leBytes 1 flags ++
    leBytes 4 ms ++ leBytes 4 (s.rd Reg.CHY_INSTAR))

/-- The eclosed image boots; at a failed-boot count of 3 or more recovery mode takes its place, and a failed verification is a
failed boot (R518, R561, R562). -/
def State.bootEclosed (s : State) (st : StartSt) (eclosed : Nat) : State :=
  if 3 ≤ s.pwr.failedBoots then
    let st := { st with recovery := true }
    ((s.setPwr { s.pwr with starting := none, recovery := true }).setOff).logStart st 0
  else if eclosed ≠ 0 then s.bootFailed 1
  else s.runImage s.chy.eclosed

/-- BOOT_IMAGE_SELECT, IMAGE_REJECTED and FALLBACK (R518, R520): `staged` and `eclosed` are what verification finds, 0 or a cause of
R502 (log 77). -/
def State.selectImage (s : State) (st : StartSt) (staged eclosed : Nat) : State :=
  let cand := s.rd Reg.CHY_STAT_CAND
  let slot := 1 - s.rd Reg.CHY_STAT_SLOT
  let instar := imageInstar s.chy.staged
  if cand = 2 then
    if staged = 0 then
      let s := s.wr Reg.CHY_STAT_CAND 3
      let s := s.setChy { s.chy with otherSettings := s.chy.settings, windowOpen := true }
      s.runImage s.chy.staged
    else
      let s := (s.wr Reg.CHY_STAT_CAND 4).reportHeld 0x1803 0 [slot, staged, instar]
      s.bootEclosed st eclosed
  else if cand = 3 then
    let s := s.wr Reg.CHY_STAT_CAND 4
    let s := s.setChy { s.chy with settings := s.chy.otherSettings, otherSettings := [] }
    let s := s.wr Reg.CHY_TAMPER_ACT (leNat (((s.setting 0x80000001).getD []).take 1))
    let s := s.reportHeld 0x1804 0 [instar, imageInstar s.chy.eclosed]
    s.bootEclosed st eclosed
  else s.bootEclosed st eclosed

/-- START (R518, R554-R562): at reset release the keep domain classifies the start, the store and the calibration are restored or
made, and the image is selected. `rails` says that the main rails have risen, and `tests` whether VKEEP was absent meanwhile (log 76) and
what the BIST of a cold start finds, a die without an entry needing no repair (R126). -/
def execStart (rails : Bool) (tests : StartTests) (staged eclosed : Fin 9) (s : State) : Answer :=
  .next (match s.startCause rails tests.keepLost with
    | none => s
    | some cause =>
      let s := if s.pwr.mode = .on ∧ s.pwr.held.isNone then s.loseDomains true true else s
      let (s, st) := s.classify cause (rails && tests.keepLost)
      let st := { st with bist := if st.cold then tests.bist.take 8 else [] }
      (s.setPwr { s.pwr with starting := some st }).selectImage st staged.val eclosed.val)

/-- The dies that the BIST could not repair (R126, R127). -/
def StartSt.lost (st : StartSt) : List Nat := (st.bist.zipIdx.filter (fun d => !d.1.repaired)).map (·.2)

/-- What the BIST of a cold start leaves in the store's registers (R126, R127, R150). -/
def State.showBist (s : State) (st : StartSt) : State :=
  let s := st.bist.zipIdx.foldl (fun s d => s.wr (Reg.STO_DIE_STAT_SPARES d.2) d.1.spares.toNat) s
  (if st.cold then s.setFlag Reg.STO_STAT_BIST_OK st.lost.isEmpty else s).loseDies st.lost

/-- READY (R127, R554, R555, R560, R561): the start's steps complete within their bound, device time begins at 0, RUN is set, the blocks
are released, START is logged, held notices are raised, and with them the loss of each die that the BIST could not repair. -/
def execReady (s : State) : Answer :=
  .next (match s.pwr.starting with
    | none => s
    | some st =>
      if s.chy.restart.isSome || s.flag Reg.CHY_STAT_HALTED then s
      else
        let image := if s.rd Reg.CHY_STAT_CAND = 3 then s.chy.staged else s.chy.eclosed
        let bound := ((if st.cold then 100 else 25) + 21 * imageMib image) * 1000000
        let (f, s) := s.free
        let s := s.untilElapsed (st.began + f % (bound + 1))
        let ms := (s.time.elapsed - st.began) / 1000000
        let s : State := { s with time := { s.time with acc := 0 } }
        let s := (s.setFlag Reg.CHY_STAT_RUN true).logStart st ms
        let s := s.setPwr { s.pwr with starting := none, failedBoots := 0 }
        let s := s.setChy { s.chy with startAt := st.began }
        let s := st.lost.foldl (fun s _ => s.logEvent (logClass 0x0203) 0x0203 (wordsBytes [5])) (s.setOff.showBist st)
        let s := s.raiseHeldWith (st.lost.map (fun d => (0x0203, d, [5])))
        if st.lost.isEmpty then s else s.demote 3)

/-- BOOT_WATCHDOG_EXPIRY (R561): 2 s from the start's beginning. -/
def execBootWatchdogExpiry (s : State) : Answer :=
  .next (match s.pwr.starting with
    | none => s
    | some st => (s.untilElapsed (st.began + 2000000000)).bootFailed 2)

/-! ### Pins -/

/-- A reset by a pin: one that is already held for a cause of its own goes on being held for it. -/
def State.pinReset (s : State) (cause : Nat) : State :=
  if s.pwr.held.isSome && !s.pwr.released then s
  else
    let s := s.holdReset cause
    s.setPwr { s.pwr with released := true }

/-- RESET_N_ASSERT (R536, R557): RESET_N has been low, for 100 ms or longer when `long`; the pin acts while its rail is on. -/
def execResetNAssert (long : Bool) (s : State) : Answer :=
  .next (if s.pwr.mode = .cocoon then s else s.pinReset (if long then 3 else 2))

/-- TESTMODE_HIGH (R536): while the pin is high every domain except KEEP is held in reset; as it falls, the part starts as from
power-on (log 48). -/
def execTestmodeHigh (level : Bool) (s : State) : Answer :=
  .next (
    if s.pwr.mode = .cocoon ∨ s.pwr.testmode = level then s
    else if level then
      let s := s.holdReset 1
      s.setPwr { s.pwr with testmode := true }
    else s.setPwr { s.pwr with testmode := false, released := true })

/-! ### Reference clocks -/

/-- A ring's descriptors that had started complete with CANCELLED (R543). -/
def State.cancelStarted (s : State) (n : Nat) : State :=
  let r := s.ring n
  (s.setRing n { r with descs := r.descs.map (fun d =>
    if d.phase == .started || d.phase == .held || d.phase == .working then
      { d with phase := .done stCancelled 0 (s.ringBlock n) (s.ringInst n) [] } else d) }).settleRing n

/-- The command rings bound to a block. -/
def State.blockRings (s : State) (b : Nat) : List Nat :=
  (List.range 64).filter (fun n => !s.flag (Reg.HST_RING_CFG_TYPE n) && s.ringBlock n == b)

/-- Work in flight in the blocks of a lost clock is lost, and their links are down (R543). -/
def State.loseWork (s : State) (clock : Nat) : State :=
  if clock = 1 then
    let s := (List.range 10).foldl (fun s p =>
      let s := s.setMac p { s.mac p with rx := [], tx := [], cut := none, pause := none, holdUntil := none,
                                         wireUntil := s.time.elapsed }
      s.setFlag (Reg.MAC_STAT_LINK p) false) s
    s.loseSource 1
  else if clock = 2 then
    (List.range 16).foldl (fun s p =>
      (s.setWing p { s.wing p with reqs := [], enums := [], free := s.time.elapsed }).setFlag (Reg.WNG_STAT_RXLOCK p) false) s
  else if clock = 4 then
    (List.range 4).foldl (fun s i =>
      if s.flag (Reg.VIN_STAT_LOCK i) then
        let s := (s.setFlag (Reg.VIN_STAT_LOCK i) false).loseFrame i
        let s := s.setVin i { s.vin i with run := (0, 0) }
        if s.rd Reg.ANT_REF_CFG_SDI_SEL = i then s.loseSource 3 else s
      else s) s
  else s

/-- REFCLK_LOSS (R543, R544): 0 SYSCLK, then the clocks in the order of REFCLK_LOST's instances. -/
def execRefclkLoss (clock : Fin 7) (s : State) : Answer :=
  let c := clock.val
  .next (
    if s.pwr.lostClocks.contains c then s
    else
      let s := s.setPwr { s.pwr with lostClocks := insertNat c s.pwr.lostClocks }
      if c = 0 then (if s.pwr.mode = .on then s.holdReset 6 else s)
      else
        let s := (clockBlocks c).foldl (fun s b => s.stopBlock b) s
        let s := if c = 4 then s.lowerAlive [51, 52, 53, 54] else s
        let s := if c = 3 ∧ s.flag Reg.HST_STAT_LINK_UP = true then s.resetHost false else s
        let s := (s.setOff.reportHeld 0x0002 c [1]).loseWork c
        if c = 6 then s.tamper 2 else s)

/-- REFCLK_RETURN (R543, R544): a lost clock has been stable for 1 ms (log 114). -/
def execRefclkReturn (clock : Fin 7) (s : State) : Answer :=
  let c := clock.val
  .next (
    if !s.pwr.lostClocks.contains c then s
    else if c = 0 then
      let s := s.setPwr { s.pwr with lostClocks := s.pwr.lostClocks.filter (· != 0) }
      if s.pwr.held = some 6 then s.setPwr { s.pwr with released := true } else s
    else if c = 5 then s.reportHeld 0x0002 c [0]
    else
      let s := (s.setPwr { s.pwr with lostClocks := s.pwr.lostClocks.filter (· != c) }).setOff
      let s := ((clockBlocks c).flatMap s.blockRings).foldl (fun s n => s.cancelStarted n) s
      let s := (if c = 4 then [0x12] else clockBlocks c).foldl (fun s b => s.startBlock b) s
      s.reportHeld 0x0002 c [0])

/-! ### The core supply -/

/-- AVS_STEP (R538): at most one step of 5 mV per ms, within 720 to 800 mV; the target is free (log 2). Without an acknowledgement,
or with READ_VOUT more than 15 mV off, Chrysalis stops adjusting and logs it. -/
def execAvsStep (ack : Bool) (vout : BitVec 16) (s : State) : Answer :=
  .next (
    if s.pwr.avsStopped || !s.flag Reg.CHY_STAT_RUN then s
    else
      let s := s.untilElapsed s.pwr.avsNext
      let (f, s) := s.free
      let v := min 800 (max 720 (s.pwr.vcore + f % 11 - 5))
      let s := s.setPwr { s.pwr with avsNext := s.time.elapsed + 1000000 }
      let s := s.emit (.avs v)
      let stop (s : State) (v : Nat) : State :=
        (s.setPwr { s.pwr with avsStopped := true }).logEvent 6 (Config.chyEventCode 2).toNat (leBytes 4 v ++ leBytes 4 vout.toNat)
      if !ack then stop s v
      else
        let s := s.setPwr { s.pwr with vcore := v }
        if 15 < (vout.toNat : Int) - v ∨ 15 < (v : Int) - vout.toNat then stop s v else s)

end Sys2Proof.Machine
end

