-- ==== Sys2Proof/Machine/Dispatch.lean ====
section
/-! DEFINITION. One arm per command: a direct call of its meaning, or its rejection by name. -/
namespace Sys2Proof.Machine

def exec (i : Instr) (s : State) : Host.Outcome State Fault Refusal :=
  match i with
  | .registerWrite sp off val => Sys2Proof.Machine.execRegisterWrite sp off val s
  | .loReadLatch sp off => Sys2Proof.Machine.execLoReadLatch sp off s
  | .bar0UnmappedAccess sp off write => Sys2Proof.Machine.execBar0UnmappedAccess sp off write s
  | .bar0BadAccess sp off write => Sys2Proof.Machine.execBar0BadAccess sp off write s
  | .accessOff sp off write => Sys2Proof.Machine.execAccessOff sp off write s
  | .glbErrstatClear val => Sys2Proof.Machine.execGlbErrstatClear val s
  | .deviceTimeWrap => Sys2Proof.Machine.execDeviceTimeWrap s
  | .antForceHoldWrite v ptp => Sys2Proof.Machine.execAntForceHoldWrite v ptp s
  | .antSrcselWrite v ptp => Sys2Proof.Machine.execAntSrcselWrite v ptp s
  | .antSourceValid src ptp => Sys2Proof.Machine.execAntSourceValid src ptp s
  | .antSourceLost src => Sys2Proof.Machine.execAntSourceLost src s
  | .antHolddwellExpiry ptp => Sys2Proof.Machine.execAntHolddwellExpiry ptp s
  | .antRevertTimer src ptp => Sys2Proof.Machine.execAntRevertTimer src ptp s
  | .genlockPulse t => Sys2Proof.Machine.execGenlockPulse t s
  | .ptpSyncRx h twoStep lanB origin corr t => Sys2Proof.Machine.execPtpSyncRx h twoStep lanB origin corr t s
  | .ptpFollowUpRx h lanB origin corr => Sys2Proof.Machine.execPtpFollowUpRx h lanB origin corr s
  | .ptpDelayRespRx h lanB received corr => Sys2Proof.Machine.execPtpDelayRespRx h lanB received corr s
  | .ptpAnnounceRx a t => Sys2Proof.Machine.execPtpAnnounceRx a t s
  | .ptpAnnounceTimeout => Sys2Proof.Machine.execPtpAnnounceTimeout s
  | .ptpDelayReqTx => Sys2Proof.Machine.execPtpDelayReqTx s
  | .ptpDelayReqRx h corr t => Sys2Proof.Machine.execPtpDelayReqRx h corr t s
  | .ptpSyncTx => Sys2Proof.Machine.execPtpSyncTx s
  | .ptpAnnounceTx => Sys2Proof.Machine.execPtpAnnounceTx s
  | .ptpMasterEnter => Sys2Proof.Machine.execPtpMasterEnter s
  | .ptpMasterLeave => Sys2Proof.Machine.execPtpMasterLeave s
  | .ctxFrameBoundary n => Sys2Proof.Machine.execCtxFrameBoundary n s
  | .ctxRun n => Sys2Proof.Machine.execCtxRun n s
  | .ctxHold n => Sys2Proof.Machine.execCtxHold n s
  | .ctxStop n => Sys2Proof.Machine.execCtxStop n s
  | .ctxLocate n => Sys2Proof.Machine.execCtxLocate n s
  | .ctxCtrlWrite n v => Sys2Proof.Machine.execCtxCtrlWrite n v s
  | .ctxRateWrite n which v => Sys2Proof.Machine.execCtxRateWrite n which v s
  | .ctxSourceLost n => Sys2Proof.Machine.execCtxSourceLost n s
  | .ctxSourceReturn n => Sys2Proof.Machine.execCtxSourceReturn n s
  | .calAdd ring => Sys2Proof.Machine.execCalAdd ring s
  | .calCancel ring => Sys2Proof.Machine.execCalCancel ring s
  | .calRelease => Sys2Proof.Machine.execCalRelease s
  | .calReleaseAccepted => Sys2Proof.Machine.execCalReleaseAccepted s
  | .calEnableWrite v => Sys2Proof.Machine.execCalEnableWrite v s
  | .calLeadWrite commit v => Sys2Proof.Machine.execCalLeadWrite commit v s
  | .tpArm k => Sys2Proof.Machine.execTpArm k s
  | .tpDisarm k => Sys2Proof.Machine.execTpDisarm k s
  | .tpEdge k => Sys2Proof.Machine.execTpEdge k s
  | .gpiTransition n level t => Sys2Proof.Machine.execGpiTransition n level t s
  | .gpiDebounceExpiry n => Sys2Proof.Machine.execGpiDebounceExpiry n s
  | .gpiPop n => Sys2Proof.Machine.execGpiPop n s
  | .gpiEnable n => Sys2Proof.Machine.execGpiEnable n s
  | .functionLevelReset => Sys2Proof.Machine.execFunctionLevelReset s
  | .hotReset => Sys2Proof.Machine.execHotReset s
  | .pcieLinkDown => Sys2Proof.Machine.execPcieLinkDown s
  | .pcieLinkUp speed width => Sys2Proof.Machine.execPcieLinkUp speed width s
  | .commandDoorbell ring val aligned => Sys2Proof.Machine.execCommandDoorbell ring val aligned s
  | .noticeDoorbell ring val aligned => Sys2Proof.Machine.execNoticeDoorbell ring val aligned s
  | .descriptorFetch data => Sys2Proof.Machine.execDescriptorFetch data s
  | .descriptorFetchError ring => Sys2Proof.Machine.execDescriptorFetchError ring s
  | .ringEnable ring => Sys2Proof.Machine.execRingEnable ring s
  | .ringDisable ring => Sys2Proof.Machine.execRingDisable ring s
  | .ringQuiescent ring => Sys2Proof.Machine.execRingQuiescent ring s
  | .msixModTimer ring => Sys2Proof.Machine.execMsixModTimer ring s
  | .msixUnmask vec => Sys2Proof.Machine.execMsixUnmask vec s
  | .nop ring => Sys2Proof.Machine.execNop ring s
  | .dmaToStore ring data hostError => Sys2Proof.Machine.execDmaToStore ring data hostError s
  | .dmaFromStore ring => Sys2Proof.Machine.execDmaFromStore ring s
  | .dmaDone ring => Sys2Proof.Machine.execDmaDone ring s
  | .arbGrant die arrivals strikes => Sys2Proof.Machine.execArbGrant die arrivals strikes s
  | .eccWriteback addr => Sys2Proof.Machine.execEccWriteback addr s
  | .poisonStore addr => Sys2Proof.Machine.execPoisonStore addr s
  | .arbStarved r => Sys2Proof.Machine.execArbStarved r s
  | .arbWithdraw w => Sys2Proof.Machine.execArbWithdraw w s
  | .aliveFall r => Sys2Proof.Machine.execAliveFall r s
  | .aliveRise r => Sys2Proof.Machine.execAliveRise r s
  | .lockBegin r base size => Sys2Proof.Machine.execLockBegin r base size s
  | .lockEnd r base recovered => Sys2Proof.Machine.execLockEnd r base recovered s
  | .lockWatchdogExpiry owner => Sys2Proof.Machine.execLockWatchdogExpiry owner s
  | .dieNoResponse die => Sys2Proof.Machine.execDieNoResponse die s
  | .dieLinkCheckFail die => Sys2Proof.Machine.execDieLinkCheckFail die s
  | .scrubRead die strikes => Sys2Proof.Machine.execScrubRead die strikes s
  | .scrubDisable => Sys2Proof.Machine.execScrubDisable s
  | .scrubQuiescent => Sys2Proof.Machine.execScrubQuiescent s
  | .bar2Write addr data => Sys2Proof.Machine.execBar2Write addr data s
  | .bar2Read addr len => Sys2Proof.Machine.execBar2Read addr len s
  | .next core => Sys2Proof.Machine.execNext core s
  | .cqRecordPush q => Sys2Proof.Machine.execCqRecordPush q s
  | .postres core => Sys2Proof.Machine.execPostres core s
  | .portFence core => Sys2Proof.Machine.execPortFence core s
  | .cmoBase core v => Sys2Proof.Machine.execCmoBase core v s
  | .clean core len dirty => Sys2Proof.Machine.execClean core len dirty s
  | .flush core len dirty => Sys2Proof.Machine.execFlush core len dirty s
  | .inval core len => Sys2Proof.Machine.execInval core len s
  | .ipi core mask => Sys2Proof.Machine.execIpi core mask s
  | .mtimecmpWrite core v => Sys2Proof.Machine.execMtimecmpWrite core v s
  | .mtipExpiry core => Sys2Proof.Machine.execMtipExpiry core s
  | .postK core k word => Sys2Proof.Machine.execPostK core k word s
  | .taskDispatch => Sys2Proof.Machine.execTaskDispatch s
  | .affinityWindowExpiry k => Sys2Proof.Machine.execAffinityWindowExpiry k s
  | .taskOverrun core => Sys2Proof.Machine.execTaskOverrun core s
  | .hwkWdog core => Sys2Proof.Machine.execHwkWdog core s
  | .hwkReset core => Sys2Proof.Machine.execHwkReset core s
  | .hwkStopmaxExpiry core => Sys2Proof.Machine.execHwkStopmaxExpiry core s
  | .hwkEnable core => Sys2Proof.Machine.execHwkEnable core s
  | .hwkDisable core => Sys2Proof.Machine.execHwkDisable core s
  | .tskEnable => Sys2Proof.Machine.execTskEnable s
  | .tskDisable => Sys2Proof.Machine.execTskDisable s
  | .tskQDisable k => Sys2Proof.Machine.execTskQDisable k s
  | .tskQuiescent k => Sys2Proof.Machine.execTskQuiescent k s
  | .tskPost ring => Sys2Proof.Machine.execTskPost ring s
  | .queuePagePop core load => Sys2Proof.Machine.execQueuePagePop core load s
  | .queuePagePush core store word => Sys2Proof.Machine.execQueuePagePush core store word s
  | .queHostPop q => Sys2Proof.Machine.execQueHostPop q s
  | .queHostPush q hi => Sys2Proof.Machine.execQueHostPush q hi s
  | .queNoticeClear q => Sys2Proof.Machine.execQueNoticeClear q s
  | .queEnable q => Sys2Proof.Machine.execQueEnable q s
  | .queDisable q => Sys2Proof.Machine.execQueDisable q s
  | .surfCommit d v => Sys2Proof.Machine.execSurfCommit d v s
  | .pixLtabNextWrite v => Sys2Proof.Machine.execPixLtabNextWrite v s
  | .pixEnable => Sys2Proof.Machine.execPixEnable s
  | .pixDisable => Sys2Proof.Machine.execPixDisable s
  | .pixQuiescent => Sys2Proof.Machine.execPixQuiescent s
  | .pixPiece pipe stalls sclStalls => Sys2Proof.Machine.execPixPiece pipe stalls sclStalls s
  | .compositeComplete t => Sys2Proof.Machine.execCompositeComplete t s
  | .sclFtabNextWrite v => Sys2Proof.Machine.execSclFtabNextWrite v s
  | .sclLampNextWrite v => Sys2Proof.Machine.execSclLampNextWrite v s
  | .sclImagoWrite second v => Sys2Proof.Machine.execSclImagoWrite second v s
  | .sclXfadeWrite v => Sys2Proof.Machine.execSclXfadeWrite v s
  | .eptNextWrite v => Sys2Proof.Machine.execEptNextWrite v s
  | .otuEnable => Sys2Proof.Machine.execOtuEnable s
  | .latch => Sys2Proof.Machine.execLatch s
  | .deadlineSwap => Sys2Proof.Machine.execDeadlineSwap s
  | .firstLaunch => Sys2Proof.Machine.execFirstLaunch s
  | .packetLaunch outlet => Sys2Proof.Machine.execPacketLaunch outlet s
  | .apex => Sys2Proof.Machine.execApex s
  | .otuDisable => Sys2Proof.Machine.execOtuDisable s
  | .otuSwitchGo rec_ => Sys2Proof.Machine.execOtuSwitchGo rec_ s
  | .safeNChange lowLevel t => Sys2Proof.Machine.execSafeNChange lowLevel t s
  | .safeFilterExpiry => Sys2Proof.Machine.execSafeFilterExpiry s
  | .safeClr => Sys2Proof.Machine.execSafeClr s
  | .sacnUdisc seg => Sys2Proof.Machine.execSacnUdisc seg s
  | .terminatePacket => Sys2Proof.Machine.execTerminatePacket s
  | .emiDisable => Sys2Proof.Machine.execEmiDisable s
  | .emiQuiescent => Sys2Proof.Machine.execEmiQuiescent s
  | .segDisable seg => Sys2Proof.Machine.execSegDisable seg s
  | .aptPoll seg => Sys2Proof.Machine.execAptPoll seg s
  | .aptReplyRx seg ip mac data => Sys2Proof.Machine.execAptReplyRx seg ip mac data s
  | .aptEchoReq node => Sys2Proof.Machine.execAptEchoReq node s
  | .aptEchoRspRx seg data lanB t4 => Sys2Proof.Machine.execAptEchoRspRx seg data lanB t4 s
  | .dmxBreak p idle => Sys2Proof.Machine.execDmxBreak p idle s
  | .dmxRdm ring data hostError => Sys2Proof.Machine.execDmxRdm ring data hostError s
  | .rdmTransactionStart p disc t => Sys2Proof.Machine.execRdmTransactionStart p disc t s
  | .rdmResponseRx p data framing t => Sys2Proof.Machine.execRdmResponseRx p data framing t s
  | .rdmTimeout p => Sys2Proof.Machine.execRdmTimeout p s
  | .rdmwaitExpiry p => Sys2Proof.Machine.execRdmwaitExpiry p s
  | .dmxDiscover ring => Sys2Proof.Machine.execDmxDiscover ring s
  | .dmxIncrementalDiscovery p => Sys2Proof.Machine.execDmxIncrementalDiscovery p s
  | .dmxDisable p => Sys2Proof.Machine.execDmxDisable p s
  | .dmxQuiescent p => Sys2Proof.Machine.execDmxQuiescent p s
  | .wbTick p => Sys2Proof.Machine.execWbTick p s
  | .wbDataCutoff p => Sys2Proof.Machine.execWbDataCutoff p s
  | .wbLatchSend p => Sys2Proof.Machine.execWbLatchSend p s
  | .wbScanSend p n => Sys2Proof.Machine.execWbScanSend p n s
  | .wbProfileWrite p k write => Sys2Proof.Machine.execWbProfileWrite p k write s
  | .wbStatusPoll p n => Sys2Proof.Machine.execWbStatusPoll p n s
  | .wbEcho p n => Sys2Proof.Machine.execWbEcho p n s
  | .wbEnumCheck p => Sys2Proof.Machine.execWbEnumCheck p s
  | .wbRspRx p r => Sys2Proof.Machine.execWbRspRx p r s
  | .wbRspTimeout p => Sys2Proof.Machine.execWbRspTimeout p s
  | .wbPortRx p first groups => Sys2Proof.Machine.execWbPortRx p first groups s
  | .wbLink p lock => Sys2Proof.Machine.execWbLink p lock s
  | .wngEnum ring => Sys2Proof.Machine.execWngEnum ring s
  | .wngSend ring data hostError => Sys2Proof.Machine.execWngSend ring data hostError s
  | .wngQuery ring => Sys2Proof.Machine.execWngQuery ring s
  | .wbDisable p => Sys2Proof.Machine.execWbDisable p s
  | .wbQuiescent p => Sys2Proof.Machine.execWbQuiescent p s
  | .macRxFrame p data plain mpacket codeOk fcsOk fragOk icvOk t => Sys2Proof.Machine.execMacRxFrame p data plain mpacket codeOk fcsOk fragOk icvOk t s
  | .pauseHoldExpiry p => Sys2Proof.Machine.execPauseHoldExpiry p s
  | .pauseRefresh p => Sys2Proof.Machine.execPauseRefresh p s
  | .macRxbuf ring => Sys2Proof.Machine.execMacRxbuf ring s
  | .macRxDeliver p => Sys2Proof.Machine.execMacRxDeliver p s
  | .macTx ring data hostError => Sys2Proof.Machine.execMacTx ring data hostError s
  | .macTxSelect p => Sys2Proof.Machine.execMacTxSelect p s
  | .macLink p up => Sys2Proof.Machine.execMacLink p up s
  | .preemptVerify p => Sys2Proof.Machine.execPreemptVerify p s
  | .prpSupervision k => Sys2Proof.Machine.execPrpSupervision k s
  | .prpEntryForget k => Sys2Proof.Machine.execPrpEntryForget k s
  | .macDisable p => Sys2Proof.Machine.execMacDisable p s
  | .macQuiescent p => Sys2Proof.Machine.execMacQuiescent p s
  | .macCntclr p => Sys2Proof.Machine.execMacCntclr p s
  | .mscCtrlWrite p v => Sys2Proof.Machine.execMscCtrlWrite p v s
  | .wakePatternMatch data => Sys2Proof.Machine.execWakePatternMatch data s
  | .vinFrameStart input signal against t => Sys2Proof.Machine.execVinFrameStart input signal against t s
  | .vinFrameComplete input t data crc => Sys2Proof.Machine.execVinFrameComplete input t data crc s
  | .vinLock input => Sys2Proof.Machine.execVinLock input s
  | .vinLockLost input silent => Sys2Proof.Machine.execVinLockLost input silent s
  | .vinDisable k => Sys2Proof.Machine.execVinDisable k s
  | .vinQuiescent k => Sys2Proof.Machine.execVinQuiescent k s
  | .flowEnable f => Sys2Proof.Machine.execFlowEnable f s
  | .flowVideoPacket head seq marker segs t => Sys2Proof.Machine.execFlowVideoPacket head seq marker segs t s
  | .flowAudioPacket head seq ts data onset t => Sys2Proof.Machine.execFlowAudioPacket head seq ts data onset t s
  | .flowAncPacket head data t => Sys2Proof.Machine.execFlowAncPacket head data t s
  | .aes3Sample k second sample v err onset t => Sys2Proof.Machine.execAes3Sample k second sample v err onset t s
  | .aes3BlockStart k t => Sys2Proof.Machine.execAes3BlockStart k t s
  | .aesLock k rate => Sys2Proof.Machine.execAesLock k rate s
  | .audDisable fn => Sys2Proof.Machine.execAudDisable fn s
  | .trkPredictedBeat after ms => Sys2Proof.Machine.execTrkPredictedBeat after ms s
  | .trkTap => Sys2Proof.Machine.execTrkTap s
  | .ltcWordRx tc ubits flags good t => Sys2Proof.Machine.execLtcWordRx tc ubits flags good t s
  | .ltcLoss => Sys2Proof.Machine.execLtcLoss s
  | .ltcOutWord => Sys2Proof.Machine.execLtcOutWord s
  | .heartbeatTx => Sys2Proof.Machine.execHeartbeatTx s
  | .heartbeatRx m pref peerRx => Sys2Proof.Machine.execHeartbeatRx m pref peerRx s
  | .peerLost n => Sys2Proof.Machine.execPeerLost n s
  | .leaveRx m => Sys2Proof.Machine.execLeaveRx m s
  | .cuelogRx m => Sys2Proof.Machine.execCuelogRx m s
  | .chunkRx m => Sys2Proof.Machine.execChunkRx m s
  | .epochRx m => Sys2Proof.Machine.execEpochRx m s
  | .ackRx m => Sys2Proof.Machine.execAckRx m s
  | .resyncRx m => Sys2Proof.Machine.execResyncRx m s
  | .rooSync ring => Sys2Proof.Machine.execRooSync ring s
  | .leaseReqTx => Sys2Proof.Machine.execLeaseReqTx s
  | .leaseReqRx m => Sys2Proof.Machine.execLeaseReqRx m s
  | .leaseGrantRx m => Sys2Proof.Machine.execLeaseGrantRx m s
  | .leaseGrantWrite => Sys2Proof.Machine.execLeaseGrantWrite s
  | .leaseExpiry => Sys2Proof.Machine.execLeaseExpiry s
  | .rooEnable => Sys2Proof.Machine.execRooEnable s
  | .rooDisable => Sys2Proof.Machine.execRooDisable s
  | .rooQuiescent => Sys2Proof.Machine.execRooQuiescent s
  | .rooDemote => Sys2Proof.Machine.execRooDemote s
  | .rooRejoin => Sys2Proof.Machine.execRooRejoin s
  | .autorejoinTimer => Sys2Proof.Machine.execAutorejoinTimer s
  | .joinwaitExpiry => Sys2Proof.Machine.execJoinwaitExpiry s
  | .laggingTimeout => Sys2Proof.Machine.execLaggingTimeout s
  | .updateRx m flashOk => Sys2Proof.Machine.execUpdateRx m flashOk s
  | .pwrEnterRun ring => Sys2Proof.Machine.execPwrEnterRun ring s
  | .pwrEnterIdle ring during wake => Sys2Proof.Machine.execPwrEnterIdle ring during wake s
  | .pwrEnterDormant ring during wake => Sys2Proof.Machine.execPwrEnterDormant ring during wake s
  | .pwrEnterCocoon ring during wake => Sys2Proof.Machine.execPwrEnterCocoon ring during wake s
  | .cocoonVcoreFall => Sys2Proof.Machine.execCocoonVcoreFall s
  | .wakeNAssert => Sys2Proof.Machine.execWakeNAssert s
  | .rtcAlarm => Sys2Proof.Machine.execRtcAlarm s
  | .padrel => Sys2Proof.Machine.execPadrel s
  | .sagWarn level => Sys2Proof.Machine.execSagWarn level s
  | .sagClear level => Sys2Proof.Machine.execSagClear level s
  | .sagReset level => Sys2Proof.Machine.execSagReset level s
  | .vcoreLow => Sys2Proof.Machine.execVcoreLow s
  | .vstoreLow => Sys2Proof.Machine.execVstoreLow s
  | .railFault rail => Sys2Proof.Machine.execRailFault rail s
  | .vkeepLow => Sys2Proof.Machine.execVkeepLow s
  | .thmUpdate sens power => Sys2Proof.Machine.execThmUpdate sens power s
  | .thermalTripRelease => Sys2Proof.Machine.execThermalTripRelease s
  | .sensorClr r => Sys2Proof.Machine.execSensorClr r s
  | .nodeEnSet => Sys2Proof.Machine.execNodeEnSet s
  | .nodeEnClear => Sys2Proof.Machine.execNodeEnClear s
  | .rtcSecond => Sys2Proof.Machine.execRtcSecond s
  | .autoOscTimer => Sys2Proof.Machine.execAutoOscTimer s
  | .calRunTime ring => Sys2Proof.Machine.execCalRunTime ring s
  | .calRunSerdes ring => Sys2Proof.Machine.execCalRunSerdes ring s
  | .calRunOsc ring => Sys2Proof.Machine.execCalRunOsc ring s
  | .calRunComplete deltas reply errs e => Sys2Proof.Machine.execCalRunComplete deltas reply errs e s
  | .chyRequest => Sys2Proof.Machine.execChyRequest s
  | .info => Sys2Proof.Machine.execInfo s
  | .logRead crcBad => Sys2Proof.Machine.execLogRead crcBad s
  | .logWrite => Sys2Proof.Machine.execLogWrite s
  | .identity => Sys2Proof.Machine.execIdentity s
  | .attest => Sys2Proof.Machine.execAttest s
  | .challenge => Sys2Proof.Machine.execChallenge s
  | .showVerify sigOk => Sys2Proof.Machine.execShowVerify sigOk s
  | .keyInstall blob => Sys2Proof.Machine.execKeyInstall blob s
  | .keyDelete => Sys2Proof.Machine.execKeyDelete s
  | .rooKeyActivate => Sys2Proof.Machine.execRooKeyActivate s
  | .rooKeyGraceExpiry => Sys2Proof.Machine.execRooKeyGraceExpiry s
  | .stageOpen => Sys2Proof.Machine.execStageOpen s
  | .stageWrite flashOk => Sys2Proof.Machine.execStageWrite flashOk s
  | .stageCommit => Sys2Proof.Machine.execStageCommit s
  | .stageAbort => Sys2Proof.Machine.execStageAbort s
  | .stageExpired => Sys2Proof.Machine.execStageExpired s
  | .eclose => Sys2Proof.Machine.execEclose s
  | .eclosionTimeout => Sys2Proof.Machine.execEclosionTimeout s
  | .autoEcloseTimer => Sys2Proof.Machine.execAutoEcloseTimer s
  | .push => Sys2Proof.Machine.execPush s
  | .setGet => Sys2Proof.Machine.execSetGet s
  | .setPut token => Sys2Proof.Machine.execSetPut token s
  | .own token slot hash revoke => Sys2Proof.Machine.execOwn token slot hash revoke s
  | .seal token => Sys2Proof.Machine.execSeal token s
  | .retire token => Sys2Proof.Machine.execRetire token s
  | .debugUnlock owner vendor => Sys2Proof.Machine.execDebugUnlock owner vendor s
  | .debugLock => Sys2Proof.Machine.execDebugLock s
  | .usbRequest op tag rpCap params => Sys2Proof.Machine.execUsbRequest op tag rpCap params s
  | .chyVoterMismatch => Sys2Proof.Machine.execChyVoterMismatch s
  | .chySramUe => Sys2Proof.Machine.execChySramUe s
  | .chyWatchdog => Sys2Proof.Machine.execChyWatchdog s
  | .chyRestartWrite => Sys2Proof.Machine.execChyRestartWrite s
  | .chyRestart reload => Sys2Proof.Machine.execChyRestart reload s
  | .tamper clock => Sys2Proof.Machine.execTamper clock s
  | .mkaFrameRx p sci prio icvOk sak => Sys2Proof.Machine.execMkaFrameRx p sci prio icvOk sak s
  | .mkaHello p => Sys2Proof.Machine.execMkaHello p s
  | .logFlush => Sys2Proof.Machine.execLogFlush s
  | .resetNAssert long => Sys2Proof.Machine.execResetNAssert long s
  | .testmodeHigh level => Sys2Proof.Machine.execTestmodeHigh level s
  | .refclkLoss clock => Sys2Proof.Machine.execRefclkLoss clock s
  | .refclkReturn clock => Sys2Proof.Machine.execRefclkReturn clock s
  | .avsStep ack vout => Sys2Proof.Machine.execAvsStep ack vout s
  | .extest capture shift => Sys2Proof.Machine.execExtest capture shift s
  | .idcode => Sys2Proof.Machine.execIdcode s
  | .samplePreload capture shift => Sys2Proof.Machine.execSamplePreload capture shift s
  | .highz => Sys2Proof.Machine.execHighz s
  | .clamp => Sys2Proof.Machine.execClamp s
  | .bypass code => Sys2Proof.Machine.execBypass code s
  | .debugTransport dmi => Sys2Proof.Machine.execDebugTransport dmi s
  | .start rails tests staged eclosed => Sys2Proof.Machine.execStart rails tests staged eclosed s
  | .ready => Sys2Proof.Machine.execReady s
  | .bootWatchdogExpiry => Sys2Proof.Machine.execBootWatchdogExpiry s
  | .packetPacked t => Sys2Proof.Machine.execPacketPacked t s
  | .mkaLifeTime p => Sys2Proof.Machine.execMkaLifeTime p s
  | .macEnable p => Sys2Proof.Machine.execMacEnable p s
  | .configurationRequest bme msixEnable functionMask relaxed rest => Sys2Proof.Machine.execConfigurationRequest bme msixEnable functionMask relaxed rest s
  | .gradualStep => Sys2Proof.Machine.execGradualStep s
  | .usbConfigured on => Sys2Proof.Machine.execUsbConfigured on s

end Sys2Proof.Machine
end

