-- ==== Sys2Proof/Machine/Step.lean ====
section
/-! DEFINITION. One step: the command at the front of the queue, or one TIME cycle when none waits; and the commands that wait for the store. -/
namespace Sys2Proof.Machine

/-- The state with its queue's front taken. -/
def State.withPending (s : State) (l : List Instr) : State := { s with pending := l }

/-- A command whose access heads a requester's port runs, where that access can happen now; what stands behind it at the port stays behind
what it leaves there (R133, R144) (log 122). -/
def State.resume (s : State) (r : Nat) : State :=
  match s.port r, s.heldAt r with
  | q :: rest, c :: more =>
    let alone := (s.setPort r []).setHeld r []
    if q.op ≠ .command ∨ alone.heldUp r q.addr.toNat 1 = true then s
    else
      match exec c alone with
      | .next t =>
        let t := if (t.port r).isEmpty then t.wr (Reg.ARB_REQ_STAT_AGE r) 0 else t
        if s.alive r && !t.alive r then t else (t.setPort r (t.port r ++ rest)).setHeld r (t.heldAt r ++ more)
      | _ => s
  | _, _ => s

/-- With no command waiting in the queue, one TIME cycle passes; the bursts that have moved are performed, and the commands that wait for
an access to the store run where it can happen (R42, R119, R144; log 3, log 122). -/
def State.idle (s : State) : State :=
  let s := s.cycle.landBursts
  s.arb.held.foldl (fun s e => s.resume e.1) s

/-- One step: the front command acts on the state with the queue's rest; with no command waiting, one TIME cycle passes
(R42; log 3). -/
def step (s : State) : Host.Outcome State Fault Refusal :=
  match s.pending with
  | [] => .next s.idle
  | c :: rest => exec c (s.withPending rest)

/-- The state with the command of a table word at the front of its queue; no word of the table spells one (log 118). -/
def State.withFetchWord (s : State) (nbits w : Nat) : State :=
  match decodeTableWord nbits w with
  | some c => s.withPending (c :: s.pending)
  | none => s

end Sys2Proof.Machine
end

