-- ==== Sys2Proof/WellFormed.lean ====
section
/-! DEFINITION. Well-formed commands: operands of the form and size that the spec gives what they carry. A command's meaning is
defined whether or not it is well formed. -/
namespace Sys2Proof

/-- One aligned 32-bit word of BAR0 (R14, R28). -/
def wordAligned (off : Nat) : Bool := decide (off % 4 = 0)

/-- A request of 1 to 8 beats of 32 bytes, or of the bytes of a masked write, within one 256-byte granule; a lock's region is aligned to
its size, and a line to 64 bytes (R117, R119, R141, R152). An access of a command does not come from outside. -/
def StoreRequest.wf (r : StoreRequest) : Bool :=
  let a := r.addr.toNat
  match r.op with
  | .read beats => decide (a % 32 = 0) && decide (a % 256 + 32 * (beats.val + 1) ≤ 256)
  | .write data => decide (0 < data.length) && decide (a % 256 + data.length ≤ 256)
  | .lockBegin size => decide (a % (256 * 2 ^ size.val) = 0)
  | .lockEnd _ => decide (a % 256 = 0)
  | .writeBack data poison => decide (a % 64 = 0) && decide (data.length = 64) && poison.all (fun k => decide (k < 8))
  | .command => false

/-- A write during an entry is of an aligned word (R28). -/
def EntryAct.wf : EntryAct → Bool
  | .write _ off _ => wordAligned off.toNat
  | _ => true

/-- An address of Chrysalis's boot ROM or SRAM lies in it (R498). -/
def chyOffsetWf (sp : Space) (off : Nat) : Bool :=
  match sp with
  | .chyRom => decide (off < 0x10000)
  | .chySram => decide (off < 0x80000)
  | _ => true

/-- A dirty line of 64 bytes (R152). -/
def lineWf (l : BitVec 29 × Bytes) : Bool := decide (l.1.toNat % 64 = 0) && decide (l.2.length = 64)

/-- Whether a command is well formed. -/
def Instr.wf : Instr → Bool
  | .registerWrite sp off _ => wordAligned off.toNat && chyOffsetWf sp off.toNat
  | .loReadLatch sp off => wordAligned off.toNat && chyOffsetWf sp off.toNat
  | .bar0UnmappedAccess _ off _ => decide (0x210000 ≤ off.toNat)
  | .accessOff _ off _ => wordAligned off.toNat && decide (off.toNat < 0x210000)
  | .descriptorFetch data => decide (data.length ≤ 8) && data.all (fun d => decide (d.length = 16))
  | .dmaToStore _ data _ => decide (data.length ≤ 16777216)
  | .arbGrant _ arrivals _ => arrivals.all StoreRequest.wf
  | .bar2Write addr data => decide (0 < data.length) && decide (addr + data.length ≤ 0x20000000)
  | .bar2Read addr len => decide (0 < len) && decide (addr + len ≤ 0x20000000)
  | .clean _ _ dirty => dirty.all lineWf
  | .flush _ _ dirty => dirty.all lineWf
  | .vinFrameComplete _ _ data _ => decide (data.length % 32 = 0)
  | .flowVideoPacket _ _ _ segs _ => segs.all (fun g => decide (g.data.length % 5 = 0))
  | .thmUpdate sens power => decide (sens.length = 8) && decide (power.length = 6)
  | .keyInstall blob => decide (blob.key.length = 32)
  | .own _ _ hash revoke => revoke || decide (hash.length = 48)
  | .pwrEnterIdle _ during _ => during.all (fun e => e.2.wf)
  | .pwrEnterDormant _ during _ => during.all (fun e => e.2.wf)
  | .pwrEnterCocoon _ during _ => during.all (fun e => e.2.wf)
  | _ => true

end Sys2Proof
end

