-- ==== Sys2Proof/Safety.lean ====
section
/-! DEFINITION. What claims are stated in: a command that completes, what a step leaves as it was, the reports that any block may make
beside its own effect, and the form that every state keeps. -/
namespace Sys2Proof.Machine

/-- A command answers a next state, and of that state `P` holds. -/
def Completes (a : Answer) (P : State → Prop) : Prop := ∃ t, a = .next t ∧ P t

/-- Every register outside a set of offsets reads as before. -/
def RegsKept (changed : Nat → Prop) (s t : State) : Prop := ∀ off, ¬ changed off → t.word off = s.word off

/-- Only registers changed, and of those only ones of a set of offsets. -/
def OnlyRegs (changed : Nat → Prop) (s t : State) : Prop := t = { s with regs := t.regs } ∧ RegsKept changed s t

/-- The registers that a report changes: HST_NDROP, a ring's STAT and NLOST (R97-R99, R116), and the log's sequence number (R525). -/
def ReportReg (off : Nat) : Prop :=
  off = 0x10010 ∨ off = 0x200020 ∨ (0x11000 ≤ off ∧ off < 0x12000 ∧ (off % 64 = 0x20 ∨ off % 64 = 0x30))

/-- Of a ring's STAT, a report changes only the index in its low half. -/
def RingFlagsKept (s t : State) : Prop :=
  ∀ n < 64, bitsOf (t.word (0x11020 + 0x40 * n)).toNat 16 16 = bitsOf (s.word (0x11020 + 0x40 * n)).toNat 16 16

/-- Nothing changed but what a notice, a completion and the log change: the host interface with its rings, Chrysalis's log, what the
part has sent, and the registers of those. -/
def OnlyReports (s t : State) : Prop :=
  t = { s with regs := t.regs, host := t.host, chy := t.chy, out := t.out } ∧ RegsKept ReportReg s t ∧ RingFlagsKept s t

/-- What a command leaves as it was: the parts that `u`, which is `s` with the named parts of `t`, takes from `s`, and every register
outside a set of offsets. -/
def Frame (changed : Nat → Prop) (s t u : State) : Prop := t = u ∧ RegsKept changed s t

/-- Registers of a set changed, and beside them only what a report changes. -/
def RegsAndReports (changed : Nat → Prop) (s t : State) : Prop :=
  t = { s with regs := t.regs, host := t.host, chy := t.chy, out := t.out } ∧
    RegsKept (fun off => changed off ∨ ReportReg off) s t

/-- The counters that count as time passes: CAL_HELD, ARB_REQ_STAT and ARB_REQ_WAIT of a waiting requester, and TSK_Q_HELD (R67, R135,
R186). -/
def TimeReg (off : Nat) : Prop :=
  off = Reg.CAL_HELD.off ∨ (0x30400 ≤ off ∧ off < 0x30790) ∨ (0x50100 ≤ off ∧ off < 0x50200 ∧ off % 16 = (Reg.TSK_Q_HELD 0).off % 16)

/-- Time passed and nothing else happened: the clock did not run backwards, and only the counters of `TimeReg` counted. -/
def TimePassed (s t : State) : Prop :=
  t = { s with regs := t.regs, time := t.time } ∧ RegsKept TimeReg s t ∧ s.time.elapsed ≤ t.time.elapsed

/-- A descriptor that is alone on its ring, a command ring, and not chained, with the function in D0: its completion waits for nothing. -/
abbrev State.Alone (s : State) (ring : Nat) (d : Desc) : Prop :=
  s.flag (Reg.HST_RING_CFG_TYPE ring) = false ∧ (s.ring ring).descs = [d] ∧ d.chain = false ∧ (s.ring ring).disabling = false ∧
    s.host.d3hot = false

/-- No word of the store carries an error mark, and no die is lost. -/
abbrev State.StoreWhole (s : State) : Prop := s.store.marks = [] ∧ ∀ d < 8, s.dieLost d = false

/-- The store has no error, no region of it is locked, no request waits for it or moves, and every die's slot is free: every access
happens at once. -/
abbrev State.StoreSound (s : State) : Prop :=
  s.StoreWhole ∧ s.arb.locks = [] ∧ s.arb.ports = [] ∧ s.arb.bursts = [] ∧ s.arb.waiting = none ∧ ∀ d < 8, s.slotFree d ≤ s.time.elapsed

/-- The counters that granted accesses move: the registers of ARB_REQ, and STO_DIE_BUSY (R150, R151). -/
def GrantReg (off : Nat) : Prop := (0x30400 ≤ off ∧ off < 0x30790) ∨ (0x21000 ≤ off ∧ off < 0x21800 ∧ off % 256 = 0x10)

/-- No core that waits in a NEXT load has an interrupt enabled: none is woken (R165). -/
abbrev State.NoWake (s : State) : Prop := ∀ n < 8, (s.hawk n).waits = true → s.csr n 0x304 = 0

/-- A core has taken an access fault (R162, R184): cause and address recorded and counted, and the core trapped to mtvec in machine mode.
Beside that core and its registers, only reports and a free value differ. -/
def FaultedWith (s t : State) (core : Fin 8) (cause addr : Nat) : Prop :=
  t.rd (Reg.HWK_MCAUSE core) = cause ∧ t.rd64 (Reg.HWK_MTVAL_LO core) (Reg.HWK_MTVAL_HI core) = addr % 2 ^ 64 ∧
  t.flag (Reg.HWK_STAT_FAULTED core) = true ∧ t.rd (Reg.HWK_FAULTS core) = satAdd 32 (s.rd (Reg.HWK_FAULTS core)) 1 ∧
  (t.hawk core).pc = s.csr core 0x305 / 4 * 4 ∧ (t.hawk core).machineMode = true ∧ t.csr core 0x342 = cause ∧
  t.csr core 0x343 = addr % 2 ^ 64 ∧ (∀ k : Nat, k ≠ core.val → t.hawk k = s.hawk k) ∧
  Frame (fun o => (0x40000 + 0x1000 * core.val ≤ o ∧ o < 0x41000 + 0x1000 * core.val) ∨ ReportReg o) s t
    { s with regs := t.regs, hawks := t.hawks, host := t.host, chy := t.chy, out := t.out, fresh := t.fresh }

/-- A descriptor has completed with a status (R93): the ring holds it no longer, the completed index is past it, and the completion entry
has been written to its slot. -/
def CompletedWith (s t : State) (ring : Nat) (d : Desc) (status : Nat) : Prop :=
  (t.ring ring).descs = [] ∧ t.rd (Reg.HST_RING_STAT_COMPLETED ring) = (d.index + 1) % 2 ^ 16 ∧
    ∃ e : Bytes, .hostWrite (s.ringCBase ring + d.index % s.ringSize ring * 32) e ∈ t.out ∧ leNat (e.take 2) = status ∧
      leNat ((e.drop 4).take 4) = d.cookie % 2 ^ 32

/-- A message of a type that the unit takes and hands on: it is not OFF, and every test of R410 and R413 holds. -/
abbrev State.Takes (s : State) (type : Nat) (m : RoostMsg) : Prop :=
  s.isOff 0x15 = false ∧ s.rooState ≠ 0 ∧ m.undefinedType = false ∧ (m.path.val = 2 → netType type = true) ∧ m.tagOk = true ∧
    m.id.toNat = s.rd Reg.ROO_ID ∧ tblGet s.roo.mseqs 0 m.sender.toNat < m.mseq.toNat ∧ m.dest = 0

/-- The registers of the Roost block, R437 to R441. -/
def RooReg (off : Nat) : Prop := 0x1D0000 ≤ off ∧ off < 0x1D1080

/-- What the Roost changes when it takes, sends or times something: its own state, the frames that ports are to send, what a report
changes, free values drawn, and registers of a set. -/
def RooFrame (changed : Nat → Prop) (s t : State) : Prop :=
  Frame (fun o => changed o ∨ TimeReg o ∨ ReportReg o) s t
    { s with regs := t.regs, time := t.time, roo := t.roo, macs := t.macs, host := t.host, chy := t.chy, out := t.out, fresh := t.fresh }

/-- Every byte of the store outside a set of addresses reads as before. -/
def StoreKept (changed : Nat → Prop) (s t : State) : Prop := ∀ a, ¬ changed a → t.byteAt a = s.byteAt a

/-- A calibration runs for a descriptor that is alone on its ring, a command ring. -/
abbrev State.Calibrates (s : State) (r : CalRunSt) (d : Desc) : Prop :=
  s.selfCal.run = some r ∧ r.ring < 64 ∧ s.Alone r.ring d ∧ d.index = r.index

/-- Chrysalis serves requests, one for an operation is in execution, the store has no error, and no core waits for the reply. -/
abbrev State.Executes (s : State) (op : Nat) (r : ChyReq) : Prop :=
  s.chyUp = true ∧ s.chy.current = some r ∧ r.op = op ∧ s.StoreSound ∧ s.NoWake

/-- What Chrysalis holds once a request has been answered: none is in execution, and the time of idleness of the session it is one of
begins (R521). -/
def ChySt.answered (c : ChySt) (r : ChyReq) (now : Nat) : ChySt :=
  { c with current := none, session := c.session.map (r.serves now) }

/-- The registers that an answer changes: CHY_RPDROP, CHY_REQS, those of queue 31, and what a granted access and a report change
(R501, R528). -/
def AnswerReg (off : Nat) : Prop :=
  off = Reg.CHY_RPDROP.off ∨ off = Reg.CHY_REQS.off ∨ (0x607C0 ≤ off ∧ off < 0x60800) ∨ GrantReg off ∨ ReportReg off

/-- A request has been answered with a status and a reply (R501, R524): the count is up by one; over the service port the header and the
reply have left last; over the mailbox the reply and DONE stand in the block, and the reply word is the last of queue 31. Beside the
registers of a set, `v` is `s` with what else the operation changed. -/
def ServedWith (changed : Nat → Prop) (s v t : State) (r : ChyReq) (status : Nat) (reply : Bytes) : Prop :=
  t.chy.current = none ∧ t.rd Reg.CHY_REQS = satAdd 32 (s.rd Reg.CHY_REQS) 1 ∧
  (r.svc = true → t.out.getLast? = some (.reply (wordsBytes [r.op, r.tag, status, reply.length] ++ reply))) ∧
  (r.svc = false → (s.queue 31).length < 256 → t.queue 31 = s.queue 31 ++
    [(2 ^ 62 + r.src * 2 ^ 58 + r.op * 2 ^ 48 + r.tag * 2 ^ 40 + status * 2 ^ 16 + reply.length) % 2 ^ 63]) ∧
  (r.svc = false → 16 ≤ r.rpOfs → t.bytesAt (r.blk + r.rpOfs) reply.length = reply ∧ t.word32At (r.blk + 12) = status + 2 ^ 31) ∧
  (∀ q : Nat, q ≠ 31 → t.queue q = s.queue q) ∧
  StoreKept (fun a => r.svc = false ∧
    ((r.blk + 12 ≤ a ∧ a < r.blk + 16) ∨ (r.blk + r.rpOfs ≤ a ∧ a < r.blk + r.rpOfs + reply.length))) s t ∧
  Frame (fun o => changed o ∨ AnswerReg o) s t
    { v with regs := t.regs, store := { s.store with bytes := t.store.bytes }, queues := t.queues, queuePops := t.queuePops, host := t.host, chy := t.chy,
             out := t.out, fresh := t.fresh }

/-- A request whose write of flash did not verify: FLASH_ERROR, with nothing done (R502; log 178). -/
def FlashFailed (s t : State) (r : ChyReq) : Prop :=
  ServedWith (fun _ => False) s s t r stFlashError [] ∧ t.chy = s.chy.answered r s.time.elapsed

/-- The canonical form of the register table and of the store: keys strictly rising, and no entry equal to what an unlisted key
reads as. -/
abbrev State.Canonical (s : State) : Prop := tblWf regReset s.regs = true ∧ Memory.wf s.store.bytes = true

/-- A run is safe while the block answers: no fault and no refusal. -/
def Answers (a : Answer) : Prop := ∃ t, a = .next t

end Sys2Proof.Machine
end

