-- ==== Sys2Proof/Certificates/Slice0/Obligations.lean ====
section
/-! DEFINITION. The statements about the model, from the numbered rules of the spec. `Completes a P` says that the command answers a
next state of which P holds; the frames say what stays as it was. -/
open Sys2Proof Sys2Proof.Machine


/-! ### The queue, reset and the form of the state -/

/-- A step with a command waiting is exec of the front command on the state with the queue's rest. -/
def Obligations.StepRunsFrontCommand : Prop :=
  ∀ (s : State) (c : Instr) (rest : List Instr), s.pending = c :: rest → step s = exec c (s.withPending rest)

/-- With no command waiting, a step is one TIME cycle (R42; log 3): extended device time gains INC, the oscillator's time 2 ns; with no
burst in flight and no command held for the store nothing else changes but the rate's slew and the counters that count time. Bursts whose
last beat falls in the cycle are performed in it (R119), and of a command held alone at its requester's port: it runs where its access can
happen, and otherwise goes on waiting (R144; log 122). With the rate at 0 and not slewing, the command brings extended device time to the
next wrap of the 32-bit device time, within one TIME cycle, the wrap counter one higher, and only time passes (R41). The model's own
choices that it meets: log 3. -/
def Obligations.TimeAdvances : Prop :=
  ((∀ s : State, s.pending = [] → s.arb.held = [] → s.arb.bursts = [] →
    ∃ t, step s = .next t ∧ t.time.acc = (s.time.acc + timeInc s.time.rho) % 2 ^ 96 ∧
      t.time.elapsed = s.time.elapsed + 2 ∧ t.time.rhoTarget = s.time.rhoTarget ∧ t.pending = [] ∧ TimePassed s t) ∧
  (∀ s : State, s.pending = [] → s.arb.held = [] → step s = .next s.cycle.landBursts) ∧
  (∀ (s t : State) (r : Fin 57) (c : Instr) (q : StoreRequest), s.pending = [] → s.arb.bursts = [] → s.arb.held = [(r.val, [c])] →
    s.port r = [q] → q.op = .command →
    let u := (s.cycle.setPort r []).setHeld r []
    (u.heldUp r q.addr.toNat 1 = true → step s = .next s.cycle) ∧
    (u.heldUp r q.addr.toNat 1 = false → exec c u = .next t →
      ∃ v, step s = .next v ∧ v.port r = t.port r ∧ v.heldAt r = t.heldAt r ∧
        Frame (· = (Reg.ARB_REQ_STAT_AGE r).off) t v { t with regs := v.regs, arb := v.arb }))) ∧
  (∀ s : State, s.isOff 0x07 = false → s.time.rho = 0 → s.time.rhoTarget = 0 → s.now / 2 ^ 32 + 1 < 2 ^ 32 →
    Completes (exec .deviceTimeWrap s) fun t =>
      t.now / 2 ^ 32 = s.now / 2 ^ 32 + 1 ∧ t.now32 < 2 ∧ TimePassed s t)

/-- After reset: no command waits, the part is in Run with no block off and the reset idle mask, the Roost is OFF, the store lists
nothing, every ring, core, queue 0-29, network port and DMX port is disabled and quiescent, as are the pipelines, output timing, the
emission engine and the scheduler, no notice is routed, and every register but CHY_STAT reads the reset value of its table (R15, R83,
R173, R181, R418, R442; log 4). The state after reset has the canonical form. The model's own choices that it meets: logs 1, 4, 6. -/
def Obligations.ResetState : Prop :=
  (State.reset.pending = [] ∧ State.reset.rd Reg.PWR_STAT_STATE = 0 ∧ State.reset.rooState = 0 ∧ State.reset.off = [] ∧
    State.reset.rd Reg.PWR_IDLEMASK = 0x1CFC00 ∧ State.reset.host.rings = [] ∧ State.reset.store.bytes = [] ∧
    (∀ n : Fin 64, State.reset.flag (Reg.HST_RING_CTRL n) = false ∧ State.reset.flag (Reg.HST_RING_STAT_QUIESCENT n) = true) ∧
    (∀ n : Fin 8, State.reset.flag (Reg.HWK_CTRL_ENABLE n) = false ∧ State.reset.flag (Reg.HWK_STAT_QUIESCENT n) = true) ∧
    (∀ n : Fin 30, State.reset.flag (Reg.QUE_CTRL n) = false ∧ State.reset.flag (Reg.QUE_STAT_QUIESCENT n) = true) ∧
    (∀ n : Fin 25, State.reset.flag (Reg.HST_NROUTE_EN n) = false) ∧
    (∀ n : Fin 10, State.reset.flag (Reg.MAC_CTRL_ENABLE n) = false ∧ State.reset.flag (Reg.MAC_STAT_QUIESCENT n) = true) ∧
    (∀ n : Fin 8, State.reset.flag (Reg.DMX_CTRL_ENABLE n) = false ∧ State.reset.flag (Reg.DMX_STAT_QUIESCENT n) = true) ∧
    State.reset.flag Reg.PIX_STAT_QUIESCENT = true ∧ State.reset.flag Reg.OTU_STAT_QUIESCENT = true ∧
    State.reset.flag Reg.EMI_STAT = true ∧ State.reset.flag Reg.TSK_STAT_QUIESCENT = true ∧
    (∀ off : Nat, off ≠ 0x200000 → State.reset.word off = regReset off)) ∧
  (State.reset.Canonical)

/-- Every step keeps the canonical form of the register table and of the store's bytes: keys rise strictly and no entry equals what
an unlisted key reads as, so that equal contents are equal data. -/
def Obligations.StepKeepsCanonicalForm : Prop :=
  ∀ s t : State, s.Canonical → step s = .next t → t.Canonical

/-- Every step takes exactly the front command from the queue, and no command's effect adds to the queue, drops from it or reorders
it: commands act first in, first out. -/
def Obligations.StepTakesOneCommand : Prop :=
  ∀ s t : State, step s = .next t → t.pending = s.pending.tail

/-- Every well-formed command answers a next state, none is refused and none faults, but for one form: a write of Chrysalis to a private
device, of which the spec does not say what it does (R498). -/
def Obligations.WellFormedCommandsAnswer : Prop :=
  (∀ (c : Instr) (s : State), c.wf = true → (∀ page off v, c ≠ .registerWrite (.chyDevice page) off v) → ∃ t, exec c s = .next t) ∧
  (∀ (page : Fin 4) (off : BitVec 22) (v : Word) (s : State), exec (.registerWrite (.chyDevice page) off v) s = .refused .chyUnstated)

/-- Error handling of the store: a corrected word is written back and a word with an uncorrectable error is stored poisoned, unless a
write has reached it; a die that does not answer, or whose link fails, is LOST, on a unit that no Roost demotes for it; the scrubber reads
one granule, corrects a single-bit error in it and goes on to the next, and stops once its granule is finished (R123, R124, R126, R127,
R147). The store window: a host write of permitted bytes stores exactly the bytes it enables; a write to the Chrysalis areas stores
nothing and counts one refusal; a read returns the stored bytes, zeros with one refusal from the private range, and free values from the
areas whose layout the spec leaves open (R128, R130; log 121). A BAR2 access that reaches past the 512 MiB store window stops with
storeRange, for there is no such address (R80, R117). The model's own choices that it meets: logs 14, 52, 53, 65. -/
def Obligations.StoreAccess : Prop :=
  ((∀ (addr : BitVec 29) (s : State), s.isOff 0x02 = false →
    exec (.eccWriteback addr) s =
      .next (if s.mark (addr.toNat / 8 * 8) = .single true then s.setMark (addr.toNat / 8 * 8) .clean else s) ∧
    exec (.poisonStore addr) s =
      .next (if s.mark (addr.toNat / 8 * 8) = .detected then s.setMark (addr.toNat / 8 * 8) .poison else s)) ∧
  (∀ (d : Fin 8) (s : State), s.isOff 0x02 = false → s.dieLost d = false → demotesFrom 3 s.rooState = false →
    let lost (t : State) : Prop :=
      t.dieLost d = true ∧ bitOf (t.rd Reg.STO_STAT_DIE_LOST) d = true ∧
      (∀ k : Fin 8, k ≠ d → t.dieLost k = s.dieLost k ∧ bitOf (t.rd Reg.STO_STAT_DIE_LOST) k = bitOf (s.rd Reg.STO_STAT_DIE_LOST) k) ∧
      RegsAndReports (fun o => o = 0x20004 ∨ o = (Reg.STO_DIE_STAT_STATE d).off) s t
    Completes (exec (.dieNoResponse d) s) lost ∧ Completes (exec (.dieLinkCheckFail d) s) lost) ∧
  (∀ (d : Fin 8) (s : State), s.isOff 0x02 = false → s.flag Reg.STO_CTRL = true → s.store.marks = [] →
    s.rd (Reg.STO_DIE_SCRUB_POS d) + 1 < 2 ^ 18 →
    Completes (exec (.scrubRead d []) s) fun t =>
      t.rd (Reg.STO_DIE_SCRUB_POS d) = s.rd (Reg.STO_DIE_SCRUB_POS d) + 1 ∧
      Frame (fun o => o = (Reg.STO_DIE_SCRUB_POS d).off ∨ o = (Reg.STO_DIE_BUSY d).off ∨ TimeReg o) s t
        { s with regs := t.regs, time := t.time, store := { s.store with nextScrub := t.store.nextScrub }, fresh := t.fresh }) ∧
  (∀ (d : Fin 8) (addr : BitVec 29) (s : State), s.isOff 0x02 = false → s.flag Reg.STO_CTRL = true → s.store.marks = [] →
    s.dieLost d = false → addr.toNat / 256 * 256 = granuleAddr d (s.rd (Reg.STO_DIE_SCRUB_POS d)) → s.rd Reg.STO_CE_LEVEL = 0 →
    Completes (exec (.scrubRead d [⟨addr, false⟩]) s) fun t =>
      t.mark (addr.toNat / 8 * 8) = .single true ∧
      t.rd (Reg.STO_DIE_CE_COUNT d) = satAdd 32 (s.rd (Reg.STO_DIE_CE_COUNT d)) 1 ∧
      (∀ w : Nat, w ≠ addr.toNat / 8 * 8 → t.mark w = s.mark w) ∧
      Frame (fun o => (0x20000 ≤ o ∧ o < 0x21000) ∨ (0x21000 + 0x100 * d.val ≤ o ∧ o < 0x21100 + 0x100 * d.val) ∨ TimeReg o ∨ ReportReg o)
        s t
        { s with regs := t.regs, time := t.time, store := { s.store with marks := t.store.marks, nextScrub := t.store.nextScrub },
                 host := t.host, chy := t.chy, out := t.out, fresh := t.fresh }) ∧
  (∀ s : State, s.isOff 0x02 = false →
    Completes (exec .scrubDisable s) fun t => t.flag Reg.STO_CTRL = false ∧ OnlyRegs (· = Reg.STO_CTRL.off) s t) ∧
  (∀ s : State, s.isOff 0x02 = false → s.flag Reg.STO_CTRL = false →
    Completes (exec .scrubQuiescent s) fun t =>
      t.flag Reg.STO_STAT_SCRUB_QUIESCENT = true ∧ t.rd Reg.STO_STAT_DIE_LOST = s.rd Reg.STO_STAT_DIE_LOST ∧
      OnlyRegs (· = 0x20004) s t)) ∧
  ((∀ (addr : Nat) (data : List (Option Byte)) (s : State), addr + data.length ≤ 0x20000000 → s.barsUp = true → s.store.powered = true →
    s.StoreSound → (∀ j < data.length, s.hostMayWrite (addr + j) = true) →
    Completes (exec (.bar2Write addr data) s) fun t =>
      (∀ (j : Nat) (b : Byte), data[j]? = some (some b) → t.byteAt (addr + j) = b) ∧
      StoreKept (fun a => addr ≤ a ∧ ∃ b : Byte, data[a - addr]? = some (some b)) s t ∧
      Frame GrantReg s t { s with regs := t.regs, store := { s.store with bytes := t.store.bytes } }) ∧
  (∀ (addr : Nat) (data : List (Option Byte)) (s : State), 0x1F800000 ≤ addr → addr + data.length ≤ 0x20000000 → s.barsUp = true →
    s.store.powered = true → s.StoreSound → data.any (·.isSome) = true →
    Completes (exec (.bar2Write addr data) s) fun t =>
      t.rd Reg.STO_WINDENY = satAdd 32 (s.rd Reg.STO_WINDENY) 1 ∧
      Frame (fun o => GrantReg o ∨ o = Reg.STO_WINDENY.off) s t { s with regs := t.regs }) ∧
  (∀ (addr len : Nat) (s : State), addr + len ≤ 0x1F800000 ∨ (0x1FC00000 ≤ addr ∧ addr + len ≤ 0x1FE00000) → s.barsUp = true →
    s.store.powered = true → s.StoreSound →
    Completes (exec (.bar2Read addr len) s) fun t =>
      t.out = s.out ++ [.loadData addr (s.bytesAt addr len) []] ∧
        Frame GrantReg s t { s with regs := t.regs, out := t.out, fresh := t.fresh }) ∧
  (∀ (addr len : Nat) (s : State), 0x1FE00000 ≤ addr → addr + len ≤ 0x20000000 → 0 < len → s.barsUp = true → s.store.powered = true →
    s.StoreSound →
    Completes (exec (.bar2Read addr len) s) fun t =>
      t.out = s.out ++ [.loadData addr (List.replicate len 0) []] ∧ t.rd Reg.STO_WINDENY = satAdd 32 (s.rd Reg.STO_WINDENY) 1 ∧
      Frame (fun o => GrantReg o ∨ o = Reg.STO_WINDENY.off) s t { s with regs := t.regs, out := t.out }) ∧
  (∀ (addr len : Nat) (s : State), 0x1F800000 ≤ addr → addr + len ≤ 0x1FC00000 → s.barsUp = true → s.store.powered = true →
    s.StoreSound →
    Completes (exec (.bar2Read addr len) s) fun t =>
      (∃ data : Bytes, data.length = len ∧ t.out = s.out ++ [.loadData addr data []]) ∧
      Frame GrantReg s t { s with regs := t.regs, out := t.out, fresh := t.fresh })) ∧
  ((∀ (addr : Nat) (data : List (Option Byte)) (s : State), 0x20000000 < addr + data.length →
    exec (.bar2Write addr data) s = .fault .storeRange) ∧
  (∀ (addr len : Nat) (s : State), 0x20000000 < addr + len → exec (.bar2Read addr len) s = .fault .storeRange))

/-! ### Register accesses -/

/-- An access in error sets its bit, counts once and, while the capture is open, is captured with the block, instance, offset and
direction; a read returns 0, or 0x0FF0_0FF0 from a block that is off; nothing else changes but what the notice changes (R27, R28, R32,
R455). The instance is one that the offset names, and 0xFF outside every block. Writing ones to GLB_ERRSTAT clears those error bits and
leaves the capture's block and instance; nothing else changes (R32). -/
def Obligations.ErrorsCapturedAndCleared : Prop :=
  ((∀ (off : BitVec 22) (write : Bool) (s : State), s.accessible .bar0 = true → 0x210000 ≤ off.toNat → s.captureOpen = true →
    Completes (exec (.bar0UnmappedAccess .bar0 off write) s) fun t =>
      t.flag Reg.GLB_ERRSTAT_UNMAPPED = true ∧ t.rd Reg.GLB_ERRSTAT_BLOCK = 0xFF ∧ t.rd Reg.GLB_ERRSTAT_INST = 0xFF ∧
      t.rd Reg.GLB_ERRADDR_OFFSET = off.toNat ∧ t.flag Reg.GLB_ERRADDR_WRITE = write ∧
      t.rd Reg.GLB_ERRCNT = min (s.rd Reg.GLB_ERRCNT + 1) (2 ^ 32 - 1) ∧
      (write = false → t.out.getLast? = some (.readData off.toNat 0)) ∧
      RegsAndReports (fun o => o = 0x10 ∨ o = 0x14 ∨ o = Reg.GLB_ERRCNT.off) s t) ∧
  (∀ (off : BitVec 22) (write : Bool) (s : State), s.accessible .bar0 = true → s.captureOpen = true →
    Completes (exec (.bar0BadAccess .bar0 off write) s) fun t =>
      t.flag Reg.GLB_ERRSTAT_BAD_ACCESS = true ∧ t.rd Reg.GLB_ERRSTAT_BLOCK = blockOf off.toNat ∧
      t.rd Reg.GLB_ERRSTAT_INST = instOf off.toNat ∧ t.rd Reg.GLB_ERRADDR_OFFSET = off.toNat ∧ t.flag Reg.GLB_ERRADDR_WRITE = write ∧
      t.flag Reg.GLB_ERRSTAT_UNMAPPED = decide (0x210000 ≤ off.toNat) ∧
      (write = false → t.out.getLast? = some (.readData off.toNat 0)) ∧
      RegsAndReports (fun o => o = 0x10 ∨ o = 0x14 ∨ o = Reg.GLB_ERRCNT.off) s t) ∧
  (∀ (off : BitVec 22) (write : Bool) (s : State), s.accessible .bar0 = true → off.toNat < 0x210000 → s.offsetOff off.toNat = true →
    s.captureOpen = true →
    Completes (exec (.accessOff .bar0 off write) s) fun t =>
      t.flag Reg.GLB_ERRSTAT_ACCESS_OFF = true ∧ t.rd Reg.GLB_ERRSTAT_BLOCK = blockOf off.toNat ∧
      t.rd Reg.GLB_ERRSTAT_INST = instOf off.toNat ∧ t.rd Reg.GLB_ERRADDR_OFFSET = off.toNat ∧ t.flag Reg.GLB_ERRADDR_WRITE = write ∧
      (write = false → t.out.getLast? = some (.readData off.toNat 0x0FF00FF0)) ∧
      RegsAndReports (fun o => o = 0x10 ∨ o = 0x14 ∨ o = Reg.GLB_ERRCNT.off) s t)) ∧
  (∀ (val : Word) (s : State),
    Completes (exec (.glbErrstatClear val) s) fun t =>
      t.rd Reg.GLB_ERRSTAT_BLOCK = s.rd Reg.GLB_ERRSTAT_BLOCK ∧ t.rd Reg.GLB_ERRSTAT_INST = s.rd Reg.GLB_ERRSTAT_INST ∧
      t.flag Reg.GLB_ERRSTAT_ACCESS_OFF = (s.flag Reg.GLB_ERRSTAT_ACCESS_OFF && !bitOf val.toNat Reg.GLB_ERRSTAT_ACCESS_OFF.lsb) ∧
      t.flag Reg.GLB_ERRSTAT_UNMAPPED = (s.flag Reg.GLB_ERRSTAT_UNMAPPED && !bitOf val.toNat Reg.GLB_ERRSTAT_UNMAPPED.lsb) ∧
      t.flag Reg.GLB_ERRSTAT_BAD_ACCESS = (s.flag Reg.GLB_ERRSTAT_BAD_ACCESS && !bitOf val.toNat Reg.GLB_ERRSTAT_BAD_ACCESS.lsb) ∧
      OnlyRegs (· = 0x10) s t)

/-- A BAR0 write of a block's plain register loads each field by its access type: a read-write field takes a defined encoding and keeps
its value under an undefined one, ones clear a write-1-to-clear field, and a read-only field stays; no other register and no other part of
the state changes, but for the latched _HI of R14 (R15, R17). Stated for GLB, ARB and MSC, whose registers have no write behaviour of
their own. The model's own choices that it meets: log 56. -/
def Obligations.RegisterWriteLoadsFieldByField : Prop :=
  ∀ (off : BitVec 22) (val : Word) (s : State) (r : RegRow) (f : FieldInfo), s.accessible .bar0 = true → off.toNat % 4 = 0 →
    blockOf off.toNat = 0x00 ∨ blockOf off.toNat = 0x03 ∨ blockOf off.toNat = 0x11 → s.offsetOff off.toNat = false →
    regRow? off.toNat = some r → f ∈ r.fields →
    Completes (exec (.registerWrite .bar0 off val) s) fun t =>
      (let old := bitsOf (s.word off.toNat).toNat f.lsb f.width
       let new := bitsOf (t.word off.toNat).toNat f.lsb f.width
       let v := bitsOf val.toNat f.lsb f.width
       (f.acc = .rw → f.legal.ok v = true → f.lowZero = 0 → new = v) ∧ (f.acc = .rw → f.legal.ok v = false → new = old) ∧
       (f.acc = .w1c → new = Nat.xor old (Nat.land old v)) ∧ (f.acc = .ro → new = old)) ∧
      Frame (· = off.toNat) s t { s with regs := t.regs, latches := t.latches }

/-- A read of ANT_NOW returns the low word of extended device time and latches the high word; the next read of its _HI returns the word
of that sample, however much time has passed (R14, R41, R43). -/
def Obligations.PairedReadIsOneSample : Prop :=
  ∀ s : State, s.accessible .bar0 = true → s.isOff 0x07 = false →
    Completes (exec (.loReadLatch .bar0 0x70000) s) fun t =>
      t.out = s.out ++ [.readData 0x70000 (s.now % 2 ^ 32)] ∧ Frame (fun _ => False) s t { s with latches := t.latches, out := t.out } ∧
      ∀ n : Nat, Completes (exec (.loReadLatch .bar0 0x70004) (t.cycles n)) fun u =>
        u.out = t.out ++ [.readData 0x70004 (s.now / 2 ^ 32 % 2 ^ 32)]

/-! ### Antenna -/

/-- Selection of a source: a lost active source gives HOLDOVER with its dwell, FORCE_HOLD gives HOLDOVER without one, a source that
becomes valid is acquired from FREERUN, and the end of the dwell, a change of ANT_SRCSEL and the return of a source of higher priority
acquire the source named; each acquired source becomes ACTIVE. A write of the ANT_SRCSEL that stands moves nothing. Stated for sources
other than PTP, whose entry to ACQUIRE may also step device time. Beside the discipline's registers and the time, only reports change
(R45, R46, R48, R49). A first genlock edge counts as a frame of reference 0 and is the next one's past (R48, R54). The model's own choices
that it meets: logs 16, 57, 87, 88. -/
def Obligations.SourcesAndGenlock : Prop :=
  (
  let frame (s t : State) : Prop :=
    Frame (fun o => (0x70008 ≤ o ∧ o ≤ 0x70010) ∨ TimeReg o ∨ ReportReg o) s t
      { s with regs := t.regs, time := t.time, ant := t.ant, host := t.host, chy := t.chy, out := t.out }
  (∀ (ptp : BitVec 64) (s : State), s.isOff 0x07 = false → s.flag Reg.ANT_CTRL_FORCE_HOLD = false → s.rd Reg.ANT_STAT_STATE ≠ 3 →
    Completes (exec (.antForceHoldWrite true ptp) s) fun t =>
      t.flag Reg.ANT_CTRL_FORCE_HOLD = true ∧ t.rd Reg.ANT_STAT_STATE = 3 ∧ t.ant.dwellUntil = none ∧ frame s t) ∧
  (∀ (v : BitVec 16) (ptp : BitVec 64) (c : Nat) (s : State), s.isOff 0x07 = false → s.flag Reg.ANT_CTRL_FORCE_HOLD = false →
    s.rd Reg.ANT_STAT_STATE = 1 ∨ s.rd Reg.ANT_STAT_STATE = 2 → (s.loadReg 0x7000C v.toNat).bestSource = some c →
    (s.loadReg 0x7000C v.toNat).word 0x7000C ≠ s.word 0x7000C → c ≠ s.rd Reg.ANT_STAT_ACTIVE → c ≠ 1 →
    Completes (exec (.antSrcselWrite v ptp) s) fun t =>
      t.rd Reg.ANT_STAT_STATE = 1 ∧ t.rd Reg.ANT_STAT_ACTIVE = c ∧ t.word 0x7000C = (s.loadReg 0x7000C v.toNat).word 0x7000C ∧
      frame s t) ∧
  (∀ (src : Fin 8) (ptp : BitVec 64) (s : State), s.isOff 0x07 = false → 1 < src.val → s.sourceValid src = false →
    s.rd Reg.ANT_STAT_STATE = 0 → s.flag Reg.ANT_CTRL_FORCE_HOLD = false → s.sourceList = [src.val] →
    Completes (exec (.antSourceValid src ptp) s) fun t =>
      t.sourceValid src = true ∧ t.rd Reg.ANT_STAT_STATE = 1 ∧ t.rd Reg.ANT_STAT_ACTIVE = src ∧
      (t.source src).validSince = some s.time.elapsed ∧ frame s t) ∧
  (∀ (src : Fin 8) (s : State), s.isOff 0x07 = false → src.val ≠ 7 → s.sourceValid src = true → s.measuring src = true →
    Completes (exec (.antSourceLost src) s) fun t =>
      t.sourceValid src = false ∧ t.rd Reg.ANT_STAT_STATE = 3 ∧ s.time.elapsed ≤ t.time.elapsed ∧
      t.ant.dwellUntil = some (t.time.elapsed + s.rd Reg.ANT_HOLDDWELL * 1000000) ∧ frame s t) ∧
  (∀ (v : BitVec 16) (ptp : BitVec 64) (s : State), s.isOff 0x07 = false →
    (s.loadReg 0x7000C v.toNat).word 0x7000C = s.word 0x7000C →
    Completes (exec (.antSrcselWrite v ptp) s) fun t => t = s.loadReg 0x7000C v.toNat) ∧
  (∀ (ptp : BitVec 64) (d c : Nat) (s : State), s.isOff 0x07 = false → s.ant.dwellUntil = some d →
    s.flag Reg.ANT_CTRL_FORCE_HOLD = false → s.bestSource = some c → c ≠ 1 →
    Completes (exec (.antHolddwellExpiry ptp) s) fun t =>
      t.rd Reg.ANT_STAT_STATE = 1 ∧ t.rd Reg.ANT_STAT_ACTIVE = c ∧ t.ant.dwellUntil = none ∧ frame s t) ∧
  (∀ (src : Fin 8) (ptp : BitVec 64) (d : Nat) (s : State), s.isOff 0x07 = false → 1 < src.val → (s.source src).validSince = some d →
    s.flag Reg.ANT_CTRL_REVERT = true → s.sourceValid src = true → s.rd Reg.ANT_STAT_STATE = 2 →
    s.ranksBefore src (s.rd Reg.ANT_STAT_ACTIVE) = true → s.flag Reg.ANT_CTRL_FORCE_HOLD = false →
    Completes (exec (.antRevertTimer src ptp) s) fun t =>
      t.rd Reg.ANT_STAT_STATE = 1 ∧ t.rd Reg.ANT_STAT_ACTIVE = src ∧ frame s t)) ∧
  (∀ (τ : BitVec 64) (s : State), s.isOff 0x07 = false → s.rd Reg.ANT_REF_CFG_GEN_MODE ≠ 0 → s.refPeriod ≠ 0 →
    (s.source 2).last = none → (s.source 2).expected = none →
    Completes (exec (.genlockPulse τ) s) fun t =>
      (t.ref 0).count = (s.ref 0).count + 1 ∧ (t.source 2).last = some (s.until τ.toNat).time.acc ∧ (t.source 2).bad = 0 ∧
      (∀ k : Nat, k ≠ 0 → t.ref k = s.ref k) ∧
      Frame (fun o => (0x70000 ≤ o ∧ o < 0x71000) ∨ TimeReg o ∨ ReportReg o) s t
        { s with regs := t.regs, time := t.time, ant := t.ant, refs := t.refs, host := t.host, chy := t.chy, out := t.out,
                 fresh := t.fresh })

/-- Antenna as a PTP slave. A Sync of its master that is no second copy opens a measurement, complete when it is one-step; its Follow_Up
of the same LAN gives the origin and completes it; each with a known delay then measures: the phase is the offset from the master against
the phase target. A Delay_Req goes out with the next sequence number, and its Delay_Resp on the same LAN gives t4 - t3. An Announce of the
domain is taken from the master known, from a better one, or when none is known, and a worse one is not; three intervals without one lose
PTP (R47, R48, R53, R375). Antenna as the PTP master: it enters when selection chooses it, with MASTER set and source code 1 not valid; in
the master state it sends Sync and Announce at their intervals, each with the next sequence number, and answers a Delay_Req of its domain
with a frame to the PTP port; it leaves when selection no longer chooses it (R53, R431). The model's own choices that it meets: logs 3,
32, 33. -/
def Obligations.PtpExchange : Prop :=
  (
  let frame (s t : State) : Prop :=
    Frame (fun o => (0x70000 ≤ o ∧ o < 0x71000) ∨ TimeReg o ∨ ReportReg o) s t
      { s with regs := t.regs, time := t.time, ant := t.ant, host := t.host, chy := t.chy, out := t.out, fresh := t.fresh }
  let opened (h : PtpHeader) (two lanB : Bool) (origin corr τ : BitVec 64) (s : State) : OpenSync :=
    { hdr := h, t1 := (if two then 0 else (origin.toNat : Int)) + corrNs corr, t2 := τ.toNat, at_ := (s.until τ.toNat).time.elapsed,
      complete := !two, lanB := lanB }
  (∀ (h : PtpHeader) (two lanB : Bool) (origin corr τ : BitVec 64) (s : State), s.isOff 0x07 = false → s.fromMaster h = true →
    (∀ y : OpenSync, s.ant.ptp.sync = some y → y.hdr ≠ h) →
    Completes (exec (.ptpSyncRx h two lanB origin corr τ) s) fun t =>
      t.ant.ptp.sync = some (opened h two lanB origin corr τ s) ∧ t.ant.ptp.lastDelay = s.ant.ptp.lastDelay ∧
      t.ant.ptp.best = s.ant.ptp.best ∧ frame s t ∧ (two = true ∨ s.ant.ptp.lastDelay = none → Frame TimeReg s t
        { s with regs := t.regs, time := t.time, ant := { s.ant with ptp := { s.ant.ptp with sync := t.ant.ptp.sync } } })) ∧
  (∀ (h : PtpHeader) (lanB : Bool) (origin corr τ : BitVec 64) (d : Int) (s : State), s.isOff 0x07 = false → s.fromMaster h = true →
    (∀ y : OpenSync, s.ant.ptp.sync = some y → y.hdr ≠ h) → s.ant.ptp.lastDelay = some d → s.measuring 1 = true →
    s.ant.needRef = false → (s.source 1).last = none →
    Completes (exec (.ptpSyncRx h false lanB origin corr τ) s) fun t =>
      t.rd Reg.ANT_PHASE = low 32 (roundDiv ((τ.toNat : Int) - (origin.toNat + corrNs corr) - d) 2 + s.phaseTarget) ∧
      (t.source 1).lastMaster = origin.toNat + corrNs corr ∧ (t.source 1).last = some (s.until τ.toNat).time.acc) ∧
  (∀ (h : PtpHeader) (lanB : Bool) (origin corr : BitVec 64) (y : OpenSync) (s : State), s.isOff 0x07 = false →
    s.fromMaster h = true → s.ant.ptp.sync = some y → y.complete = false → y.hdr = h → y.lanB = lanB →
    Completes (exec (.ptpFollowUpRx h lanB origin corr) s) fun t =>
      t.ant.ptp.sync = some { y with t1 := origin.toNat + corrNs corr + y.t1, complete := true } ∧
      t.ant.ptp.lastDelay = s.ant.ptp.lastDelay ∧ t.time.acc = s.time.acc ∧ frame s t ∧
      (s.ant.ptp.lastDelay.isSome = true → (t.source 1).lastMaster = origin.toNat + corrNs corr + y.t1) ∧
      (s.ant.ptp.lastDelay = none → t = { s with ant := { s.ant with ptp := { s.ant.ptp with sync := t.ant.ptp.sync } } })) ∧
  (∀ (h : PtpHeader) (lanB : Bool) (received corr : BitVec 64) (q a b : Nat) (s : State), s.isOff 0x07 = false →
    s.fromMaster h = true → s.ant.ptp.delayOpen = some (q, a, b) → h.seq.toNat = q →
    (∀ y : OpenSync, s.ant.ptp.sync = some y → y.lanB = lanB) →
    Completes (exec (.ptpDelayRespRx h lanB received corr) s) fun t =>
      t.ant.ptp.lastDelay = some (received.toNat - corrNs corr - (if lanB then b else a : Nat)) ∧ t.ant.ptp.delayOpen = none ∧
      t.ant.ptp.sync = s.ant.ptp.sync ∧ frame s t ∧ (s.ant.ptp.lastDelay.isSome = true ∨ s.ant.ptp.sync = none →
        t = { s with ant := t.ant })) ∧
  (∀ (a : Announce) (τ : BitVec 64) (s : State), s.isOff 0x07 = false → a.hdr.domain.toNat = s.rd Reg.ANT_PTP_CFG_DOMAIN →
    (∀ b : Announce, s.ant.ptp.best = some b → b.hdr.source = a.hdr.source ∨ betterMaster a b = true) →
    Completes (exec (.ptpAnnounceRx a τ) s) fun t =>
      t.ant.ptp.best = some a ∧ t.ant.ptp.lastAnnounce = some (s.until τ.toNat).now ∧
      ((∀ b : Announce, s.ant.ptp.best = some b → b.hdr.source ≠ a.hdr.source) → t.ant.ptp.sync = none ∧ t.ant.ptp.delayOpen = none) ∧
      Frame TimeReg s t { s with regs := t.regs, time := t.time, ant := t.ant }) ∧
  (∀ (a b : Announce) (τ : BitVec 64) (s : State), s.isOff 0x07 = false → a.hdr.domain.toNat = s.rd Reg.ANT_PTP_CFG_DOMAIN →
    s.ant.ptp.best = some b → b.hdr.source ≠ a.hdr.source → betterMaster a b = false →
    Completes (exec (.ptpAnnounceRx a τ) s) (TimePassed s)) ∧
  (∀ (d : Nat) (s : State), s.isOff 0x07 = false → s.ant.ptp.lastAnnounce = some d →
    Completes (exec .ptpAnnounceTimeout s) fun t =>
      t.ant.ptp.best = none ∧ t.ant.ptp.lastAnnounce = none ∧ t.ant.ptp.sync = none ∧ t.sourceValid 1 = false ∧
      (s.sourceValid 1 = true → s.measuring 1 = true → t.rd Reg.ANT_STAT_STATE = 3) ∧ frame s t) ∧
  (∀ s : State, s.isOff 0x07 = false → s.flag Reg.ANT_STAT_MASTER = false → s.ant.ptp.best.isSome = true →
    Completes (exec .ptpDelayReqTx s) fun t =>
      t.ant.ptp.delayOpen = some (s.ant.ptp.delaySeq, s.now, s.now) ∧
      t.ant.ptp.delaySeq = (s.ant.ptp.delaySeq + 1) % 65536 ∧ t.ant.ptp.best = s.ant.ptp.best ∧
      Frame (fun o => (0x140000 ≤ o ∧ o < 0x168000) ∨ ReportReg o) s t
        { s with regs := t.regs, ant := t.ant, macs := t.macs, host := t.host, chy := t.chy, out := t.out })) ∧
  ((∀ s : State, s.isOff 0x07 = false → s.flag Reg.ANT_STAT_MASTER = false → s.masterChosen = true →
    Completes (exec .ptpMasterEnter s) fun t =>
      t.flag Reg.ANT_STAT_MASTER = true ∧ t.sourceValid 1 = false ∧ t.ant.ptp.nextSync = some s.now ∧
      t.ant.ptp.nextAnnounce = some s.now ∧
      Frame (fun o => (0x70008 ≤ o ∧ o ≤ 0x70010) ∨ TimeReg o ∨ ReportReg o) s t
        { s with regs := t.regs, time := t.time, ant := t.ant, host := t.host, chy := t.chy, out := t.out }) ∧
  (∀ s : State, s.isOff 0x07 = false → s.flag Reg.ANT_STAT_MASTER = true → s.masterChosen = false →
    Completes (exec .ptpMasterLeave s) fun t =>
      t.flag Reg.ANT_STAT_MASTER = false ∧ t.ant.ptp.nextSync = none ∧ t.ant.ptp.nextAnnounce = none ∧
      Frame (· = Reg.ANT_STAT_MASTER.off) s t { s with regs := t.regs, ant := t.ant }) ∧
  (∀ (d : Nat) (s : State), s.isOff 0x07 = false → s.ant.ptp.nextSync = some d → s.flag Reg.ANT_STAT_MASTER = true →
    Completes (exec .ptpSyncTx s) fun t =>
      t.ant.ptp.syncSeq = (s.ant.ptp.syncSeq + 1) % 65536 ∧ t.ant.ptp.nextSync = some (d + s.syncInterval) ∧
      Frame (fun o => (0x140000 ≤ o ∧ o < 0x168000) ∨ TimeReg o ∨ ReportReg o) s t
        { s with regs := t.regs, time := t.time, ant := t.ant, macs := t.macs, host := t.host, chy := t.chy, out := t.out }) ∧
  (∀ (d : Nat) (s : State), s.isOff 0x07 = false → s.ant.ptp.nextAnnounce = some d → s.flag Reg.ANT_STAT_MASTER = true →
    Completes (exec .ptpAnnounceTx s) fun t =>
      t.ant.ptp.announceSeq = (s.ant.ptp.announceSeq + 1) % 65536 ∧ t.ant.ptp.nextAnnounce = some (d + s.announceInterval) ∧
      Frame (fun o => (0x140000 ≤ o ∧ o < 0x168000) ∨ TimeReg o ∨ ReportReg o) s t
        { s with regs := t.regs, time := t.time, ant := t.ant, macs := t.macs, host := t.host, chy := t.chy, out := t.out }) ∧
  (∀ (h : PtpHeader) (corr τ : BitVec 64) (s : State), s.isOff 0x07 = false → s.flag Reg.ANT_STAT_MASTER = true →
    h.domain.toNat = s.rd Reg.ANT_PTP_CFG_DOMAIN → s.rd Reg.ANT_PTP_CFG_PORT < 8 → s.pairOn (s.rd Reg.ANT_PTP_CFG_PORT / 2) = false →
    s.isOff 0x10 = false → s.flag (Reg.MAC_CTRL_ENABLE (s.rd Reg.ANT_PTP_CFG_PORT)) = true →
    s.flag (Reg.MAC_STAT_LINK (s.rd Reg.ANT_PTP_CFG_PORT)) = true →
    Completes (exec (.ptpDelayReqRx h corr τ) s) fun t =>
      (t.mac (s.rd Reg.ANT_PTP_CFG_PORT)).tx.length = (s.mac (s.rd Reg.ANT_PTP_CFG_PORT)).tx.length + 1 ∧
      Frame TimeReg s t { s with regs := t.regs, time := t.time, macs := t.macs }))

/-! ### Show contexts -/

/-- At its boundary a free-running context's anchor moves to the boundary: a moving one's position to the next whole frame, a held one's
stays. The command that waits then acts: RUN starts a context whose rate is in range, HOLD and STOP leave RUN, LOCATE jumps to LOC, and
none keeps the state. A context that chases PTP, video, LTC or beat jumps to its source outside the window, and else takes CHASE from 1/64
frame of error on and RUN below 1/256 (R57-R60). A command written to a lone unit's context waits for its boundary, and nothing else
changes; the last one written stands. A write of NUM, DEN or SPEED of a held context loads the register, and a moving one ignores a write
that would pass the period's limit. A write of SOURCE and PARENT that closes a cycle of LINK parents through a moving context keeps them
and sets BADLINK (R55, R56, R58). A context in RUN or CHASE whose source is no longer valid enters FREEWHEEL, and one in FREEWHEEL whose
source is valid again enters CHASE; no other register of Antenna changes (R59). The model's own choices that it meets: logs 3, 91, 92. -/
def Obligations.Contexts : Prop :=
  (
  let frame (s t : State) : Prop :=
    Frame (fun o => (0x71000 ≤ o ∧ o < 0x73000) ∨ (0x80000 ≤ o ∧ o < 0x80020) ∨ TimeReg o ∨ ReportReg o) s t
      { s with regs := t.regs, time := t.time, ctxs := t.ctxs, cal := t.cal, host := t.host, chy := t.chy, out := t.out }
  (∀ (n : Fin 128) (s : State), s.isOff 0x07 = false → s.rd (Reg.ANT_CTX_CTRL_SOURCE n) = 0 → (s.ctx n).cmd ≠ some .locate →
    Completes (exec (.ctxFrameBoundary n) s) fun t =>
      (t.ctx n).pb = (if s.ctxMoving n then ((s.ctx n).pb / 2 ^ 24 + 1) * 2 ^ 24 else (s.ctx n).pb) ∧
      (t.ctx n).tb = s.ctxNextBoundary n ∧ (t.ctx n).cmd = none ∧
      ((s.ctx n).cmd = none → t.ctxState n = s.ctxState n) ∧
      ((s.ctx n).cmd = some .hold → t.ctxState n = 2) ∧ ((s.ctx n).cmd = some .stop → t.ctxState n = 0) ∧
      ((s.ctx n).cmd = some .run → s.ctxRateOk n = true → s.ctxMoving n = false → t.ctxState n = 1) ∧
      ((s.ctx n).cmd = some .run → s.ctxRateOk n = false → t.flag (Reg.ANT_CTX_STAT_BADRATE n) = true ∧ t.ctxState n = s.ctxState n) ∧
      (∀ k : Nat, k ≠ n → t.ctx k = s.ctx k) ∧
      Frame (fun o => (0x71000 + 0x40 * n.val ≤ o ∧ o < 0x71040 + 0x40 * n.val) ∨ o = Reg.CAL_COUNT.off ∨ TimeReg o) s t
        { s with regs := t.regs, time := t.time, ctxs := t.ctxs, cal := t.cal }) ∧
  (∀ (n : Fin 128) (s : State), s.isOff 0x07 = false → s.rd (Reg.ANT_CTX_CTRL_SOURCE n) = 0 → (s.ctx n).cmd = some .locate →
    Completes (exec (.ctxFrameBoundary n) s) fun t =>
      (t.ctx n).pb = s.ctxLocate n ∧ (t.ctx n).tb = s.ctxNextBoundary n ∧ (t.ctx n).cmd = none ∧ t.ctxState n = s.ctxState n ∧
      frame s t) ∧
  (∀ (n : Fin 128) (s : State), s.isOff 0x07 = false → s.rd (Reg.ANT_CTX_CTRL_SOURCE n) ∈ [1, 2, 3, 4] → (s.ctx n).cmd = none →
    (s.ctx n).rewrite = false → s.ctxState n = 1 ∨ s.ctxState n = 3 → s.srcOk n = true → s.beatHeld n = false →
    let pb := ((s.ctx n).pb / 2 ^ 24 + 1) * 2 ^ 24
    let src := s.srcPos n (s.ctxNextBoundary n)
    let e := (src - pb).natAbs
    Completes (exec (.ctxFrameBoundary n) s) fun t =>
      (t.ctx n).pb = (if s.rd (Reg.ANT_CTX_CHASE_WIN n) * 2 ^ 24 < e then src else pb) ∧ (t.ctx n).tb = s.ctxNextBoundary n ∧
      t.ctxState n = (if e * 256 < 2 ^ 24 then 1 else if 2 ^ 24 ≤ e * 64 then 3 else s.ctxState n) ∧ frame s t)) ∧
  ((∀ (n : Fin 128) (s : State), s.isOff 0x07 = false → s.cueMode = .lone →
    exec (.ctxRun n) s = .next (s.setCtx n { s.ctx n with cmd := some .run }) ∧
    exec (.ctxHold n) s = .next (s.setCtx n { s.ctx n with cmd := some .hold }) ∧
    exec (.ctxStop n) s = .next (s.setCtx n { s.ctx n with cmd := some .stop }) ∧
    exec (.ctxLocate n) s = .next (s.setCtx n { s.ctx n with cmd := some .locate })) ∧
  (∀ (n : Fin 128) (v : Word) (s : State), s.isOff 0x07 = false → s.cueMode = .lone → s.ctxMoving n = false →
    Completes (exec (.ctxRateWrite n 0 v) s) fun t =>
      t.rd (Reg.ANT_CTX_NUM n) = v.toNat ∧ OnlyRegs (· = (Reg.ANT_CTX_NUM n).off) s t) ∧
  (∀ (n : Fin 128) (which : Fin 3) (v : Word) (s : State), s.isOff 0x07 = false → s.cueMode = .lone → s.ctxMoving n = true →
    (let u := s.loadReg (ctxOff n (4 + 4 * which.val)) v.toNat
     effectivePeriod (u.rd (Reg.ANT_CTX_NUM n)) (u.rd (Reg.ANT_CTX_DEN n)) (u.rd (Reg.ANT_CTX_SPEED n)) = none) →
    exec (.ctxRateWrite n which v) s = .next s) ∧
  (∀ (n : Fin 128) (v : Word) (s : State), s.isOff 0x07 = false → s.cueMode = .lone → v.toNat % 8 ≤ 4 →
    Completes (exec (.ctxCtrlWrite n v) s) fun t =>
      t.rd (Reg.ANT_CTX_CTRL_SOURCE n) = v.toNat % 8 ∧ t.rd (Reg.ANT_CTX_CTRL_PARENT n) = bitsOf v.toNat 8 7 ∧
      OnlyRegs (· = (Reg.ANT_CTX_CTRL_SOURCE n).off) s t) ∧
  (∀ (n : Fin 128) (v : Word) (s : State), s.isOff 0x07 = false → s.cueMode = .lone →
    ((s.loadReg (ctxOff n 0) v.toNat).linkCycle n).contains n.val = true →
    ((s.loadReg (ctxOff n 0) v.toNat).linkCycle n).any s.ctxMoving = true →
    Completes (exec (.ctxCtrlWrite n v) s) fun t =>
      t.rd (Reg.ANT_CTX_CTRL_SOURCE n) = s.rd (Reg.ANT_CTX_CTRL_SOURCE n) ∧
      t.rd (Reg.ANT_CTX_CTRL_PARENT n) = s.rd (Reg.ANT_CTX_CTRL_PARENT n) ∧ t.flag (Reg.ANT_CTX_STAT_BADLINK n) = true)) ∧
  ((∀ (n : Fin 128) (s : State), s.isOff 0x07 = false → s.ctxState n = 1 ∨ s.ctxState n = 3 → s.srcOk n = false →
    Completes (exec (.ctxSourceLost n) s) fun t =>
      t.ctxState n = 4 ∧ RegsAndReports (· = (Reg.ANT_CTX_STAT_STATE n).off) s t) ∧
  (∀ (n : Fin 128) (s : State), s.isOff 0x07 = false → s.ctxState n = 4 → s.srcOk n = true →
    Completes (exec (.ctxSourceReturn n) s) fun t =>
      t.ctxState n = 3 ∧ OnlyRegs (· = (Reg.ANT_CTX_STAT_STATE n).off) s t))

/-! ### The calendar -/

/-- The calendar as a lone unit's: CAL_ADD stores an event with its context, position, class, tag and payload behind those stored, and
CAL_CANCEL removes exactly the context's events that carry the tag, or all of them; CAL_COUNT counts what is stored (R63, R64). A release:
the next TASK event leaves the calendar and joins its ready queue, marked late if its instant had passed; with that queue full the
calendar holds it, and the held event is handed over when the queue takes words again (R65, R67). CAL_CTRL: ENABLE takes the value written
and no event is lost or added by it, a disable leaves none due; a lead from 1 to 15 is loaded for its class (R65, R70). The model's own
choices that it meets: logs 3, 93. -/
def Obligations.CalendarEvents : Prop :=
  ((∀ (ring : Fin 64) (d : Desc) (s : State), s.startedDesc ring 0x0801 = some d → d.reservedOk false 6 = true →
    addWordsOk d.w = true → s.cueMode = .lone → s.cal.events.length < 65536 → s.StoreSound →
    Completes (exec (.calAdd ring) s) fun t =>
      (∃ e : CalEvent, t.cal.events = s.cal.events ++ [e] ∧ e.ctx = bitsOf (d.w 0) 0 7 ∧ e.commit = (bitsOf (d.w 0) 8 2 == 1) ∧
        e.pos = sext 64 (d.w 1 + d.w 2 * 2 ^ 32) ∧ e.tag = d.w 3 ∧ e.payload = d.w 4 + d.w 5 * 2 ^ 32 ∧ e.order = s.cal.nextOrder) ∧
      t.rd Reg.CAL_COUNT = s.cal.events.length + 1 ∧
      Frame (fun o => o = Reg.CAL_COUNT.off ∨ GrantReg o ∨ ReportReg o) s t
        { s with regs := t.regs, cal := t.cal, host := t.host, chy := t.chy, out := t.out }) ∧
  (∀ (ring : Fin 64) (d : Desc) (s : State), s.startedDesc ring 0x0802 = some d → d.reservedOk false 4 = true →
    withBits (withBits (d.w 0) 0 2 0) 8 7 0 = 0 → bitsOf (d.w 0) 0 2 ≤ 1 → d.w 1 = 0 → d.w 2 = 0 → s.cueMode = .lone →
    Completes (exec (.calCancel ring) s) fun t =>
      t.cal.events = s.cal.events.filter (fun e => !(e.ctx == bitsOf (d.w 0) 8 7 && (bitsOf (d.w 0) 0 2 == 1 || e.tag == d.w 3))) ∧
      Frame (fun o => o = Reg.CAL_COUNT.off ∨ ReportReg o) s t
        { s with regs := t.regs, cal := t.cal, host := t.host, chy := t.chy, out := t.out })) ∧
  ((∀ (e : CalEvent) (c : Int) (s : State), s.isOff 0x08 = false → s.flag Reg.CAL_CTRL_ENABLE = true → s.cal.held = none →
    s.nextEvent = some (e, c) → e.commit = false → e.queue < 16 → s.readyOn e.queue = true → s.readyFull e.queue = false → s.StoreSound →
    Completes (exec .calRelease s) fun t =>
      t.cal.events = s.cal.events.filter (fun x => x.order ≠ e.order) ∧ t.cal.held = none ∧
      t.readyQueue e.queue = s.readyQueue e.queue ++ [withBits (withBits e.payload 18 1 (b2n (e.passed || e.jumped))) 19 1 0] ∧
      Frame (fun o => o = Reg.CAL_COUNT.off ∨ o = Reg.CAL_LATE.off ∨ (0x50100 + 0x10 * e.queue ≤ o ∧ o < 0x50110 + 0x10 * e.queue) ∨
        TimeReg o ∨ GrantReg o ∨ ReportReg o) s t
        { s with regs := t.regs, time := t.time, cal := t.cal, tsk := t.tsk, host := t.host, chy := t.chy, out := t.out }) ∧
  (∀ (e : CalEvent) (c : Int) (s : State), s.isOff 0x08 = false → s.flag Reg.CAL_CTRL_ENABLE = true → s.cal.held = none →
    s.nextEvent = some (e, c) → e.commit = false → e.queue < 16 → s.readyOn e.queue = true → s.readyFull e.queue = true → s.StoreSound →
    Completes (exec .calRelease s) fun t =>
      t.cal.held.isSome = true ∧ t.flag Reg.CAL_STAT = true ∧ t.flag Reg.TSK_STAT_HELD = true ∧
      t.tsk.ready = s.tsk.ready ∧
      Frame (fun o => o = Reg.CAL_COUNT.off ∨ o = Reg.CAL_LATE.off ∨ o = Reg.CAL_STAT.off ∨ o = Reg.TSK_STAT_HELD.off ∨
        TimeReg o ∨ GrantReg o ∨ ReportReg o) s t
        { s with regs := t.regs, time := t.time, cal := t.cal, tsk := t.tsk, host := t.host, chy := t.chy, out := t.out }) ∧
  (∀ (e : CalEvent) (s : State), s.isOff 0x08 = false → s.cal.held = some e → e.commit = false → e.queue < 16 →
    s.readyOn e.queue = true → s.readyFull e.queue = false →
    Completes (exec .calReleaseAccepted s) fun t =>
      t.cal.held = none ∧ t.flag Reg.CAL_STAT = false ∧ t.cal.events = s.cal.events ∧
      t.readyQueue e.queue = s.readyQueue e.queue ++ [withBits (withBits e.payload 18 1 (b2n (e.passed || e.jumped))) 19 1 0] ∧
      Frame (fun o => o = Reg.CAL_STAT.off ∨ o = Reg.TSK_STAT_HELD.off ∨ (0x50100 + 0x10 * e.queue ≤ o ∧ o < 0x50110 + 0x10 * e.queue))
        s t { s with regs := t.regs, cal := t.cal, tsk := t.tsk })) ∧
  ((∀ (v : Bool) (s : State), s.isOff 0x08 = false →
    Completes (exec (.calEnableWrite v) s) fun t =>
      t.flag Reg.CAL_CTRL_ENABLE = v ∧ t.cal.events.map (·.order) = s.cal.events.map (·.order) ∧
      (v = false → s.flag Reg.CAL_CTRL_ENABLE = true → ∀ e ∈ t.cal.events, e.due = none) ∧
      Frame (fun o => o = 0x80000 ∨ o = Reg.CAL_COUNT.off) s t { s with regs := t.regs, cal := t.cal }) ∧
  (∀ (commit : Bool) (v : BitVec 4) (s : State), s.isOff 0x08 = false → v.toNat ≠ 0 →
    Completes (exec (.calLeadWrite commit v) s) fun t =>
      t.rd (if commit then Reg.CAL_CTRL_LEAD_COMMIT else Reg.CAL_CTRL_LEAD_TASK) = v.toNat ∧
      t.cal.events.map (·.order) = s.cal.events.map (·.order) ∧
      Frame (fun o => o = 0x80000 ∨ o = Reg.CAL_COUNT.off) s t { s with regs := t.regs, cal := t.cal }))

/-! ### Pulses and GPI -/

/-- TIMEPULSE: a once-mode arm ahead of its START schedules one pulse there, one at or behind it a late pulse in the next TIME cycle, and
a periodic arm below 16 ns is refused with BAD; a disarm ends the schedule and leaves a pulse in progress to complete; an edge starts the
pulse that is due, counting it, or ends the one in progress (R71-R73). GPI inputs: a transition is noted with the first instant away from
the accepted level; a level held for the debounce time is accepted, and an edge that CFG.EDGE selects joins the FIFO with the time of that
first transition; POP discards the head; an enable starts a new debounce and records no edge (R74, R78, R402). The model's own choices
that it meets: logs 3, 89, 90. -/
def Obligations.TimepulseAndGpi : Prop :=
  ((∀ (k : Fin 8) (s : State), s.isOff 0x07 = false → s.rd (Reg.ANT_TP_CFG_MODE k) = 1 →
    0 < sext 32 (low 32 ((s.rd (Reg.ANT_TP_START k) : Int) - s.now32)) →
    Completes (exec (.tpArm k) s) fun t =>
      t.flag (Reg.ANT_TP_STAT_ARMED k) = true ∧ (t.pulse k).pulseEnd = (s.pulse k).pulseEnd ∧
      (t.pulse k).next = some ((s.now + (sext 32 (low 32 ((s.rd (Reg.ANT_TP_START k) : Int) - s.now32))).toNat) * 2 ^ 32) ∧
      Frame (· = (Reg.ANT_TP_STAT_ARMED k).off) s t { s with regs := t.regs, pulses := t.pulses }) ∧
  (∀ (k : Fin 8) (s : State), s.isOff 0x07 = false → s.rd (Reg.ANT_TP_CFG_MODE k) = 1 →
    sext 32 (low 32 ((s.rd (Reg.ANT_TP_START k) : Int) - s.now32)) ≤ 0 →
    Completes (exec (.tpArm k) s) fun t =>
      t.flag (Reg.ANT_TP_STAT_ARMED k) = true ∧ t.flag (Reg.ANT_TP_STAT_LATE k) = true ∧
      (t.pulse k).next = some (s.time.acc + timeInc s.time.rho) ∧
      Frame (fun o => o = (Reg.ANT_TP_STAT_ARMED k).off ∨ ReportReg o) s t
        { s with regs := t.regs, pulses := t.pulses, host := t.host, chy := t.chy, out := t.out }) ∧
  (∀ (k : Fin 8) (s : State), s.isOff 0x07 = false → s.rd (Reg.ANT_TP_CFG_MODE k) = 2 → s.rd (Reg.ANT_TP_PERIOD k) < 16 →
    Completes (exec (.tpArm k) s) fun t =>
      t.flag (Reg.ANT_TP_STAT_BAD k) = true ∧ OnlyRegs (· = (Reg.ANT_TP_STAT_BAD k).off) s t) ∧
  (∀ (k : Fin 8) (s : State), s.isOff 0x07 = false →
    Completes (exec (.tpDisarm k) s) fun t =>
      t.flag (Reg.ANT_TP_STAT_ARMED k) = false ∧ (t.pulse k).next = none ∧ (t.pulse k).pulseEnd = (s.pulse k).pulseEnd ∧
      Frame (· = (Reg.ANT_TP_STAT_ARMED k).off) s t { s with regs := t.regs, pulses := t.pulses }) ∧
  (∀ (k : Fin 8) (i : Nat) (s : State), s.isOff 0x07 = false → (s.pulse k).pulseEnd = none → (s.pulse k).next = some i →
    Completes (exec (.tpEdge k) s) fun t =>
      t.rd (Reg.ANT_TP_STAT_COUNT k) = (s.rd (Reg.ANT_TP_STAT_COUNT k) + 1) % 2 ^ 16 ∧ (t.pulse k).pulseEnd.isSome = true ∧
      (t.pulse k).next = (if (s.pulse k).periodic then some (i + (s.pulse k).period) else none) ∧
      Frame (fun o => o = (Reg.ANT_TP_STAT_COUNT k).off ∨ TimeReg o) s t
        { s with regs := t.regs, time := t.time, pulses := t.pulses, out := t.out }) ∧
  (∀ (k : Fin 8) (e : Nat) (s : State), s.isOff 0x07 = false → (s.pulse k).pulseEnd = some e →
    Completes (exec (.tpEdge k) s) fun t =>
      (t.pulse k).pulseEnd = none ∧ (t.pulse k).next = (s.pulse k).next ∧
      Frame TimeReg s t { s with regs := t.regs, time := t.time, pulses := t.pulses, out := t.out })) ∧
  ((∀ (n : Fin 16) (level : Bool) (τ : BitVec 64) (s : State), s.isOff 0x09 = false → s.flag (Reg.GPI_CFG_ENABLE n) = true →
    Completes (exec (.gpiTransition n level τ) s) fun t =>
      (t.gpi n).pin = level ∧ (t.gpi n).since = some (s.until τ.toNat).now ∧ (t.gpi n).fifo = (s.gpi n).fifo ∧
      ((s.gpi n).accepted = some (!level) → (s.gpi n).first = none → (t.gpi n).first = some (s.until τ.toNat).now) ∧
      Frame TimeReg s t { s with regs := t.regs, time := t.time, gpis := t.gpis }) ∧
  (∀ (n : Fin 16) (t0 : Nat) (a : Bool) (s : State), s.isOff 0x09 = false → (s.gpi n).since = some t0 → (s.gpi n).accepted = some a →
    (s.gpi n).pin = !a → s.rd (Reg.GPI_CFG_EDGE n) = 3 → (s.gpi n).fifo.length < 16 → s.flag Reg.PWR_WAKE_EN_GPI = false →
    s.rd Reg.AUD_TRK_CFG_TAPGPI ≠ n.val →
    Completes (exec (.gpiDebounceExpiry n) s) fun t =>
      (t.gpi n).accepted = some (!a) ∧ (t.gpi n).since = none ∧ (t.gpi n).first = none ∧
      (∃ e : GpiEntry, (t.gpi n).fifo = (s.gpi n).fifo ++ [e] ∧ e.rise = (!a) ∧ e.time = (s.gpi n).first.getD t0) ∧
      Frame (fun o => TimeReg o ∨ ReportReg o) s t
        { s with regs := t.regs, time := t.time, gpis := t.gpis, host := t.host, chy := t.chy, out := t.out }) ∧
  (∀ (n : Fin 16) (s : State), s.isOff 0x09 = false →
    Completes (exec (.gpiPop n) s) fun t => (t.gpi n).fifo = (s.gpi n).fifo.tail ∧ t = { s with gpis := t.gpis }) ∧
  (∀ (n : Fin 16) (s : State), s.isOff 0x09 = false → s.flag (Reg.GPI_CFG_ENABLE n) = false →
    Completes (exec (.gpiEnable n) s) fun t =>
      t.flag (Reg.GPI_CFG_ENABLE n) = true ∧ (t.gpi n).accepted = none ∧ (t.gpi n).since = some s.now ∧
      (t.gpi n).fifo = (s.gpi n).fifo ∧ Frame (· = (Reg.GPI_CFG_ENABLE n).off) s t { s with regs := t.regs, gpis := t.gpis }))

/-! ### The host interface -/

/-- A function level reset, a hot reset and a fall of the link reset the host interface alone: every register of it but HST_PCIID and
HST_STAT takes its reset value, FLR_SEEN is set, every ring is idle, MSI-X and Bus Master are off; a function level reset keeps the link,
and the others hold the host interface until training completes. With no transfer to stop, nothing else changes but that work accepted
from rings has lost its descriptors (R81). The link trains, a configuration request sets the fields it carries and clears the AER bits it
names, and a vector that is unmasked while its pending bit is set sends one message; a vector that is not pending sends none (R79, R81,
R102). The model's own choices that it meets: logs 8, 12. -/
def Obligations.HostLink : Prop :=
  (
  let reset (s t : State) : Prop :=
    (∀ off : Nat, 0x10000 ≤ off → off < 0x20000 → off ≠ 0x10004 → off ≠ 0x10008 → t.word off = regReset off) ∧
    t.flag Reg.HST_STAT_FLR_SEEN = true ∧ t.host.rings = [] ∧ t.host.vectors = [] ∧ t.host.pendingBits = [] ∧
    t.host.dma = [] ∧ t.host.bme = false ∧ t.host.msixEnable = false ∧
    (s.host.dma = [] → t.word 0x10008 = s.word 0x10008 ∧
      Frame (fun o => 0x10000 ≤ o ∧ o < 0x20000) s t { s.forgetRings with regs := t.regs, host := t.host, latches := t.latches })
  (∀ s : State, s.host.inReset = false → Completes (exec .functionLevelReset s) fun t =>
    reset s t ∧ t.host.inReset = false ∧
    (s.host.dma = [] → t.rd Reg.HST_STAT_LINK_UP = s.rd Reg.HST_STAT_LINK_UP ∧ t.rd Reg.HST_STAT_SPEED = s.rd Reg.HST_STAT_SPEED ∧
      t.rd Reg.HST_STAT_WIDTH = s.rd Reg.HST_STAT_WIDTH)) ∧
  (∀ s : State, Completes (exec .hotReset s) fun t => reset s t ∧ t.host.inReset = true ∧ t.flag Reg.HST_STAT_LINK_UP = false) ∧
  (∀ s : State, Completes (exec .pcieLinkDown s) fun t => reset s t ∧ t.host.inReset = true ∧ t.flag Reg.HST_STAT_LINK_UP = false)) ∧
  ((∀ (speed : BitVec 3) (width : BitVec 4) (s : State), s.pwr.held = none → s.isOff 0x01 = false → s.chy.held = [] →
    linkTrains speed.toNat width.toNat = true →
    Completes (exec (.pcieLinkUp speed width) s) fun t =>
      t.flag Reg.HST_STAT_LINK_UP = true ∧ t.rd Reg.HST_STAT_SPEED = speed.toNat ∧ t.rd Reg.HST_STAT_WIDTH = width.toNat ∧
      t.host = { s.host with inReset := false } ∧ Frame (· = 0x10004) s t { s with regs := t.regs, host := t.host }) ∧
  (∀ (bme msixEnable functionMask relaxed d3hot : Bool) (control : DevControl) (clear : BitVec 32) (s : State), s.host.inReset = false →
    Completes (exec (.configurationRequest bme msixEnable functionMask relaxed ⟨d3hot, control, clear⟩) s) fun t =>
      t.host.bme = bme ∧ t.host.msixEnable = msixEnable ∧ t.host.functionMask = functionMask ∧ t.host.relaxed = relaxed ∧
      t.host.d3hot = d3hot ∧ t.host.control = control ∧ t.host.aer = s.host.aer &&& ~~~clear ∧
      (d3hot = true ∨ (∀ n < 64, (s.ring n).descs = []) →
        t.host = { s.host with bme := bme, msixEnable := msixEnable, functionMask := functionMask, relaxed := relaxed, d3hot := d3hot,
                               control := control, aer := t.host.aer, pendingBits := t.host.pendingBits } ∧
        (s.host.pendingBits = [] → t.host.pendingBits = [] ∧ t.out = s.out) ∧
        Frame (fun _ => False) s t { s with host := t.host, out := t.out })) ∧
  (∀ (v : Fin 64) (s : State), s.host.pendingBits.contains v.val = true → s.busReady = true → s.host.msixEnable = true →
    s.host.functionMask = false →
    Completes (exec (.msixUnmask v) s) fun t =>
      (t.vector v).masked = false ∧ t.host.pendingBits = s.host.pendingBits.filter (· != v.val) ∧
      t.out = s.out ++ [.msix v (s.vector v).addr (s.vector v).data] ∧
      Frame (fun _ => False) s t { s with host := t.host, out := t.out }) ∧
  (∀ (v : Fin 64) (s : State), s.host.pendingBits.contains v.val = false →
    exec (.msixUnmask v) s = .next (s.setVector v { s.vector v with masked := false })))

/-- A doorbell that R86 allows moves the tail of an enabled command ring, or the consumed index of a notice ring; one that is not aligned
or whose value needs more than 16 bits is dropped and counted, and so is one that the ring does not allow, which raises RING_ERROR. Rings:
a fetch takes one turn of the ring whose turn it is, up to 8 descriptors, and passes the turn on, reading each from its slot; a fetch
error sets ERROR and disables the ring; an enable of a quiescent ring restarts it at index 0; a disable leaves no descriptor that has not
started; a ring that has drained is quiescent; and the moderation timer signals what was unsignalled (R87, R103, R108-R111). The model's
own choices that it meets: logs 3, 98. -/
def Obligations.RingsAndDoorbells : Prop :=
  ((∀ (n : Fin 64) (v : Word) (s : State), s.barsUp = true → s.flag (Reg.HST_RING_CFG_TYPE n) = false →
    s.flag (Reg.HST_RING_CTRL n) = true → v.toNat < 2 ^ 16 → s.tailFits n v.toNat = true →
    Completes (exec (.commandDoorbell n v true) s) fun t =>
      t.rd (Reg.HST_RING_TAIL n) = v.toNat ∧ OnlyRegs (· = (Reg.HST_RING_TAIL n).off) s t) ∧
  (∀ (n : Fin 64) (v : Word) (s : State), s.barsUp = true → s.flag (Reg.HST_RING_CFG_TYPE n) = true →
    s.flag (Reg.HST_RING_CTRL n) = true → v.toNat < 2 ^ 16 → s.consumedFits n v.toNat = true → (s.ring n).lost = 0 →
    Completes (exec (.noticeDoorbell n v true) s) fun t =>
      t.rd (Reg.HST_RING_TAIL n) = v.toNat ∧ (t.ring n) = { s.ring n with consumed := v.toNat } ∧
      Frame (· = (Reg.HST_RING_TAIL n).off) s t { s with regs := t.regs, host := t.host }) ∧
  (∀ (n : Fin 64) (v : Word) (aligned : Bool) (s : State), s.barsUp = true → aligned = false ∨ 2 ^ 16 ≤ v.toNat →
    ∀ c : Instr, c = (if s.flag (Reg.HST_RING_CFG_TYPE n) then .noticeDoorbell n v aligned else .commandDoorbell n v aligned) →
      exec c s = .next (s.count (Reg.HST_RING_DBDROP n) 1)) ∧
  (∀ (n : Fin 64) (v : Word) (s : State), s.barsUp = true → v.toNat < 2 ^ 16 →
    (s.flag (Reg.HST_RING_CTRL n) = false ∨
      (if s.flag (Reg.HST_RING_CFG_TYPE n) then s.consumedFits n v.toNat else s.tailFits n v.toNat) = false) →
    ∀ c : Instr, c = (if s.flag (Reg.HST_RING_CFG_TYPE n) then .noticeDoorbell n v true else .commandDoorbell n v true) →
      Completes (exec c s) fun t =>
        t.rd (Reg.HST_RING_DBDROP n) = satAdd 32 (s.rd (Reg.HST_RING_DBDROP n)) 1 ∧
        RegsAndReports (· = (Reg.HST_RING_DBDROP n).off) s t)) ∧
  ((∀ (data : List (List Word)) (n : Nat) (s : State), s.fetchRing = some n → s.busReady = true → s.port 55 = [] → data ≠ [] →
    s.hostWriteHeld = false →
    Completes (exec (.descriptorFetch data) s) fun t =>
      t.host.turn = (n + 1) % 64 ∧
      (t.ring n).fetched = ((s.ring n).fetched + (data.take (min 8 (s.unfetched n))).length) % 2 ^ 16 ∧
      .hostRead (s.ringBase n + (s.ring n).fetched % s.ringSize n * 64) 64 ∈ t.out ∧ OnlyReports s t) ∧
  (∀ (n : Fin 64) (s : State), 0 < s.unfetched n →
    Completes (exec (.descriptorFetchError n) s) fun t =>
      t.flag (Reg.HST_RING_STAT_ERROR n) = true ∧ t.flag (Reg.HST_RING_CTRL n) = false ∧ (t.ring n).disabling = true ∧
      Frame (fun o => o = (Reg.HST_RING_CTRL n).off ∨ o = (Reg.HST_RING_STAT_ERROR n).off ∨ ReportReg o) s t
        { s with regs := t.regs, host := t.host, chy := t.chy, out := t.out, fresh := t.fresh }) ∧
  (∀ (n : Fin 64) (s : State), s.flag (Reg.HST_RING_CTRL n) = false → s.flag (Reg.HST_RING_STAT_QUIESCENT n) = true →
    Completes (exec (.ringEnable n) s) fun t =>
      t.flag (Reg.HST_RING_CTRL n) = true ∧ t.flag (Reg.HST_RING_STAT_QUIESCENT n) = false ∧ t.rd (Reg.HST_RING_TAIL n) = 0 ∧
      t.rd (Reg.HST_RING_STAT_COMPLETED n) = 0 ∧ t.ring n = ringIdle ∧
      t.rd (Reg.HST_RING_STAT_ERROR n) = s.rd (Reg.HST_RING_STAT_ERROR n) ∧
      Frame (fun o => o = (Reg.HST_RING_CTRL n).off ∨ o = (Reg.HST_RING_STAT_QUIESCENT n).off ∨ o = (Reg.HST_RING_TAIL n).off) s t
        { s with regs := t.regs, host := t.host }) ∧
  (∀ (n : Fin 64) (s : State), s.flag (Reg.HST_RING_CTRL n) = true →
    Completes (exec (.ringDisable n) s) fun t =>
      t.flag (Reg.HST_RING_CTRL n) = false ∧ (t.ring n).disabling = true ∧ (∀ d ∈ (t.ring n).descs, d.unstarted = false) ∧
      RegsAndReports (· = (Reg.HST_RING_CTRL n).off) s t) ∧
  (∀ (n : Fin 64) (s : State), s.ringDrained n = true →
    Completes (exec (.ringQuiescent n) s) fun t =>
      t.flag (Reg.HST_RING_STAT_QUIESCENT n) = true ∧ t.ring n = { s.ring n with disabling := false } ∧
      Frame (· = (Reg.HST_RING_STAT_QUIESCENT n).off) s t { s with regs := t.regs, host := t.host }) ∧
  (∀ (n : Fin 64) (t0 : Nat) (s : State), (s.ring n).oldest = some t0 → s.rd (Reg.HST_RING_MOD_TIME n) ≠ 0 →
    s.flag (Reg.HST_RING_CFG_VEC_EN n) = true →
    Completes (exec (.msixModTimer n) s) fun t =>
      t.ring n = { s.ring n with unsignalled := 0, oldest := none } ∧
      (s.busReady = true → s.host.msixEnable = true → s.host.functionMask = false →
        (s.vector (s.rd (Reg.HST_RING_CFG_VEC n))).masked = false →
        t.out = s.out ++ [.msix (s.rd (Reg.HST_RING_CFG_VEC n)) (s.vector (s.rd (Reg.HST_RING_CFG_VEC n))).addr
          (s.vector (s.rd (Reg.HST_RING_CFG_VEC n))).data]) ∧
      Frame TimeReg s t { s with regs := t.regs, time := t.time, host := t.host, out := t.out }))

/-- The opcodes of HST: NOP completes with OK and does nothing; a DMA descriptor whose length and ranges R113 allows becomes a transfer of
exactly its bytes, one that does not completes with BAD_PARAM, and counts in STO_WINDENY where it meets a range that the host may not
write; a transfer that finishes has its bytes in the store, or in host memory, and completes with OK and its byte count (R93, R105, R112,
R113). The model's own choices that it meets: logs 5, 97. -/
def Obligations.HostOpcodes : Prop :=
  (∀ (ring : Fin 64) (d : Desc) (s : State), s.Alone ring d → s.startedDesc ring 0x0100 = some d →
    Completes (exec (.nop ring) s) fun t =>
      CompletedWith s t ring d (if d.reservedOk false 0 then stOk else stBadParam) ∧ OnlyReports s t) ∧
  (∀ (ring : Fin 64) (data : Bytes) (err : Bool) (d : Desc) (s : State), s.startedDesc ring 0x0101 = some d →
    dmaParamsOk d = true → s.dmaRangeOk (d.w 0) d.len = true → data.length = d.len → s.host.d3hot = false →
    Completes (exec (.dmaToStore ring data err) s) fun t =>
      t.host.dma = s.host.dma ++ [{ ring := ring, index := d.index, toStore := true, host := d.addr, store := d.w 0, data := data,
                                    hostError := err }] ∧
      t.out = s.out ++ [.hostRead d.addr d.len] ∧ Frame (fun _ => False) s t { s with host := t.host, out := t.out }) ∧
  (∀ (ring : Fin 64) (data : Bytes) (err : Bool) (d : Desc) (s : State), s.Alone ring d → s.startedDesc ring 0x0101 = some d →
    (dmaParamsOk d && s.dmaRangeOk (d.w 0) d.len) = false →
    Completes (exec (.dmaToStore ring data err) s) fun t =>
      CompletedWith s t ring d stBadParam ∧
      t.rd Reg.STO_WINDENY = (if s.dmaDenied d then satAdd 32 (s.rd Reg.STO_WINDENY) 1 else s.rd Reg.STO_WINDENY) ∧
      RegsAndReports (· = Reg.STO_WINDENY.off) s t) ∧
  (∀ (ring : Fin 64) (d : Desc) (s : State), s.startedDesc ring 0x0102 = some d → dmaParamsOk d = true →
    d.w 0 + d.len ≤ 0x1F800000 → s.StoreSound →
    Completes (exec (.dmaFromStore ring) s) fun t =>
      t.host.dma = s.host.dma ++ [{ ring := ring, index := d.index, toStore := false, host := d.addr, store := d.w 0,
                                    data := s.bytesAt (d.w 0) d.len, hostError := false }] ∧
      Frame GrantReg s t { s with regs := t.regs, host := t.host }) ∧
  (∀ (ring : Fin 64) (d : Desc) (s : State), s.Alone ring d → s.startedDesc ring 0x0102 = some d → dmaParamsOk d = false →
    Completes (exec (.dmaFromStore ring) s) fun t => CompletedWith s t ring d stBadParam ∧ OnlyReports s t) ∧
  (∀ (ring : Fin 64) (d : Desc) (x : DmaSt) (s : State), s.Alone ring d → s.host.dma = [x] → x.ring = ring.val → x.index = d.index →
    x.hostError = false → d.len = x.data.length → s.StoreSound → s.dmaStopped = false →
    Completes (exec (.dmaDone ring) s) fun t =>
      CompletedWith s t ring d stOk ∧ t.host.dma = [] ∧
      (x.toStore = true → t.bytesAt x.store x.data.length = x.data ∧
        StoreKept (fun a => x.store ≤ a ∧ a < x.store + x.data.length) s t) ∧
      (x.toStore = false → .hostData x.host x.data (s.flag Reg.HST_CTRL && s.host.relaxed) ∈ t.out ∧ t.store = s.store) ∧
      Frame (fun o => GrantReg o ∨ TimeReg o ∨ ReportReg o) s t
        { s with regs := t.regs, time := t.time, host := t.host, chy := t.chy, out := t.out,
                 store := { s.store with bytes := t.store.bytes } })

/-! ### The store and its arbiter -/

/-- A die grants its next free slot to the eligible head request that no other outranks, by lock, priority, age and requester: the request
leaves its port with age 0, GRANTS counts its beats, and its burst holds the die for its beats. Once the last beat has moved, a read has
returned its bytes and a write has stored its bytes (R118, R119, R121, R134, R146). The Hawk cores' requests, which R128 limits, and the
host's reads are left to the statements of their own commands. A waiting request that is withdrawn leaves its port with age 0; one that is
withdrawn as it is granted costs a dead slot, the die's next one, and nothing is read or written; a LOCK_END is not withdrawn; a request
that waits for ARB_STARVE cycles counts, and sets its requester's bit alone; a requester that falls has no request left and its lock is
abandoned, and one that rises starts empty (R136, R139, R140). The model's own choices that it meets: logs 3, 117. -/
def Obligations.GrantsAndRequesters : Prop :=
  (
  let arrived (arrivals : List StoreRequest) (strikes : List Strike) (d : Fin 8) (s : State) : State :=
    let u := arrivals.foldl State.enqueue (strikes.foldl State.strike s)
    (u.untilElapsed (u.slotFree d)).landBursts
  let free (w : StoreRequest) : Prop := w.requester.val < 16 ∨ (24 ≤ w.requester.val ∧ w.requester.val ≠ 55)
  (∀ (s : State) (cands : List StoreRequest) (w : StoreRequest), s.bestOf cands = some w →
    w ∈ cands ∧ ∀ x ∈ cands, s.outranks x w = false) ∧
  (∀ (d : Fin 8) (arrivals : List StoreRequest) (strikes : List Strike) (s0 s : State) (w : StoreRequest),
    s0.isOff 0x03 = false → s = arrived arrivals strikes d s0 → s.winner d = some w → w.op ≠ .command →
    (∀ size, w.op ≠ .lockBegin size) → (∀ b, w.op ≠ .lockEnd b) →
    Completes (exec (.arbGrant d arrivals strikes) s0) fun t =>
      (∃ b : BurstSt, t.bursts d = s.bursts d ++ [b] ∧ b.request = w ∧ b.granted = s.time.elapsed ∧
        s.time.elapsed + reqBeats w ≤ t.slotFree d) ∧
      t.port w.requester = (s.port w.requester).tail ∧ t.rd (Reg.ARB_REQ_STAT_AGE w.requester) = 0 ∧
      t.rd (Reg.ARB_REQ_GRANTS w.requester) = satAdd 32 (s.rd (Reg.ARB_REQ_GRANTS w.requester)) (reqBeats w) ∧
      Frame GrantReg s t { s with regs := t.regs, arb := t.arb }) ∧
  (∀ (d : Fin 8) (s : State) (b : BurstSt) (k : Fin 8), s.isOff 0x03 = false → s.arb.ports = [] → s.arb.bursts = [(d.val, [b])] →
    b.lastBeat ≤ s.time.elapsed → s.slotFree d ≤ s.time.elapsed → b.request.op = .read k → free b.request → s.StoreWhole →
    Completes (exec (.arbGrant d [] []) s) fun t =>
      t.arb.bursts = [] ∧
      t.out = s.out ++ [.loadData b.request.addr.toNat (s.bytesAt b.request.addr.toNat (32 * (k.val + 1))) []] ∧
      Frame GrantReg s t { s with regs := t.regs, arb := t.arb, out := t.out }) ∧
  (∀ (d : Fin 8) (s : State) (b : BurstSt) (data : List (Option Byte)), s.isOff 0x03 = false → s.arb.ports = [] →
    s.arb.bursts = [(d.val, [b])] → b.lastBeat ≤ s.time.elapsed → s.slotFree d ≤ s.time.elapsed → b.request.op = .write data →
    data ≠ [] → b.request.requester.val < 16 ∨ 24 ≤ b.request.requester.val → s.StoreWhole →
    Completes (exec (.arbGrant d [] []) s) fun t =>
      t.arb.bursts = [] ∧
      (∀ (j : Nat) (v : Byte), data[j]? = some (some v) → t.byteAt (b.request.addr.toNat + j) = v) ∧
      StoreKept (fun a => b.request.addr.toNat ≤ a ∧ ∃ v : Byte, data[a - b.request.addr.toNat]? = some (some v)) s t ∧
      Frame GrantReg s t { s with regs := t.regs, arb := t.arb, store := { s.store with bytes := t.store.bytes } })) ∧
  ((∀ (r : Fin 57) (q : StoreRequest) (rest : List StoreRequest) (s : State), s.isOff 0x03 = false →
    s.port r = q :: rest → q.requester = r → (∀ b, q.op ≠ .lockEnd b) →
    Completes (exec (.arbWithdraw ⟨r, false⟩) s) fun t =>
      t.port r = rest ∧ t.rd (Reg.ARB_REQ_STAT_AGE r) = 0 ∧
      Frame (· = (Reg.ARB_REQ_STAT_AGE r).off) s t { s with regs := t.regs, arb := t.arb }) ∧
  (∀ (r : Fin 57) (q : StoreRequest) (rest : List StoreRequest) (s : State), s.isOff 0x03 = false →
    s.port r = q :: rest → q.requester = r → (∀ b, q.op ≠ .lockEnd b) → s.arb.bursts = [] →
    (s.untilElapsed (s.slotFree (dieOf q.addr.toNat))).winsSlot q = true →
    Completes (exec (.arbWithdraw ⟨r, true⟩) s) fun t =>
      t.port r = rest ∧ t.rd (Reg.ARB_REQ_STAT_AGE r) = 0 ∧ t.rd Reg.ARB_DEAD = satAdd 32 (s.rd Reg.ARB_DEAD) 1 ∧
      t.slotFree (dieOf q.addr.toNat) = t.time.elapsed + 1 ∧
      Frame (fun o => o = Reg.ARB_DEAD.off ∨ TimeReg o) s t { s with regs := t.regs, time := t.time, arb := t.arb }) ∧
  (∀ (r : Fin 57) (q : StoreRequest) (rest : List StoreRequest) (b : Bool) (s : State), s.isOff 0x03 = false →
    s.port r = q :: rest → q.op = .lockEnd b → exec (.arbWithdraw ⟨r, false⟩) s = .next s) ∧
  (∀ (r : Fin 57) (q : StoreRequest) (rest : List StoreRequest) (s : State), s.isOff 0x03 = false → s.port r = q :: rest →
    Completes (exec (.arbStarved r) s) fun t =>
      t.starved r = true ∧ (∀ k : Fin 57, k ≠ r → t.starved k = s.starved k) ∧
      t.rd Reg.ARB_STARVECNT = satAdd 32 (s.rd Reg.ARB_STARVECNT) 1 ∧ (s.starved r = true → t.host = s.host ∧ t.out = s.out) ∧
      Frame (fun o => o = 0x30104 ∨ o = 0x30108 ∨ o = Reg.ARB_STARVECNT.off ∨ TimeReg o ∨ ReportReg o) s t
        { s with regs := t.regs, time := t.time, host := t.host, chy := t.chy, out := t.out }) ∧
  (∀ (r : Fin 57) (s : State), s.isOff 0x03 = false → s.arb.bursts = [] → s.lockOf r = none →
    Completes (exec (.aliveFall r) s) fun t =>
      t.alive r = false ∧ (∀ k : Fin 57, k ≠ r → t.alive k = s.alive k) ∧ t.port r = [] ∧
      t.rd Reg.ARB_DISCARD = satAdd 32 (s.rd Reg.ARB_DISCARD) (min 16 (s.port r).length) ∧
      Frame (fun o => o = 0x3010C ∨ o = 0x30110 ∨ o = Reg.ARB_DISCARD.off ∨ o = (Reg.ARB_REQ_STAT_AGE r).off) s t
        { s with regs := t.regs, arb := t.arb }) ∧
  (∀ (r : Fin 57) (l : LockSt) (s : State), s.isOff 0x03 = false → s.arb.bursts = [] → s.lockOf r = some l →
    s.StoreWhole →
    Completes (exec (.aliveFall r) s) fun t =>
      t.alive r = false ∧ t.port r = [] ∧ t.lockOf r = none ∧ bitsOf (leNat (t.bytesAt l.base 8)) 0 2 = 2 ∧
      StoreKept (fun a => l.base ≤ a ∧ a < l.base + 8) s t) ∧
  (∀ (r : Fin 57) (s : State), s.isOff 0x03 = false →
    Completes (exec (.aliveRise r) s) fun t =>
      t.alive r = true ∧ (∀ k : Fin 57, k ≠ r → t.alive k = s.alive k) ∧ t.port r = [] ∧ t.rd (Reg.ARB_REQ_STAT_AGE r) = 0 ∧
      Frame (fun o => o = 0x3010C ∨ o = 0x30110 ∨ o = (Reg.ARB_REQ_STAT_AGE r).off) s t { s with regs := t.regs, arb := t.arb }))

/-- Locks: a LOCK_BEGIN that is granted its die's next slot takes the lock, writes the lock word HELD with the next sequence number and
answers with the old word; a LOCK_END of the region's base that is granted releases it, FREE or ABANDONED; a lock held for STO_LOCKMAX
cycles is abandoned, captured and counted. Only the lock word's eight bytes change (R141-R145). The model's own choices that it meets: log
3. -/
def Obligations.LocksTakenAndReleased : Prop :=
  let slot (q : StoreRequest) (a : Nat) (s : State) : State := (s.enqueue q).untilElapsed ((s.enqueue q).slotFree (dieOf a))
  let load (r : Fin 57) (addr w : Nat) : Output := if r.val = 56 then .chyLoad addr (w % 2 ^ 32) else .coreLoad (r - 16) addr w
  (∀ (r : Fin 57) (base : BitVec 29) (size : Fin 5) (s u : State), s.isOff 0x03 = false → mayLock r = true →
    base.toNat % (256 * 2 ^ size.val) = 0 → s.alive r = true → s.port r = [] → s.lockOf r = none → s.StoreWhole → s.arb.bursts = [] →
    u = slot { requester := r, addr := base, op := .lockBegin size } base.toNat s →
    u.winsSlot { requester := r, addr := base, op := .lockBegin size } = true →
    Completes (exec (.lockBegin r base size) s) fun t =>
      (let old := leNat (s.bytesAt base.toNat 8)
       (∃ l : LockSt, t.arb.locks = s.arb.locks ++ [l] ∧ l.owner = r.val ∧ l.base = base.toNat ∧ l.size = size.val ∧
          l.since = u.time.elapsed) ∧
       leNat (t.bytesAt base.toNat 8) =
         lockWord 1 (bitsOf old 0 2 == 2 || bitOf old 2) r (bitsOf old 16 16 + 1) u.now32 ∧
       t.out = s.out ++ [load r (0x60000000 + base.toNat + 8 * size.val) old]) ∧ t.port r = [] ∧
      StoreKept (fun a => base.toNat ≤ a ∧ a < base.toNat + 8) s t ∧
      Frame (fun o => GrantReg o ∨ o = Reg.ARB_LOCKS.off ∨ TimeReg o) s t
        { s with regs := t.regs, time := t.time, arb := t.arb, store := { s.store with bytes := t.store.bytes }, out := t.out }) ∧
  (∀ (r : Fin 57) (base : BitVec 29) (recovered : Bool) (l : LockSt) (s u : State), s.isOff 0x03 = false → mayLock r = true →
    s.lockOf r = some l → l.base = base.toNat → base.toNat % 256 = 0 → s.alive r = true → s.port r = [] → s.StoreWhole → s.arb.bursts = [] →
    u = slot { requester := r, addr := base, op := .lockEnd recovered } base.toNat s →
    u.winsSlot { requester := r, addr := base, op := .lockEnd recovered } = true →
    Completes (exec (.lockEnd r base recovered) s) fun t =>
      (let old := leNat (s.bytesAt base.toNat 8)
       let free := !bitOf old 2 || recovered
       let new := lockWord (if free then 0 else 2) (!free) (bitsOf old 8 6) (bitsOf old 16 16) u.now32
       leNat (t.bytesAt base.toNat 8) = new ∧ t.out = s.out ++ [load r (0x80000000 + base.toNat + 8 * b2n recovered) new]) ∧
      t.arb.locks = s.arb.locks.filter (fun x => x.owner != r.val) ∧ StoreKept (fun a => base.toNat ≤ a ∧ a < base.toNat + 8) s t ∧
      Frame (fun o => GrantReg o ∨ o = Reg.ARB_LOCKS.off ∨ TimeReg o) s t
        { s with regs := t.regs, time := t.time, arb := t.arb, store := { s.store with bytes := t.store.bytes }, out := t.out }) ∧
  (∀ (r : Fin 57) (l : LockSt) (s : State), s.isOff 0x03 = false → s.lockOf r = some l → s.arb.bursts = [] →
    s.StoreWhole →
    Completes (exec (.lockWatchdogExpiry r) s) fun t =>
      t.lockOf r = none ∧ bitsOf (leNat (t.bytesAt l.base 8)) 0 2 = 2 ∧ t.flag Reg.STO_LOCKFAULT_ABANDONED = true ∧
      t.rd Reg.STO_LOCKFAULT_COUNT = satAdd 8 (s.rd Reg.STO_LOCKFAULT_COUNT) 1 ∧
      (s.flag Reg.STO_LOCKFAULT_ABANDONED = false →
        t.rd Reg.STO_LOCKFAULT_CAUSE = 2 ∧ t.rd Reg.STO_LOCKFAULT_OWNER = r.val ∧ t.rd Reg.STO_LOCKFAULT_BASE = l.base % 2 ^ 29) ∧
      StoreKept (fun a => l.base ≤ a ∧ a < l.base + 8) s t ∧
      Frame (fun o => o = 0x20014 ∨ o = 0x20018 ∨ o = Reg.ARB_LOCKS.off ∨ GrantReg o ∨ TimeReg o ∨ ReportReg o) s t
        { s with regs := t.regs, time := t.time, arb := t.arb, store := { s.store with bytes := t.store.bytes }, host := t.host,
                 chy := t.chy, out := t.out })

/-- While the store is powered down, a BAR2 write is dropped and a BAR2 read returns 0x0FF0_0FF0 in each 32-bit word, and both set
ACCESS_OFF in GLB_ERRSTAT; an open capture takes block ID 0x02 (R131). Only the error's own registers and what its report changes differ. -/
def Obligations.PoweredDownStore : Prop :=
  (∀ (addr : Nat) (data : List (Option Byte)) (s : State), addr + data.length ≤ 0x20000000 → s.barsUp = true → s.store.powered = false →
    Completes (exec (.bar2Write addr data) s) fun t =>
      t.flag Reg.GLB_ERRSTAT_ACCESS_OFF = true ∧ (s.captureOpen = true → t.rd Reg.GLB_ERRSTAT_BLOCK = 0x02) ∧
      Frame (fun o => (0x10 ≤ o ∧ o < 0x20) ∨ ReportReg o) s t
        { s with regs := t.regs, host := t.host, chy := t.chy, out := t.out, fresh := t.fresh }) ∧
  (∀ (addr len : Nat) (s : State), addr + len ≤ 0x20000000 → s.barsUp = true → s.store.powered = false →
    Completes (exec (.bar2Read addr len) s) fun t =>
      t.flag Reg.GLB_ERRSTAT_ACCESS_OFF = true ∧ (s.captureOpen = true → t.rd Reg.GLB_ERRSTAT_BLOCK = 0x02) ∧
      (addr % 4 = 0 → t.out.getLast? = some (.loadData addr (offPattern addr len) [])) ∧
      Frame (fun o => (0x10 ≤ o ∧ o < 0x20) ∨ ReportReg o) s t
        { s with regs := t.regs, host := t.host, chy := t.chy, out := t.out, fresh := t.fresh })

/-! ### Hawk cores, the scheduler and the hardware queues -/

/-- The control page of a core: POSTRES answers and clears the last post's result, a fence waits behind the requests of the core's port
and changes nothing where it holds none, CMO_BASE, MTIMECMP and an IPI set what they name on the cores they name, an enabled interrupt
ends a NEXT load that waits and is taken where mstatus lets it, MTIP comes up when time reaches MTIMECMP, and POST_k queues a word or
answers why not, with bits 18 and 19 cleared (R154-R156, R159, R164, R165, R168; logs 13, 15, 126). The model's own choices that it meets:
logs 3, 13, 15. -/
def Obligations.ControlPage : Prop :=
  let others (core : Fin 8) (s t : State) : Prop := ∀ k : Nat, k ≠ core.val → t.hawk k = s.hawk k
  (∀ (core : Fin 8) (s : State), s.isOff 0x04 = false →
    Completes (exec (.postres core) s) fun t =>
      t.hawk core = { s.hawk core with postres := 0 } ∧ t.out = s.out ++ [.coreLoad core 0x42000008 (s.hawk core).postres] ∧
      others core s t ∧ Frame (fun _ => False) s t { s with hawks := t.hawks, out := t.out }) ∧
  (∀ (core : Fin 8) (s : State), s.port (16 + core.val) = [] → s.midBurst (16 + core.val) = false → s.windowWriteHeld core = false →
    exec (.portFence core) s = .next s) ∧
  (∀ (core : Fin 8) (s : State), s.isOff 0x04 = false → s.port (16 + core.val) ≠ [] → s.arb.waiting = none →
    (∀ q ∈ s.port (16 + core.val), q.op ≠ .command) →
    Completes (exec (.portFence core) s) fun t =>
      (t.port (16 + core.val)).length = (s.port (16 + core.val)).length + 1 ∧ (s.port (16 + core.val)) <+: (t.port (16 + core.val)) ∧
      t.heldAt (16 + core.val) = .portFence core :: s.heldAt (16 + core.val) ∧ t = { s with arb := t.arb }) ∧
  (∀ (core : Fin 8) (v : BitVec 64) (s : State), s.isOff 0x04 = false →
    Completes (exec (.cmoBase core v) s) fun t =>
      t.hawk core = { s.hawk core with cmoBase := v.toNat } ∧ others core s t ∧
      Frame (fun _ => False) s t { s with hawks := t.hawks }) ∧
  (∀ (core : Fin 8) (mask : BitVec 8) (s : State), s.isOff 0x04 = false → s.NoWake →
    Completes (exec (.ipi core mask) s) fun t =>
      (∀ k : Nat, t.hawk k = { s.hawk k with msip := (s.hawk k).msip || (decide (k < 8) && bitOf mask.toNat k) }) ∧
      Frame (fun _ => False) s t { s with hawks := t.hawks }) ∧
  (∀ (core n : Fin 8) (mask : BitVec 8) (s : State), s.isOff 0x04 = false → bitOf mask.toNat n = true → (s.hawk n).waits = true →
    bitOf (s.csr n 0x304) 3 = true → (∀ k < 8, k ≠ n.val → (s.hawk k).waits = false) →
    Completes (exec (.ipi core mask) s) fun t =>
      ((s.hawk n).machineMode = true → bitOf (s.csr n 0x300) 3 = false → t.hawk n = { s.hawk n with msip := true, waits := false }) ∧
      ((s.hawk n).machineMode = false ∨ bitOf (s.csr n 0x300) 3 = true → s.meip n = false →
        t.csr n 0x342 = 2 ^ 63 + 3 ∧ (t.hawk n).machineMode = true ∧ bitOf (t.csr n 0x300) 3 = false ∧
        (t.hawk n).pc = s.csr n 0x305 / 4 * 4 + if s.csr n 0x305 % 4 = 1 then 12 else 0) ∧
      (t.hawk n).msip = true ∧ (t.hawk n).waits = false ∧ t.rd (Reg.HWK_STAT_STATE n) = 3 ∧
      t.out = s.out ++ [.coreLoad n 0x42000000 0] ∧
      Frame (· = (Reg.HWK_STAT_STATE n).off) s t { s with regs := t.regs, hawks := t.hawks, out := t.out, fresh := t.fresh }) ∧
  (∀ (core : Fin 8) (v : BitVec 64) (s : State), s.isOff 0x04 = false → s.NoWake →
    Completes (exec (.mtimecmpWrite core v) s) fun t =>
      t.hawk core = { s.hawk core with mtimecmp := v.toNat, mtip := decide (v.toNat ≤ s.now) } ∧ others core s t ∧
      Frame (fun _ => False) s t { s with hawks := t.hawks }) ∧
  (∀ (core : Fin 8) (s : State), s.isOff 0x04 = false → (s.hawk core).mtimecmp ≠ 2 ^ 64 - 1 → s.NoWake →
    Completes (exec (.mtipExpiry core) s) fun t =>
      t.hawk core = { s.hawk core with mtip := true } ∧ others core s t ∧
      Frame TimeReg s t { s with regs := t.regs, time := t.time, hawks := t.hawks }) ∧
  (∀ (core : Fin 8) (k : Fin 16) (word : BitVec 64) (s : State), s.isOff 0x04 = false →
    (let w := withBits (withBits word.toNat 18 1 0) 19 1 0
     let result (r : Nat) (t : State) : Prop := (t.hawk core) = { s.hawk core with postres := r } ∧ others core s t
     (taskInvalid w = true → Completes (exec (.postK core k word) s) fun t =>
        result 3 t ∧ t.rd Reg.TSK_INVALID = satAdd 32 (s.rd Reg.TSK_INVALID) 1 ∧
        Frame (· = Reg.TSK_INVALID.off) s t { s with regs := t.regs, hawks := t.hawks }) ∧
     (taskInvalid w = false → s.readyOn k = false → Completes (exec (.postK core k word) s) fun t =>
        result 4 t ∧ Frame (fun _ => False) s t { s with hawks := t.hawks }) ∧
     (taskInvalid w = false → s.readyOn k = true → s.readyRoom k = false → Completes (exec (.postK core k word) s) fun t =>
        result 2 t ∧ t.rd Reg.TSK_REFUSED = satAdd 32 (s.rd Reg.TSK_REFUSED) 1 ∧
        Frame (· = Reg.TSK_REFUSED.off) s t { s with regs := t.regs, hawks := t.hawks }) ∧
     (taskInvalid w = false → s.readyOn k = true → s.readyRoom k = true → Completes (exec (.postK core k word) s) fun t =>
        result 1 t ∧ t.readyQueue k = s.readyQueue k ++ [w] ∧ t.rd (Reg.TSK_Q_STAT_FILL k) = (s.readyQueue k).length + 1 ∧
        (∀ j : Fin 16, j ≠ k → t.readyQueue j = s.readyQueue j) ∧
        Frame (· = (Reg.TSK_Q_STAT_FILL k).off) s t { s with regs := t.regs, hawks := t.hawks, tsk := t.tsk })))

/-- Cores start, stop and are reset: an enable of a quiescent core starts it at BOOT with everything else at its reset value, but for a
record that still waits; a disable of a waiting core stops it at once and of a running one gives it STOPMAX; a reset discards its L1 and
restarts it when it is enabled; at the end of STOPMAX it is reset and quiescent. Stated for a core that holds no lock and has no burst in
flight (R172, R173). Cache operations: with an allowed base and length, a dirty line of the range is written to the store by CLEAN, which
keeps it clean, and by FLUSH, which drops it; INVAL drops every line of the range from every L1 and the L2 and writes nothing; another
base or length is a store access fault of the core (R154, R157, R162). A core's accesses of its address map: the uncached alias of the
store reads and writes exactly its bytes; a cacheable load of a line in the core's L1 returns its bytes, and a store there leaves them in
it, dirty; a store-conditional without a reservation returns 1; mhartid is the core's number, a CSR holds what is written, and one that
the core lacks is an illegal instruction; FENCE.I empties the instruction cache; an uncorrectable error that the cache finds poisons the
word and faults; a misaligned access traps, and one outside the map is an access fault of its kind (R152, R153, R157, R158, R162; logs 13,
126, 161). The model's own choices that it meets: logs 3, 13. -/
def Obligations.CoresAndCaches : Prop :=
  (
  let core (n : Nat) (o : Nat) : Prop :=
    (0x40000 + 0x1000 * n ≤ o ∧ o < 0x41000 + 0x1000 * n) ∨ o = Reg.ARB_ALIVE0.off ∨ o = Reg.ARB_DISCARD.off ∨
      o = (Reg.ARB_REQ_STAT_AGE (16 + n)).off
  (∀ (n : Fin 8) (s : State), s.isOff 0x04 = false → s.flag (Reg.HWK_STAT_QUIESCENT n) = true →
    s.flag (Reg.HWK_CTRL_ENABLE n) = false →
    Completes (exec (.hwkEnable n) s) fun t =>
      t.flag (Reg.HWK_CTRL_ENABLE n) = true ∧ t.flag (Reg.HWK_STAT_QUIESCENT n) = false ∧ t.rd (Reg.HWK_STAT_STATE n) = 3 ∧
      t.hawk n = { hawkIdle with pc := s.rd64 (Reg.HWK_BOOT_LO n) (Reg.HWK_BOOT_HI n), record := (s.hawk n).record } ∧
        t.alive (16 + n.val) = true ∧
      Frame (core n) s t { s with regs := t.regs, hawks := t.hawks, arb := t.arb }) ∧
  (∀ (n : Fin 8) (s : State), s.isOff 0x04 = false → s.flag (Reg.HWK_CTRL_ENABLE n) = true → (∀ k < 16, s.readyQueue k = []) →
    s.arb.bursts = [] → s.lockOf (16 + n.val) = none →
    Completes (exec (.hwkDisable n) s) fun t =>
      t.flag (Reg.HWK_CTRL_ENABLE n) = false ∧
      ((s.hawk n).waits = false →
        t.hawk n = { s.hawk n with stopBy := some (s.time.elapsed + s.rd (Reg.HWK_STOPMAX n) * 1000) } ∧
        t.flag (Reg.HWK_STAT_QUIESCENT n) = s.flag (Reg.HWK_STAT_QUIESCENT n) ∧ t.out = s.out) ∧
      ((s.hawk n).waits = true →
        (t.hawk n).waits = false ∧ t.flag (Reg.HWK_STAT_QUIESCENT n) = true ∧ t.rd (Reg.HWK_STAT_STATE n) = 0 ∧
        t.alive (16 + n.val) = false ∧ t.out = s.out ++ [.coreLoad n 0x42000000 0]) ∧
      Frame (core n) s t { s with regs := t.regs, hawks := t.hawks, arb := t.arb, out := t.out }) ∧
  (∀ (n : Fin 8) (s : State), s.isOff 0x04 = false → s.flag (Reg.HWK_CTRL_ENABLE n) = true → (s.hawk n).task = none →
    s.arb.bursts = [] → s.lockOf (16 + n.val) = none →
    Completes (exec (.hwkReset n) s) fun t =>
      t.rd (Reg.HWK_STAT_STATE n) = 3 ∧ (t.hawk n).pc = s.rd64 (Reg.HWK_BOOT_LO n) (Reg.HWK_BOOT_HI n) ∧
      (t.hawk n).machineMode = true ∧ (t.hawk n).lines = [] ∧ (t.hawk n).mtip = false ∧ (t.hawk n).msip = false ∧
      t.alive (16 + n.val) = true ∧ t.port (16 + n.val) = [] ∧
      Frame (core n) s t { s with regs := t.regs, hawks := t.hawks, arb := t.arb }) ∧
  (∀ (n : Fin 8) (d : Nat) (s : State), s.isOff 0x04 = false → (s.hawk n).stopBy = some d → s.flag (Reg.HWK_CTRL_ENABLE n) = false →
    (s.hawk n).task = none → s.arb.bursts = [] → s.lockOf (16 + n.val) = none →
    Completes (exec (.hwkStopmaxExpiry n) s) fun t =>
      t.flag (Reg.HWK_STAT_QUIESCENT n) = true ∧ t.rd (Reg.HWK_STAT_STATE n) = 0 ∧ (t.hawk n).stopBy = none ∧
      t.alive (16 + n.val) = false ∧ d ≤ t.time.elapsed ∧
      Frame (fun o => core n o ∨ TimeReg o) s t { s with regs := t.regs, time := t.time, hawks := t.hawks, arb := t.arb })) ∧
  ((∀ (core : Fin 8) (len : BitVec 64) (a : BitVec 29) (data : Bytes) (s : State), s.isOff 0x04 = false → s.StoreSound →
    cmoOk (s.hawk core).cmoBase len.toNat = true → (s.hawk core).cmoBase ≤ a.toNat → a.toNat < (s.hawk core).cmoBase + len.toNat →
    a.toNat % 64 = 0 → data.length = 64 → (∀ j < 64, s.hostMayWrite (a.toNat + j) = true) →
    (∀ c < 8, linesIn (s.hawk c).lines (s.hawk core).cmoBase len.toNat = []) → linesIn s.l2 (s.hawk core).cmoBase len.toNat = [] →
    (s.hawk core).lines.length < l1Lines →
    (Completes (exec (.clean core len [(a, data)]) s) fun t =>
      t.bytesAt a.toNat 64 = data ∧
      tblGet (t.hawk core).lines none a.toNat = some { data := data, dirty := false, poison := [] } ∧
      StoreKept (fun x => a.toNat ≤ x ∧ x < a.toNat + 64) s t ∧
      Frame GrantReg s t { s with regs := t.regs, hawks := t.hawks, l2 := t.l2, store := { s.store with bytes := t.store.bytes } }) ∧
    (Completes (exec (.flush core len [(a, data)]) s) fun t =>
      t.bytesAt a.toNat 64 = data ∧ tblGet (t.hawk core).lines none a.toNat = none ∧
      StoreKept (fun x => a.toNat ≤ x ∧ x < a.toNat + 64) s t ∧
      Frame GrantReg s t { s with regs := t.regs, hawks := t.hawks, l2 := t.l2, store := { s.store with bytes := t.store.bytes } })) ∧
  (∀ (core : Fin 8) (len : BitVec 64) (s : State), s.isOff 0x04 = false → cmoOk (s.hawk core).cmoBase len.toNat = true →
    Completes (exec (.inval core len) s) fun t =>
      (∀ a : Nat, (s.hawk core).cmoBase ≤ a → a < (s.hawk core).cmoBase + len.toNat →
        tblGet t.l2 none a = none ∧ ∀ c < 8, tblGet (t.hawk c).lines none a = none) ∧
      (∀ a : Nat, a < (s.hawk core).cmoBase ∨ (s.hawk core).cmoBase + len.toNat ≤ a →
        tblGet t.l2 none a = tblGet s.l2 none a ∧ ∀ c < 8, tblGet (t.hawk c).lines none a = tblGet (s.hawk c).lines none a) ∧
      Frame (fun _ => False) s t { s with hawks := t.hawks, l2 := t.l2 }) ∧
  (∀ (core : Fin 8) (len : BitVec 64) (dirty : List (BitVec 29 × Bytes)) (s : State), s.isOff 0x04 = false →
    cmoOk (s.hawk core).cmoBase len.toNat = false →
    Completes (exec (.clean core len dirty) s) (FaultedWith s · core 7 0x42000020) ∧
    Completes (exec (.flush core len dirty) s) (FaultedWith s · core 7 0x42000028) ∧
    Completes (exec (.inval core len) s) (FaultedWith s · core 7 0x42000030))) ∧
  ((∀ (core : Fin 8) (addr : BitVec 64) (size : Fin 4) (a : Nat) (s : State), s.isOff 0x04 = false → s.coreRuns core = true →
    addr.toNat = 0x20000000 + a → addr.toNat % 2 ^ size.val = 0 → a + 2 ^ size.val ≤ 0x1F800000 → s.StoreSound →
    Completes (exec (.queuePagePop core ⟨.load, addr, size, none⟩) s) fun t =>
      t.out = s.out ++ [.coreLoad core addr.toNat (leNat (s.bytesAt a (2 ^ size.val)))] ∧
      Frame GrantReg s t { s with regs := t.regs, out := t.out }) ∧
  (∀ (core : Fin 8) (addr word : BitVec 64) (size : Fin 4) (a : Nat) (s : State), s.isOff 0x04 = false → s.coreRuns core = true →
    addr.toNat = 0x20000000 + a → addr.toNat % 2 ^ size.val = 0 → (∀ j < 2 ^ size.val, s.hostMayWrite (a + j) = true) → s.StoreSound →
    Completes (exec (.queuePagePush core ⟨.store, addr, size, none⟩ word) s) fun t =>
      t.bytesAt a (2 ^ size.val) = leBytes (2 ^ size.val) word.toNat ∧
      StoreKept (fun x => a ≤ x ∧ x < a + 2 ^ size.val) s t ∧
      Frame GrantReg s t { s with regs := t.regs, store := { s.store with bytes := t.store.bytes } }) ∧
  (∀ (core : Fin 8) (addr : BitVec 64) (size : Fin 4) (l : LineSt) (s : State), s.isOff 0x04 = false → s.coreRuns core = true →
    addr.toNat < 0x20000000 → addr.toNat % 2 ^ size.val = 0 → s.l1 core (addr.toNat / 64 * 64) = some l → l.poison = [] →
    exec (.queuePagePop core ⟨.load, addr, size, none⟩) s =
      .next (s.emit (.coreLoad core addr.toNat (leNat ((l.data.drop (addr.toNat % 64)).take (2 ^ size.val)))))) ∧
  (∀ (core : Fin 8) (addr word : BitVec 64) (size : Fin 4) (l : LineSt) (s : State), s.isOff 0x04 = false → s.coreRuns core = true →
    addr.toNat < 0x20000000 → addr.toNat % 2 ^ size.val = 0 → s.l1 core (addr.toNat / 64 * 64) = some l → l.poison = [] →
    l.data.length = 64 →
    Completes (exec (.queuePagePush core ⟨.store, addr, size, none⟩ word) s) fun t =>
      (∃ x : LineSt, t.l1 core (addr.toNat / 64 * 64) = some x ∧ x.dirty = true ∧ x.data.length = 64 ∧
        (x.data.drop (addr.toNat % 64)).take (2 ^ size.val) = leBytes (2 ^ size.val) word.toNat ∧
        x.data.take (addr.toNat % 64) = l.data.take (addr.toNat % 64) ∧
        x.data.drop (addr.toNat % 64 + 2 ^ size.val) = l.data.drop (addr.toNat % 64 + 2 ^ size.val)) ∧
      (∀ k : Fin 8, k ≠ core → t.l1 k (addr.toNat / 64 * 64) = none) ∧ tblGet t.l2 none (addr.toNat / 64 * 64) = none ∧
      Frame (fun _ => False) s t { s with hawks := t.hawks, l2 := t.l2 }) ∧
  (∀ (core : Fin 8) (addr word : BitVec 64) (size : Fin 4) (s : State), s.isOff 0x04 = false → s.coreRuns core = true →
    addr.toNat < 0x20000000 → addr.toNat % 2 ^ size.val = 0 → (s.hawk core).reserved = none →
    Completes (exec (.queuePagePush core ⟨.sc, addr, size, none⟩ word) s) fun t =>
      t.out = s.out ++ [.coreLoad core addr.toNat 1] ∧ (∀ k : Nat, t.hawk k = s.hawk k) ∧ t.store = s.store) ∧
  (∀ (core : Fin 8) (addr : BitVec 64) (size : Fin 4) (s : State), s.isOff 0x04 = false → s.coreRuns core = true →
    exec (.queuePagePop core ⟨.csr 0xF14, addr, size, none⟩) s = .next (s.emit (.csrLoad core 0xF14 core))) ∧
  (∀ (core : Fin 8) (k : BitVec 12) (addr word : BitVec 64) (size : Fin 4) (s : State), s.isOff 0x04 = false → s.coreRuns core = true →
    csrExists k.toNat = true → k.toNat < 0xC00 → k.toNat ∉ [0x304, 0x344] →
    Completes (exec (.queuePagePush core ⟨.csr k, addr, size, none⟩ word) s) fun t =>
      t.csr core k.toNat = word.toNat ∧ (∀ j : Nat, j ≠ k.toNat → t.csr core j = s.csr core j) ∧
      (∀ n : Nat, n ≠ core.val → t.hawk n = s.hawk n) ∧ Frame (fun _ => False) s t { s with hawks := t.hawks }) ∧
  (∀ (core : Fin 8) (k : BitVec 12) (addr word : BitVec 64) (size : Fin 4) (s : State), s.isOff 0x04 = false → s.coreRuns core = true →
    csrExists k.toNat = false →
    let trapped (t : State) : Prop := t.csr core 0x342 = 2 ∧ (t.hawk core).pc = s.csr core 0x305 / 4 * 4 ∧
      (t.hawk core).machineMode = true ∧ (∀ n : Nat, n ≠ core.val → t.hawk n = s.hawk n) ∧
      Frame (fun _ => False) s t { s with hawks := t.hawks, fresh := t.fresh }
    Completes (exec (.queuePagePop core ⟨.csr k, addr, size, none⟩) s) trapped ∧
    Completes (exec (.queuePagePush core ⟨.csr k, addr, size, none⟩ word) s) trapped) ∧
  (∀ (core : Fin 8) (addr : BitVec 64) (size : Fin 4) (s : State), s.isOff 0x04 = false → s.coreRuns core = true →
    exec (.queuePagePop core ⟨.fenceI, addr, size, none⟩) s = .next (s.setHawk core { s.hawk core with ilines := [] })) ∧
  (∀ (core : Fin 8) (addr : BitVec 64) (size : Fin 4) (l : LineSt) (s : State), s.isOff 0x04 = false → s.coreRuns core = true →
    addr.toNat < 0x20000000 → addr.toNat % 2 ^ size.val = 0 → s.l1 core (addr.toNat / 64 * 64) = some l →
    Completes (exec (.queuePagePop core ⟨.load, addr, size, some true⟩) s) fun t => FaultedWith s t core 5 addr.toNat ∧
      t.l1 core (addr.toNat / 64 * 64) = some { l with poison := insertNat (addr.toNat % 64 / 8) l.poison }) ∧
  (∀ (core : Fin 8) (addr : BitVec 64) (size : Fin 4) (s : State), s.isOff 0x04 = false → s.coreRuns core = true →
    addr.toNat < 0x40000000 → addr.toNat % 2 ^ size.val ≠ 0 →
    Completes (exec (.queuePagePop core ⟨.load, addr, size, none⟩) s) fun t =>
      t.csr core 0x342 = 4 ∧ t.csr core 0x343 = addr.toNat ∧ (t.hawk core).pc = s.csr core 0x305 / 4 * 4 ∧
      (t.hawk core).machineMode = true ∧ (∀ n : Nat, n ≠ core.val → t.hawk n = s.hawk n) ∧
      Frame (fun _ => False) s t { s with hawks := t.hawks, fresh := t.fresh }) ∧
  (∀ (core : Fin 8) (addr word : BitVec 64) (s : State), s.isOff 0x04 = false → s.coreRuns core = true →
    0xA0000000 ≤ addr.toNat → addr.toNat % 8 = 0 →
    Completes (exec (.queuePagePop core ⟨.load, addr, 3, none⟩) s) (FaultedWith s · core 5 addr.toNat) ∧
    Completes (exec (.queuePagePop core ⟨.fetch, addr, 2, none⟩) s) (FaultedWith s · core 1 addr.toNat) ∧
    Completes (exec (.queuePagePush core ⟨.store, addr, 3, none⟩ word) s) (FaultedWith s · core 7 addr.toNat)))

/-- Tasks on cores: NEXT ends the task and waits, its record on the queue it names; a record that waited is pushed once there is room; the
scheduler takes the head of the highest queue that has one to the core that R166 chooses, and after the affinity window to the lowest free
core; an overrun is counted once; the watchdog resets the core and restarts it (R165, R166, R170, R171). The model's own choices that it
meets: log 3. -/
def Obligations.TasksOnCores : Prop :=
  (∀ (core : Fin 8) (s : State), s.isOff 0x04 = false → s.rd (Reg.HWK_STAT_STATE core) ≠ 0 → (s.hawk core).waits = false →
    (s.hawk core).task = none → s.flag (Reg.HWK_CTRL_ENABLE core) = true → s.interruptPending core = false →
    Completes (exec (.next core) s) fun t =>
      t.hawk core = { s.hawk core with waits := true } ∧ t.rd (Reg.HWK_STAT_STATE core) = 1 ∧
      Frame (· = (Reg.HWK_STAT_STATE core).off) s t { s with regs := t.regs, hawks := t.hawks }) ∧
  (∀ (core : Fin 8) (τ : TaskSt) (s : State), s.isOff 0x04 = false → s.rd (Reg.HWK_STAT_STATE core) ≠ 0 →
    (s.hawk core).waits = false → (s.hawk core).task = some τ → taskCqEn τ.word = true → s.queueOn (taskCq τ.word) = true →
    (s.queue (taskCq τ.word)).length < 256 → s.flag (Reg.HWK_CTRL_ENABLE core) = true →
    s.tsk.records.find? (fun r => r.1 == taskCq τ.word) = none → s.recordCore (taskCq τ.word) = none →
    (s.endTask core 0).interruptPending core = false → s.NoWake →
    Completes (exec (.next core) s) fun t =>
      (t.hawk core).task = none ∧ (t.hawk core).waits = true ∧ t.rd (Reg.HWK_STAT_STATE core) = 1 ∧
      t.queue (taskCq τ.word) = s.queue (taskCq τ.word) ++
        [taskRecord τ.word 0 core ((s.time.elapsed - τ.start) / 1000) τ.overrun % 2 ^ 63] ∧
      (∀ k : Nat, k ≠ core.val → t.hawk k = s.hawk k) ∧ (∀ q : Nat, q ≠ taskCq τ.word → t.queue q = s.queue q) ∧
      Frame (fun o => (0x40000 + 0x1000 * core.val ≤ o ∧ o < 0x41000 + 0x1000 * core.val) ∨
          (0x60000 + 0x40 * taskCq τ.word ≤ o ∧ o < 0x60040 + 0x40 * taskCq τ.word) ∨ ReportReg o) s t
        { s with regs := t.regs, hawks := t.hawks, queues := t.queues, queuePops := t.queuePops, host := t.host, chy := t.chy, out := t.out }) ∧
  (∀ (q : Fin 32) (r : Nat × Nat) (s : State), s.isOff 0x04 = false → s.queueOn q = true → (s.queue q).length < 256 →
    s.tsk.records.find? (fun r => r.1 == q.val) = some r → s.NoWake →
    Completes (exec (.cqRecordPush q) s) fun t =>
      t.queue q = s.queue q ++ [r.2 % 2 ^ 63] ∧ t.tsk.records = s.tsk.records.erase r ∧
      (∀ j : Nat, j ≠ q.val → t.queue j = s.queue j) ∧
      Frame (fun o => (0x60000 + 0x40 * q.val ≤ o ∧ o < 0x60040 + 0x40 * q.val) ∨ ReportReg o) s t
        { s with regs := t.regs, tsk := { s.tsk with records := t.tsk.records }, queues := t.queues, queuePops := t.queuePops, host := t.host, chy := t.chy,
                 out := t.out }) ∧
  (∀ (q : Fin 32) (n : Fin 8) (rec_ : Nat) (s : State), s.isOff 0x04 = false → s.queueOn q = true → (s.queue q).length < 256 →
    s.tsk.records.find? (fun r => r.1 == q.val) = none → (s.hawk n).record = some (q.val, rec_) →
    (∀ m < n.val, (s.hawk m).record = none) → s.NoWake →
    Completes (exec (.cqRecordPush q) s) fun t =>
      t.queue q = s.queue q ++ [rec_ % 2 ^ 63] ∧ t.hawk n = { s.hawk n with record := none } ∧
      (∀ k : Nat, k ≠ n.val → t.hawk k = s.hawk k) ∧ (∀ j : Nat, j ≠ q.val → t.queue j = s.queue j) ∧
      Frame (fun o => (0x60000 + 0x40 * q.val ≤ o ∧ o < 0x60040 + 0x40 * q.val) ∨ ReportReg o) s t
        { s with regs := t.regs, hawks := t.hawks, queues := t.queues, queuePops := t.queuePops, host := t.host, chy := t.chy, out := t.out }) ∧
  (∀ (k : Fin 16) (n w : Nat) (rest : List Nat) (s : State), s.isOff 0x05 = false → s.readyOn k = true →
    s.readyQueue k = w :: rest → (∀ j < 16, k.val < j → s.readyQueue j = []) → s.headChoice k w = .core n →
    (∀ m < 64, (s.ring m).descs = []) →
    Completes (exec .taskDispatch s) fun t =>
      t.readyQueue k = rest ∧ (t.hawk n).task = some { word := withBits w 19 1 1, start := s.time.elapsed, overrun := false } ∧
      (t.hawk n).waits = false ∧ t.rd (Reg.HWK_STAT_STATE n) = 2 ∧
      t.rd (Reg.HWK_TASKS n) = satAdd 32 (s.rd (Reg.HWK_TASKS n)) 1 ∧
      t.rd (Reg.TSK_Q_DISPATCHED k) = satAdd 32 (s.rd (Reg.TSK_Q_DISPATCHED k)) 1 ∧
      t.out = s.out ++ [.coreLoad n 0x42000000 (withBits w 19 1 1)] ∧
      Frame (fun o => (0x50100 + 0x10 * k.val ≤ o ∧ o < 0x50110 + 0x10 * k.val) ∨ (0x40000 + 0x1000 * n ≤ o ∧ o < 0x41000 + 0x1000 * n))
        s t { s with regs := t.regs, tsk := t.tsk, hawks := t.hawks, out := t.out }) ∧
  (∀ (k : Fin 16) (r n w : Nat) (rest : List Nat) (s : State), s.isOff 0x05 = false → s.readyOn k = true →
    s.readyQueue k = w :: rest → tblGet s.tsk.affinity none (taskFunc w) = some r → (s.permitted w).contains r = true →
    s.coreFree r = false → (s.permitted w).find? s.coreFree = some n → (∀ j < 16, k.val < j → s.readyQueue j = []) →
    Completes (exec (.affinityWindowExpiry k) s) fun t =>
      (t.hawk n).task = some { word := withBits w 19 1 1, start := t.time.elapsed, overrun := false } ∧
      t.rd (Reg.HWK_STAT_STATE n) = 2 ∧ s.time.elapsed ≤ t.time.elapsed) ∧
  (∀ (core : Fin 8) (τ : TaskSt) (s : State), s.isOff 0x04 = false → (s.hawk core).task = some τ → taskBudget τ.word ≠ 0 →
    τ.overrun = false →
    Completes (exec (.taskOverrun core) s) fun t =>
      t.hawk core = { s.hawk core with task := some { τ with overrun := true } } ∧
      t.rd Reg.TSK_OVERRUN = satAdd 32 (s.rd Reg.TSK_OVERRUN) 1 ∧
      Frame (fun o => o = Reg.TSK_OVERRUN.off ∨ TimeReg o ∨ ReportReg o) s t
        { s with regs := t.regs, time := t.time, hawks := t.hawks, host := t.host, chy := t.chy, out := t.out }) ∧
  (∀ (core : Fin 8) (τ : TaskSt) (s : State), s.isOff 0x04 = false → (s.hawk core).task = some τ → taskCqEn τ.word = false →
    s.rd (Reg.HWK_WDOG core) ≠ 0 → s.flag (Reg.HWK_CTRL_ENABLE core) = true → s.arb.bursts = [] →
    s.lockOf (16 + core.val) = none →
    Completes (exec (.hwkWdog core) s) fun t =>
      (t.hawk core).task = none ∧ t.rd (Reg.HWK_STAT_STATE core) = 3 ∧ t.alive (16 + core.val) = true ∧
      (t.hawk core).pc = s.rd64 (Reg.HWK_BOOT_LO core) (Reg.HWK_BOOT_HI core) ∧ (t.hawk core).lines = [] ∧
      (∀ k : Nat, k ≠ core.val → t.hawk k = s.hawk k) ∧
      Frame (fun o => (0x40000 + 0x1000 * core.val ≤ o ∧ o < 0x41000 + 0x1000 * core.val) ∨ o = 0x3010C ∨ o = Reg.ARB_DISCARD.off ∨
        TimeReg o ∨
          ReportReg o) s t
        { s with regs := t.regs, time := t.time, hawks := t.hawks, arb := t.arb, host := t.host, chy := t.chy, out := t.out })

/-- The scheduler: an enable while quiescent starts it and its enabled queues; a disable, of the scheduler or of one ready queue, leaves
no task waiting there; an empty disabled queue, or the scheduler once nothing is left, is quiescent; TSK_POST queues its word and
completes with OK, waits while the queue is full, and completes with CANCELLED or BAD_PARAM otherwise (R164, R168, R174, R183). The
model's own choices that it meets: log 4. -/
def Obligations.SchedulerControl : Prop :=
  let all (o : Nat) : Prop := (0x50000 ≤ o ∧ o < 0x50200) ∨ (0x60000 ≤ o ∧ o < 0x60800) ∨ ReportReg o
  (∀ s : State, s.isOff 0x05 = false → s.flag Reg.TSK_STAT_QUIESCENT = true → s.flag Reg.TSK_CTRL_ENABLE = false →
    Completes (exec .tskEnable s) fun t =>
      t.flag Reg.TSK_CTRL_ENABLE = true ∧ t.flag Reg.TSK_STAT_QUIESCENT = false ∧
      (∀ k : Fin 16, t.flag (Reg.TSK_Q_STAT_QUIESCENT k) = (s.flag (Reg.TSK_Q_STAT_QUIESCENT k) && !s.flag (Reg.TSK_Q_CTRL k)) ∧
        t.rd (Reg.TSK_Q_STAT_FILL k) = s.rd (Reg.TSK_Q_STAT_FILL k)) ∧
      OnlyRegs (fun o => o = 0x50000 ∨ o = 0x50004 ∨ (0x50100 ≤ o ∧ o < 0x50200)) s t) ∧
  (∀ s : State, s.isOff 0x05 = false → s.flag Reg.TSK_CTRL_ENABLE = true → s.NoWake →
    Completes (exec .tskDisable s) fun t =>
      t.flag Reg.TSK_CTRL_ENABLE = false ∧ (∀ k < 16, t.readyQueue k = []) ∧
      (∀ n : Nat, t.hawk n = { s.hawk n with record := (t.hawk n).record }) ∧
      Frame all s t { s with regs := t.regs, tsk := t.tsk, hawks := t.hawks, queues := t.queues, queuePops := t.queuePops, host := t.host, chy := t.chy, out := t.out }) ∧
  (∀ (k : Fin 16) (s : State), s.isOff 0x05 = false → s.flag (Reg.TSK_Q_CTRL k) = true → s.NoWake →
    Completes (exec (.tskQDisable k) s) fun t =>
      t.flag (Reg.TSK_Q_CTRL k) = false ∧ t.readyQueue k = [] ∧ (∀ j : Fin 16, j ≠ k → t.readyQueue j = s.readyQueue j) ∧
      (∀ n : Nat, t.hawk n = { s.hawk n with record := (t.hawk n).record }) ∧
      Frame all s t { s with regs := t.regs, tsk := t.tsk, hawks := t.hawks, queues := t.queues, queuePops := t.queuePops, host := t.host, chy := t.chy, out := t.out }) ∧
  (∀ (k : Fin 16) (s : State), s.isOff 0x05 = false → s.readyOn k = false → s.readyQueue k = [] →
    s.flag (Reg.TSK_Q_STAT_QUIESCENT k) = false →
    Completes (exec (.tskQuiescent ⟨k, by omega⟩) s) fun t =>
      t.flag (Reg.TSK_Q_STAT_QUIESCENT k) = true ∧
      Frame (fun o => o = (Reg.TSK_Q_STAT_QUIESCENT k).off ∨ ReportReg o) s t
        { s with regs := t.regs, tsk := t.tsk, host := t.host, chy := t.chy, out := t.out }) ∧
  (∀ s : State, s.isOff 0x05 = false → s.flag Reg.TSK_CTRL_ENABLE = false → s.flag Reg.TSK_STAT_QUIESCENT = false →
    (∀ k < 16, s.readyQueue k = []) → (∀ c < 8, (s.hawk c).task = none) →
    Completes (exec (.tskQuiescent 16) s) fun t =>
      t.flag Reg.TSK_STAT_QUIESCENT = true ∧ RegsAndReports (· = Reg.TSK_STAT_QUIESCENT.off) s t) ∧
  (∀ (ring : Fin 64) (d : Desc) (s : State), s.Alone ring d → s.startedDesc ring 0x0501 = some d → d.reservedOk false 3 = true →
    d.w 0 < 16 →
    (let k := bitsOf (d.w 0) 0 4
     let w := d.w 1 + d.w 2 * 2 ^ 32
     (taskInvalid w = false → s.readyOn k = true → s.readyRoom k = true → Completes (exec (.tskPost ring) s) fun t =>
        CompletedWith s t ring d stOk ∧ t.readyQueue k = s.readyQueue k ++ [withBits (withBits w 18 1 0) 19 1 0] ∧
        Frame (fun o => o = (Reg.TSK_Q_STAT_FILL k).off ∨ ReportReg o) s t
          { s with regs := t.regs, tsk := t.tsk, host := t.host, out := t.out }) ∧
     (taskInvalid w = false → s.readyOn k = true → s.readyRoom k = false → Completes (exec (.tskPost ring) s) fun t =>
        (t.ring ring).descs = [{ d with phase := .held }] ∧ t.flag Reg.TSK_STAT_HELD = true ∧
        (∀ j : Fin 16, t.readyQueue j = s.readyQueue j)) ∧
     (taskInvalid w = false → s.readyOn k = false → Completes (exec (.tskPost ring) s) fun t =>
        CompletedWith s t ring d stCancelled ∧ OnlyReports s t) ∧
     (taskInvalid w = true → Completes (exec (.tskPost ring) s) fun t => CompletedWith s t ring d stBadParam ∧ OnlyReports s t)))

/-- The hardware queues: a pop by a core or by the host takes the head word and answers it with VALID, or the empty word; a push adds its
word behind the others and sets READY and FILL, is discarded and counted on a disabled queue, and overflows on a full one; NOTICE and XCNT
clear together; an enable acts only while quiescent, and a disable discards the words and counts them (R175-R182). -/
def Obligations.HardwareQueues : Prop :=
  let here (q o : Nat) : Prop := 0x60000 + 0x40 * q ≤ o ∧ o < 0x60040 + 0x40 * q
  let others (q : Nat) (s t : State) : Prop := ∀ j : Nat, j ≠ q → t.queue j = s.queue j
  (∀ (core : Fin 8) (q : Fin 30) (w : Nat) (rest : List Nat) (s : State), s.isOff 0x04 = false → s.coreRuns core = true →
    s.queue q = w :: rest →
    rest.length < 512 →
    Completes (exec (.queuePagePop core ⟨.load, BitVec.ofNat 64 (0x41000000 + 0x100 * q.val), 3, none⟩) s) fun t =>
      t.queue q = rest ∧ t.out = s.out ++ [.coreLoad core (0x41000000 + 0x100 * q.val) (w + 2 ^ 63)] ∧
      t.rd (Reg.QUE_LEVEL_FILL q) = rest.length ∧ others q s t ∧
      Frame (here q) s t { s with regs := t.regs, queues := t.queues, queuePops := t.queuePops, out := t.out }) ∧
  (∀ (core : Fin 8) (q : Fin 32) (s : State), s.isOff 0x04 = false → s.coreRuns core = true → s.queue q = [] →
    exec (.queuePagePop core ⟨.load, BitVec.ofNat 64 (0x41000000 + 0x100 * q.val), 3, none⟩) s =
      .next (s.emit (.coreLoad core (0x41000000 + 0x100 * q.val) (q.val * 2 ^ 56)))) ∧
  (∀ (q : Fin 30) (w : Nat) (rest : List Nat) (s : State), s.isOff 0x06 = false → s.queue q = w :: rest →
    Completes (exec (.queHostPop ⟨q, by omega⟩) s) fun t =>
      t.queue q = rest ∧ others q s t ∧ t.out = s.out ++ [.readData (0x60010 + 0x40 * q.val) (w % 2 ^ 32)] ∧
      tblGet t.latches none (0x60014 + 0x40 * q.val) = some (BitVec.ofNat 32 ((w + 2 ^ 63) / 2 ^ 32)) ∧
      Frame (here q) s t { s with regs := t.regs, queues := t.queues, queuePops := t.queuePops, latches := t.latches, out := t.out }) ∧
  (∀ (q : Fin 31) (word : BitVec 64) (hi : Word) (core : Fin 8) (s : State), s.isOff 0x04 = false → s.isOff 0x06 = false →
    s.coreRuns core = true → s.NoWake → s.tsk.records.find? (fun r => r.1 == q.val) = none → s.recordCore q = none →
    let pushed (a : Answer) (w : Nat) : Prop :=
      (s.queueOn q = true → (s.queue q).length < 256 → Completes a fun t =>
        t.queue q = s.queue q ++ [w % 2 ^ 63] ∧ others q s t ∧ t.rd (Reg.QUE_LEVEL_FILL q) = (s.queue q).length + 1 ∧
        t.flag (Reg.QUE_STAT_READY q) = readyOf (s.rd (Reg.QUE_CFG q)) (s.queue q ++ [w % 2 ^ 63]) ∧
        Frame (fun o => here q o ∨ ReportReg o) s t
          { s with regs := t.regs, queues := t.queues, queuePops := t.queuePops, host := t.host, chy := t.chy, out := t.out }) ∧
      (s.queueOn q = true → 256 ≤ (s.queue q).length → Completes a fun t =>
        t.queues = s.queues ∧ t.flag (Reg.QUE_STAT_OVERFLOW q) = true ∧
        t.rd (Reg.QUE_OVFCNT q) = satAdd 32 (s.rd (Reg.QUE_OVFCNT q)) 1 ∧ RegsAndReports (here q) s t) ∧
      (s.queueOn q = false → a = .next (s.count (Reg.QUE_DISCARD q) 1))
    pushed (exec (.queuePagePush core ⟨.store, BitVec.ofNat 64 (0x41000008 + 0x100 * q.val), 3, none⟩ word) s) word.toNat ∧
    pushed (exec (.queHostPush ⟨q, by omega⟩ hi) s) (s.rd (Reg.QUE_PUSH_LO q) + hi.toNat * 2 ^ 32)) ∧
  (∀ (q : Fin 32) (s : State), s.isOff 0x06 = false →
    Completes (exec (.queNoticeClear q) s) fun t =>
      t.flag (Reg.QUE_STAT_NOTICE q) = false ∧ t.rd (Reg.QUE_STAT_XCNT q) = 0 ∧
      t.flag (Reg.QUE_STAT_OVERFLOW q) = s.flag (Reg.QUE_STAT_OVERFLOW q) ∧ OnlyRegs (· = (Reg.QUE_STAT_NOTICE q).off) s t) ∧
  (∀ (q : Fin 32) (s : State), s.isOff 0x06 = false → q.val < 30 → s.flag (Reg.QUE_STAT_QUIESCENT q) = true →
    Completes (exec (.queEnable q) s) fun t =>
      t.flag (Reg.QUE_CTRL q) = true ∧ t.flag (Reg.QUE_STAT_QUIESCENT q) = false ∧ OnlyRegs (here q) s t) ∧
  (∀ (q : Fin 32) (s : State), s.isOff 0x06 = false → 30 ≤ q.val ∨ s.flag (Reg.QUE_STAT_QUIESCENT q) = false →
    exec (.queEnable q) s = .next s) ∧
  (∀ (q : Fin 32) (s : State), s.isOff 0x06 = false → q.val < 30 → s.flag (Reg.QUE_CTRL q) = true →
    Completes (exec (.queDisable q) s) fun t =>
      t.queue q = [] ∧ others q s t ∧ t.flag (Reg.QUE_CTRL q) = false ∧ t.flag (Reg.QUE_STAT_QUIESCENT q) = true ∧
      t.rd (Reg.QUE_DISCARD q) = satAdd 32 (s.rd (Reg.QUE_DISCARD q)) (s.queue q).length ∧
      Frame (here q) s t { s with regs := t.regs, queues := t.queues, queuePops := t.queuePops })

/-! ### Surfaces, tables and pipelines -/

/-- Surface descriptors and NEXT registers: a write to S7 commits the seven shadow words and itself, VALID only where it is asked for and
no check fails, and captures the first failing check; a NEXT register, an Imago base and XFADE take a value that their rule allows, and
ignore any other (R191, R201, R221, R235, R239, R244). -/
def Obligations.SurfacesAndTables : Prop :=
  let noted (off : Nat) (s t : State) : Prop :=
    Frame (· = off) s t { s with regs := t.regs, pix := { s.pix with nexts := t.pix.nexts } }
  (∀ (d : BitVec 10) (v : Word) (s : State), s.isOff 0x0A = false →
    Completes (exec (.surfCommit d v) s) fun t =>
      (let cause := if bitOf v.toNat 31 then surfaceCause (s.shadowWord d.toNat) v.toNat else 0
       (∀ k < 7, t.rd (Reg.PIX_SURF_W d.toNat k) = s.shadowWord d.toNat k % 2 ^ 32) ∧
       t.rd (Reg.PIX_SURF_S7_GEN d.toNat) = v.toNat % 2 ^ 16 ∧
       t.flag (Reg.PIX_SURF_S7_VALID d.toNat) = (bitOf v.toNat 31 && decide (cause = 0)) ∧
       (cause ≠ 0 → s.flag Reg.PIX_SURFERR_VALID = false →
         t.flag Reg.PIX_SURFERR_VALID = true ∧ t.rd Reg.PIX_SURFERR_INDEX = d.toNat ∧ t.rd Reg.PIX_SURFERR_CAUSE = cause) ∧
       RegsAndReports (fun o => (0xB0000 + 0x20 * d.toNat ≤ o ∧ o < 0xB0020 + 0x20 * d.toNat) ∨ (o = 0xA0020 ∧ cause ≠ 0)) s t)) ∧
  (∀ (v : Word) (s : State), s.isOff 0x0A = false →
    (ltabOk (v.toNat % 2 ^ 29) = true → Completes (exec (.pixLtabNextWrite v) s) fun t =>
      t.rd Reg.PIX_LTAB_NEXT_NEXT = v.toNat % 2 ^ 29 ∧ t.flag Reg.PIX_LTAB_NEXT_PEND = true ∧ noted 0xA000C s t) ∧
    (ltabOk (v.toNat % 2 ^ 29) = false → exec (.pixLtabNextWrite v) s = .next s)) ∧
  (∀ (v : Word) (s : State), s.isOff 0x0B = false →
    (ftabOk (v.toNat % 2 ^ 29) = true → Completes (exec (.sclFtabNextWrite v) s) fun t =>
      t.rd Reg.SCL_FTAB_NEXT_NEXT = v.toNat % 2 ^ 29 ∧ t.flag Reg.SCL_FTAB_NEXT_PEND = true ∧ noted 0xC0008 s t) ∧
    (ftabOk (v.toNat % 2 ^ 29) = false → exec (.sclFtabNextWrite v) s = .next s) ∧
    (lampOk (v.toNat % 2 ^ 29) = true → Completes (exec (.sclLampNextWrite v) s) fun t =>
      t.rd Reg.SCL_LAMP_NEXT_NEXT = v.toNat % 2 ^ 29 ∧ t.flag Reg.SCL_LAMP_NEXT_PEND = true ∧ noted 0xC0010 s t) ∧
    (lampOk (v.toNat % 2 ^ 29) = false → exec (.sclLampNextWrite v) s = .next s)) ∧
  (∀ (v : Word) (s : State), s.isOff 0x0C = false →
    (eptOk (v.toNat % 2 ^ 29) (s.rd Reg.EPT_COUNT_NEXT) = true → Completes (exec (.eptNextWrite v) s) fun t =>
      t.rd Reg.EPT_NEXT_NEXT = v.toNat % 2 ^ 29 ∧ t.flag Reg.EPT_NEXT_PEND = true ∧ noted 0xD0008 s t) ∧
    (eptOk (v.toNat % 2 ^ 29) (s.rd Reg.EPT_COUNT_NEXT) = false → exec (.eptNextWrite v) s = .next s)) ∧
  (∀ (second : Bool) (v : Word) (s : State), s.isOff 0x0B = false →
    (s.flag Reg.PIX_STAT_QUIESCENT = true → v.toNat % 256 = 0 → v.toNat % 2 ^ 29 < 0x1F800000 →
      Completes (exec (.sclImagoWrite second v) s) fun t =>
        t.rd (if second then Reg.SCL_IMAGO1 else Reg.SCL_IMAGO0) = v.toNat % 2 ^ 29 ∧
        OnlyRegs (· = (if second then 0xC0018 else 0xC0014)) s t) ∧
    (s.flag Reg.PIX_STAT_QUIESCENT = false ∨ v.toNat % 256 ≠ 0 ∨ 0x1F800000 ≤ v.toNat % 2 ^ 29 →
      exec (.sclImagoWrite second v) s = .next s)) ∧
  (∀ (v : BitVec 8) (s : State), s.isOff 0x0B = false →
    (v ≠ 0 → Completes (exec (.sclXfadeWrite v) s) fun t =>
      t.rd Reg.SCL_CTRL_XFADE = v.toNat ∧ OnlyRegs (· = Reg.SCL_CTRL_XFADE.off) s t) ∧
    (v = 0 → exec (.sclXfadeWrite v) s = .next s))

/-- The pipelines: an enable is taken while quiescent, a disable leaves no further composite, and with none in progress the pipelines are
quiescent; a pipeline composites up to 16 pixels of the endpoint at the cursor, which for an endpoint without a valid fixture type writes
zero drives and nothing else; with every entry walked the composite completes (R198, R213, R216, R218, R228). The model's own choices that
it meets: log 100. -/
def Obligations.PipelinesComposite : Prop :=
  (∀ s : State, s.isOff 0x0A = false →
    (s.flag Reg.PIX_STAT_QUIESCENT = true → Completes (exec .pixEnable s) fun t =>
      t.flag Reg.PIX_CTRL = true ∧ t.flag Reg.PIX_STAT_QUIESCENT = false ∧ t.pix = { s.pix with frontValid := false } ∧
      Frame (fun o => o = 0xA0000 ∨ o = 0xA0004) s t { s with regs := t.regs, pix := t.pix }) ∧
    (s.flag Reg.PIX_STAT_QUIESCENT = false → exec .pixEnable s = .next s) ∧
    (Completes (exec .pixDisable s) fun t => t.flag Reg.PIX_CTRL = false ∧ OnlyRegs (· = 0xA0000) s t) ∧
    (s.flag Reg.PIX_CTRL = false → s.flag Reg.PIX_STAT_QUIESCENT = false → s.pix.composite = none →
      Completes (exec .pixQuiescent s) fun t =>
        t.flag Reg.PIX_STAT_QUIESCENT = true ∧ RegsAndReports (· = 0xA0004) s t)) ∧
  (∀ (pipe : Fin 16) (stalls sclStalls : BitVec 16) (c : CompositeSt) (e : List Nat) (s : State), s.isOff 0x0A = false →
    s.pix.composite = some c → e = s.entryAt (s.rd Reg.EPT_BASE + 64 * c.ept) → c.pixel ≠ 0 → c.pixel < eptPixels e →
    (∀ l ∈ s.pix.layers, l = none) → bitOf (s.ftStat (eptFtype e / 32)) (eptFtype e % 32) = false → s.StoreSound →
    Completes (exec (.pixPiece pipe stalls sclStalls) s) fun t =>
      (let k := min 16 (eptPixels e - c.pixel)
       let base := s.imago (s.rd Reg.PIX_STAT_BUF) + eptIofs e + 8 * c.pixel
       t.pix = { s.pix with composite := some { c with
         ept := if c.pixel + k < eptPixels e then c.ept else c.ept + 1, pixel := if c.pixel + k < eptPixels e then c.pixel + k else 0,
         pixels := c.pixels + k, stalls := c.stalls + (stalls.toNat + sclStalls.toNat) } } ∧
       t.rd (Reg.PIX_PP_PIXELS pipe) = satAdd 32 (s.rd (Reg.PIX_PP_PIXELS pipe)) k ∧
       t.rd (Reg.PIX_PP_STALLS pipe) = satAdd 32 (s.rd (Reg.PIX_PP_STALLS pipe)) (stalls.toNat + sclStalls.toNat) ∧
       t.rd Reg.SCL_STALLS = satAdd 32 (s.rd Reg.SCL_STALLS) sclStalls.toNat ∧
       (∀ a, base ≤ a → a < base + 8 * k → t.byteAt a = 0) ∧ StoreKept (fun a => base ≤ a ∧ a < base + 8 * k) s t) ∧
      Frame (fun o => o = (Reg.PIX_PP_PIXELS pipe).off ∨ o = (Reg.PIX_PP_STALLS pipe).off ∨ o = Reg.SCL_STALLS.off ∨ GrantReg o) s t
        { s with regs := t.regs, pix := t.pix, store := { s.store with bytes := t.store.bytes } }) ∧
  (∀ (τ : BitVec 64) (c : CompositeSt) (s : State), s.isOff 0x0A = false → s.pix.composite = some c → s.rd Reg.EPT_COUNT ≤ c.ept →
    Completes (exec (.compositeComplete τ) s) fun t =>
      t.pix = { s.pix with composite := none } ∧ t.rd Reg.PIX_FRAMES = (s.rd Reg.PIX_FRAMES + 1) % 2 ^ 32 ∧
      t.rd Reg.PIX_LASTSTALL = c.stalls % 2 ^ 32 ∧ t.rd Reg.SCL_OVER = c.clamps % 2 ^ 32 ∧ t.flag Reg.PIX_STAT_BUSY = false ∧
      t.otu = { s.otu with frames := s.otu.frames.map (fun f => if f.number = c.frame then { f with phase := .complete } else f) } ∧
      Frame (fun o => o = 0xA0004 ∨ (0xA0010 ≤ o ∧ o < 0xA001C) ∨ o = Reg.SCL_OVER.off ∨ (0xA1000 ≤ o ∧ o < 0xA2000) ∨ TimeReg o) s t
        { s with regs := t.regs, time := t.time, pix := t.pix, otu := t.otu })

/-! ### Output timing -/

/-- The latch of a lone unit's running output: the next frame is latched with the instant of its predecessor's apex as its deadline,
commits due at the latch, which had arrived by its TIME cycle, have left the queue and the others stay; stated where the calendar has
nothing to offer before it (R326, R331, R332). Deadlines and apexes: a frame complete at its deadline is swapped and ends the run of
misses; one still being composited is missed, its composite stops and the front buffer stands; the apex of the oldest frame past its
deadline ends that frame, and the last one ends an output that is being disabled (R215, R327, R329, R338-R340). The model's own choices
that it meets: logs 3, 79, 80, 101, 106. -/
def Obligations.LatchDeadlinesAndApexes : Prop :=
  (∀ (l : Nat) (s : State), s.isOff 0x0E = false → s.rooState = 0 → s.roo.closing = none → s.nextLatch = some l →
    s.flag Reg.OTU_STAT_RUNNING = true → (∀ f ∈ s.otu.frames, f.waiting = true → l < f.deadline) → s.StoreSound →
    State.offerUpTo (s.until l).time.elapsed (s.cal.events.length + 1) s = s →
    Completes (exec .latch s) fun t =>
      t.otu.lastLatch = some l ∧ t.otu.next = s.otu.next + 1 ∧
      (∃ f : FrameSt, t.otu.frames = f :: s.otu.frames ∧ f.number = s.otu.next ∧ f.deadline = (s.otu.chain.headD (0, 0)).1) ∧
      t.otu.commits = s.otu.commits.filter (fun c => !c.dueAt l) ∧
      t.otu.chain.drop 1 = s.otu.chain.take 3 ∧ s.time.elapsed ≤ t.time.elapsed ∧
      t.gpis = s.gpis ∧ t.dmxs = s.dmxs ∧ t.flows = s.flows ∧ t.trk = s.trk ∧ t.ltc = s.ltc ∧ t.mscs = s.mscs ∧
      t.hawks = s.hawks ∧ t.l2 = s.l2 ∧ t.queues = s.queues ∧ t.jtag = s.jtag ∧ t.off = s.off) ∧
  ((∀ (f : FrameSt) (s : State), s.isOff 0x0E = false → s.otu.frames.reverse.find? (·.waiting) = some f →
    (∀ g ∈ s.otu.frames, g.waiting = false → f.deadline < g.apex) → s.flag Reg.EMI_CTRL_ENABLE = false →
    (f.phase = .complete → Completes (exec .deadlineSwap s) fun t =>
      t.rd Reg.PIX_STAT_BUF = 1 - s.rd Reg.PIX_STAT_BUF ∧ t.rd Reg.OTU_STAT_MISSRUN = 0 ∧ t.pix.frontValid = true ∧
      t.rd Reg.OTU_MISSED = s.rd Reg.OTU_MISSED ∧
      t.otu.frames = s.otu.frames.map (fun g => if g.number = f.number then
        { f with phase := .swapped, safe := t.flag Reg.OTU_STAT_SAFE } else g)) ∧
    (f.phase = .compositing → s.flag Reg.OTU_CTRL_DEMOTE_EN = false → Completes (exec .deadlineSwap s) fun t =>
      t.rd Reg.PIX_STAT_BUF = s.rd Reg.PIX_STAT_BUF ∧ t.rd Reg.OTU_MISSED = satAdd 32 (s.rd Reg.OTU_MISSED) 1 ∧
      t.rd Reg.OTU_STAT_MISSRUN = satAdd 8 (s.rd Reg.OTU_STAT_MISSRUN) 1 ∧ (∀ c, t.pix.composite = some c → c.frame ≠ f.number) ∧
      t.otu.frames = s.otu.frames.map (fun g => if g.number = f.number then
        { f with phase := .missed, safe := t.flag Reg.OTU_STAT_SAFE } else g))) ∧
  (∀ (f : FrameSt) (s : State), s.isOff 0x0E = false → s.otu.frames.reverse.find? (fun f => !f.waiting) = some f →
    (∀ l, s.nextLatch = some l → f.apex ≤ l) → s.emi.frames = [] → s.StoreSound →
    Completes (exec .apex s) fun t =>
      t.otu.frames = s.otu.frames.filter (fun g => g.number != f.number) ∧ t.otu.lastApex = some f.apex ∧
      (s.otu.stopping = true → s.otu.frames = [f] →
        t.flag Reg.OTU_STAT_RUNNING = false ∧ t.flag Reg.OTU_STAT_QUIESCENT = true ∧ t.otu.chain = [] ∧ t.otu.stopping = false) ∧
      StoreKept (fun a => s.flag Reg.THM_CTRL_NODE_EN = true ∧ 0x1FC00000 ≤ a ∧ a < 0x1FC10000) s t ∧
      Frame (fun o => o = 0xF0004 ∨ TimeReg o ∨ ReportReg o ∨ GrantReg o) s t
        { s with regs := t.regs, time := t.time, otu := t.otu, store := { s.store with bytes := t.store.bytes }, host := t.host,
                 chy := t.chy, out := t.out, fresh := t.fresh }))

/-- Output control: an enable while quiescent makes OTU_SEL's record current and takes a_0 from its context at least 100 µs ahead; a
disable discards and counts the queued commits; OTU_SWITCH with GO queues a MODE commit that arrives now; SAFE_N is filtered for
OTU_SAFEFLT µs, and SAFE_CLR clears the latched request only while the filtered pin is released; a gradual correction moves by at most
STEP ns (R328, R329, R334, R343, R345, R486). The model's own choices that it meets: logs 3, 62, 79. -/
def Obligations.OutputControl : Prop :=
  (∀ s : State, s.isOff 0x0E = false → s.flag Reg.OTU_CTRL_ENABLE = false → s.flag Reg.OTU_STAT_QUIESCENT = true →
    Completes (exec .otuEnable s) fun t =>
      (let b := s.boundaryFrom (s.modeCtx (s.rd Reg.OTU_SEL)) ((s.now : Int) + 100000 - s.modePhase (s.rd Reg.OTU_SEL))
       t.otu.chain = [((b.1 + s.modePhase (s.rd Reg.OTU_SEL)).toNat, b.2)]) ∧
      t.flag Reg.OTU_CTRL_ENABLE = true ∧ t.flag Reg.OTU_STAT_QUIESCENT = false ∧ t.rd Reg.OTU_STAT_MODE = s.rd Reg.OTU_SEL ∧
      t.otu.frames = [] ∧ t.otu.next = 0 ∧ t.flag Reg.OTU_STAT_RUNNING = s.flag Reg.OTU_STAT_RUNNING ∧
      Frame (fun o => o = 0xF0000 ∨ o = 0xF0004) s t { s with regs := t.regs, otu := t.otu }) ∧
  (∀ s : State, s.isOff 0x0E = false → s.flag Reg.OTU_CTRL_ENABLE = true →
    Completes (exec .otuDisable s) fun t =>
      t.flag Reg.OTU_CTRL_ENABLE = false ∧ t.rd Reg.OTU_CDISC = satAdd 32 (s.rd Reg.OTU_CDISC) s.otu.commits.length ∧
      t.otu = { s.otu with commits := [], stopping := true } ∧
      Frame (fun o => o = 0xF0000 ∨ o = Reg.OTU_CDISC.off) s t { s with regs := t.regs, otu := t.otu }) ∧
  (∀ (r : BitVec 2) (s : State), s.isOff 0x0E = false → s.cueMode = .lone →
    (s.flag Reg.OTU_CTRL_ENABLE = true →
      Completes (exec (.otuSwitchGo r) s) fun t =>
        (∃ c : CommitSt, t.otu = { s.otu with commits := s.otu.commits ++ [c] } ∧ commitTarget c.word = 5 ∧
          commitAux c.word = r.toNat ∧ commitOk c.word = true ∧ c.arrival = s.now ∧
          c.sched = ((max s.now ((s.otu.lastLatch.map (· + 1)).getD 0) : Nat) : Int)) ∧
        Frame (fun _ => False) s t { s with otu := t.otu }) ∧
    (s.flag Reg.OTU_CTRL_ENABLE = false → exec (.otuSwitchGo r) s = .next (s.count Reg.OTU_CDISC 1))) ∧
  (∀ (level : Bool) (τ : BitVec 64) (s : State), s.isOff 0x0E = false → s.otu.safePin ≠ level →
    Completes (exec (.safeNChange level τ) s) fun t =>
      t.otu = { s.otu with safePin := level, safeSince := some t.now } ∧
      Frame TimeReg s t { s with regs := t.regs, time := t.time, otu := t.otu }) ∧
  (∀ (t0 : Nat) (s : State), s.isOff 0x0E = false → s.otu.safeSince = some t0 →
    Completes (exec .safeFilterExpiry s) fun t =>
      t.otu = { s.otu with safeSince := none, safeFiltered := s.otu.safePin,
                           safeLatched := s.otu.safeLatched ||
                             (s.otu.safePin && !s.otu.safeFiltered && s.flag Reg.OTU_CTRL_SAFE_LATCH) } ∧
      t.flag Reg.OTU_STAT_SAFE_REQ = (t.otu.safeFiltered || s.flag Reg.OTU_CTRL_SAFE_FORCE || t.otu.safeLatched) ∧
      Frame (fun o => o = 0xF0004 ∨ TimeReg o) s t { s with regs := t.regs, time := t.time, otu := t.otu }) ∧
  (∀ s : State, s.isOff 0x0E = false →
    (s.otu.safeFiltered = false → Completes (exec .safeClr s) fun t =>
      t.otu = { s.otu with safeLatched := false } ∧ t.flag Reg.OTU_STAT_SAFE_REQ = s.flag Reg.OTU_CTRL_SAFE_FORCE ∧
      Frame (· = 0xF0004) s t { s with regs := t.regs, otu := t.otu }) ∧
    (s.otu.safeFiltered = true → exec .safeClr s = .next s)) ∧
  (∀ (d : Nat) (s : State), s.selfCal.next = some d → s.flag Reg.OTU_STAT_RUNNING = false → s.selfCal.whole = false →
    largestDelta (s.selfCal.deltas.map (deltaLeft false (s.rd Reg.CAL_SC_CTRL_STEP))) ≠ 0 →
    Completes (exec .gradualStep s) fun t =>
      t.selfCal.deltas = s.selfCal.deltas.map (deltaLeft false (s.rd Reg.CAL_SC_CTRL_STEP)) ∧
      t.rd Reg.CAL_SC_REMAIN = largestDelta t.selfCal.deltas % 2 ^ Reg.CAL_SC_REMAIN.width ∧
      t.selfCal.next = some (t.time.elapsed + 1000000) ∧
      Frame (fun o => o = Reg.CAL_SC_REMAIN.off ∨ TimeReg o) s t { s with regs := t.regs, time := t.time, selfCal := t.selfCal })

/-! ### Emission -/

/-- Emission: at F_N EMI_FRAME takes the frame's F and a pending unmuting takes effect; the packer writes the next packet whole into the
frame's half of the packet buffer and nowhere else; a packed packet is handed to its port once; a disable leaves only frames in emission;
with none left the engine is quiescent, and a segment's disable and its terminations act on it alone (R248, R251-R253, R257, R278, R279,
R418). The model's own choices that it meets: logs 3, 23, 101. -/
def Obligations.EmissionOfFrames : Prop :=
  (∀ (x : EmiFrameSt) (s : State), s.isOff 0x0E = false → s.emi.frames.find? (fun x => !x.launched) = some x →
    s.flag Reg.EMI_CTRL_ENABLE = true → (∀ w ∈ x.wings, w.training = false) →
    (s.rd Reg.STO_STAT_DIE_LOST ≠ 0 → Completes (exec .firstLaunch s) fun t =>
      t.rd Reg.EMI_FRAME = x.f % 2 ^ 32 ∧ t.emi = { s.emi with frames := s.emi.frames.filter (fun y => y.f != x.f) } ∧
      Frame (fun o => o = Reg.EMI_FRAME.off ∨ TimeReg o) s t { s with regs := t.regs, time := t.time, emi := t.emi }) ∧
    (s.rd Reg.STO_STAT_DIE_LOST = 0 → Completes (exec .firstLaunch s) fun t =>
      t.rd Reg.EMI_FRAME = x.f % 2 ^ 32 ∧
      t.flag Reg.ROO_STAT_MUTED = (s.flag Reg.ROO_STAT_MUTED && !s.roo.unmuteWaits) ∧ t.roo.unmuteWaits = false ∧
      (∀ y ∈ t.emi.frames, y.f = x.f → y.launched = true) ∧ t.emi.stopping = [] ∧
      Frame (fun o => o = Reg.EMI_FRAME.off ∨ o = Reg.ROO_STAT_MUTED.off ∨ TimeReg o) s t
        { s with regs := t.regs, time := t.time, emi := t.emi, roo := t.roo })) ∧
  (∀ (τ : BitVec 64) (x : EmiFrameSt) (q : PacketSt) (s u : State), s.isOff 0x0D = false → u = s.until τ.toNat → u.emi.frames = [x] →
    u.now < x.frame.apex → x.launched = false → x.packets.find? (fun p => p.packed.isNone) = some q → u.StoreSound →
    x.used + (u.packetBytes x q false).length ≤ u.rd Reg.EMI_PKT_LEN →
    Completes (exec (.packetPacked τ) s) fun t =>
      (let b := u.packetBytes x q false
       let at_ := u.packHalf x + x.used
       t.bytesAt at_ b.length = b ∧ StoreKept (fun a => at_ ≤ a ∧ a < at_ + b.length) s t ∧
       ∃ y : EmiFrameSt, t.emi.frames = [y] ∧ y.used = x.used + b.length ∧
         ∃ p ∈ y.packets, p.kind = q.kind ∧ p.packed = some (at_, b.length)) ∧
      Frame (fun o => o = Reg.EMI_LATCLAMP.off ∨ TimeReg o ∨ ReportReg o ∨ GrantReg o) s t
        { s with regs := t.regs, time := t.time, emi := t.emi, roo := t.roo, store := { s.store with bytes := t.store.bytes },
                 host := t.host, chy := t.chy, out := t.out }) ∧
  (∀ (x : EmiFrameSt) (q : PacketSt) (seg a n : Nat) (kind : TxKind) (express : Bool) (s : State), s.isOff 0x0D = false →
    s.emi.frames.find? (fun x => x.launched && x.nextNet.isSome) = some x → x.nextNet = some q → q.net = some (seg, kind, express) →
    q.packed = some (a, n) → s.StoreSound →
    Completes (exec (.packetLaunch .net) s) fun t =>
      t.emi = { s.emi with frames := s.emi.frames.map (fun y => if y.f = x.f then x.drop q else y) } ∧
      (s.flag Reg.ROO_STAT_MUTED = true → t.macs = s.macs) ∧
      Frame (fun o => (0x140000 ≤ o ∧ o < 0x168000) ∨ TimeReg o ∨ ReportReg o ∨ GrantReg o) s t
        { s with regs := t.regs, time := t.time, emi := t.emi, macs := t.macs, host := t.host, chy := t.chy, out := t.out }) ∧
  (∀ s : State, s.isOff 0x0D = false →
    (Completes (exec .emiDisable s) fun t =>
      t.flag Reg.EMI_CTRL_ENABLE = false ∧ t.emi.frames = s.emi.frames.filter (·.launched) ∧
      Frame (· = 0xE0000) s t { s with regs := t.regs, emi := t.emi }) ∧
    (s.flag Reg.EMI_CTRL_ENABLE = false → s.flag Reg.EMI_STAT = false → s.emi.frames = [] → s.emi.terms = [] →
      Completes (exec .emiQuiescent s) fun t => t.flag Reg.EMI_STAT = true ∧ RegsAndReports (· = Reg.EMI_STAT.off) s t) ∧
    (∀ g : Fin 64, Completes (exec (.segDisable g) s) fun t =>
      t.flag (Reg.EMI_SEG_CTRL_ENABLE g) = false ∧
      t.emi = { s.emi with stopping := t.emi.stopping } ∧
      t.emi.stopping = (if s.flag (Reg.EMI_SEG_CTRL_ENABLE g) && s.flag Reg.EMI_CTRL_ENABLE then insertNat g s.emi.stopping
        else s.emi.stopping) ∧
      Frame (· = (Reg.EMI_SEG_CTRL_ENABLE g).off) s t { s with regs := t.regs, emi := t.emi })) ∧
  (∀ (d : TermSt) (ds : List TermSt) (s : State), s.isOff 0x0D = false → s.emi.terms = d :: ds →
    Completes (exec .terminatePacket s) fun t =>
      t.emi = { s.emi with terms := if d.left ≤ 1 then ds else ds ++ [{ d with left := d.left - 1, at_ := t.time.elapsed + 1000000 }] } ∧
      Frame (fun o => (0x140000 ≤ o ∧ o < 0x168000) ∨ TimeReg o ∨ ReportReg o) s t
        { s with regs := t.regs, time := t.time, emi := t.emi, macs := t.macs, host := t.host, chy := t.chy, out := t.out })

/-- Discovery on segments: universe discovery repeats every 10 s and an APT poll every POLL ms with the next sequence number; an echo goes
to a present node that asks for it; a REPLY or ECHO_RSP that is not well formed is counted, one that belongs to no poll or request changes
nothing, a REPLY marks the entry it matches present, and an echo sample, from the request's departure on the LAN of the response's first
copy, is filtered into the node's MEAS (R255, R260, R263, R267-R269, R375). The model's own choices that it meets: logs 3, 102. -/
def Obligations.SegmentDiscovery : Prop :=
  let sent (s t : State) : Prop :=
    Frame (fun o => (0x140000 ≤ o ∧ o < 0x168000) ∨ TimeReg o ∨ ReportReg o ∨ GrantReg o) s t
      { s with regs := t.regs, time := t.time, emi := t.emi, macs := t.macs, host := t.host, chy := t.chy, out := t.out }
  (∀ (g : Fin 64) (s : State), s.isOff 0x0D = false → s.flag Reg.EMI_CTRL_UDISC = true → s.flag Reg.EMI_CTRL_ENABLE = true →
    s.segLive g = true →
    Completes (exec (.sacnUdisc g) s) fun t =>
      tblGet t.emi.udisc 0 g = t.time.elapsed + 10000000000 ∧ t.emi.frames = s.emi.frames ∧ t.emi.univs = s.emi.univs ∧ sent s t) ∧
  (∀ (g : Fin 64) (s : State), s.isOff 0x0D = false → s.flag Reg.EMI_CTRL_ENABLE = true → s.segLive g = true →
    s.rd (Reg.EMI_SEG_POLL g) ≠ 0 → s.rd (Reg.EMI_SEG_APT_GROUP g) ≠ 0 → (s.pollOf g).polls = 0 →
    Completes (exec (.aptPoll g) s) fun t =>
      t.pollOf g = { s.pollOf g with polls := 1, next := some (t.time.elapsed + s.rd (Reg.EMI_SEG_POLL g) * 1000000), replied := [] } ∧
      sent s t) ∧
  (∀ (n : BitVec 12) (a : List Nat) (s : State), s.isOff 0x0D = false → s.StoreSound → a = s.entryAt (s.nodeAt n.toNat) →
    s.flag Reg.EMI_CTRL_ENABLE = true → s.segLive (nodeSeg a) = true → nodeValid a = true →
    nodeEchoEn a = true → nodeState a = 1 →
    Completes (exec (.aptEchoReq n) s) fun t =>
      (t.pollOf (nodeSeg a)).echoes = (s.pollOf (nodeSeg a)).echoes + 1 ∧
      t.emi.echoes = s.emi.echoes.filter (fun e => e.node != n.toNat) ++
        [{ seg := nodeSeg a, seq := (s.pollOf (nodeSeg a)).echoes % 2 ^ 32, node := n.toNat, sentA := none, sentB := none }] ∧ sent s t) ∧
  (∀ (g : Fin 64) (ip : BitVec 32) (mac : BitVec 48) (data : Bytes) (lanB : Bool) (t4 : BitVec 64) (s : State), s.isOff 0x0D = false →
    (aptCheck data 4 20 = .ignored → exec (.aptReplyRx g ip mac data) s = .next s) ∧
    (aptCheck data 4 20 = .bad → exec (.aptReplyRx g ip mac data) s = .next (s.count Reg.EMI_APT_RXBAD 1)) ∧
    (aptCheck data 6 0 = .ignored → exec (.aptEchoRspRx g data lanB t4) s = .next s) ∧
    (aptCheck data 6 0 = .bad → exec (.aptEchoRspRx g data lanB t4) s = .next (s.count Reg.EMI_APT_RXBAD 1))) ∧
  (∀ (g : Fin 64) (ip : BitVec 32) (mac : BitVec 48) (data : Bytes) (n : Nat) (s : State), s.isOff 0x0D = false → s.StoreSound →
    aptCheck data 4 20 = .ok → (s.pollOf g).polls ≠ 0 → aptField data 4 4 = ((s.pollOf g).polls - 1) % 2 ^ 32 →
    s.replyMatches g ip.toNat (aptField data 20 2) (aptField data 32 8) = [n] → nodeBind (s.entryAt (s.nodeAt n)) = false →
    Completes (exec (.aptReplyRx g ip mac data) s) fun t =>
      (let b := t.entryAt (t.nodeAt n)
       nodeState b = 1 ∧ nodeMisses b = 0 ∧ nodeWord b 10 = aptField data 44 4 ∧ nodeWord b 12 = s.now32) ∧
      (t.pollOf g).replied = insertNat n (s.pollOf g).replied ∧
      StoreKept (fun a => s.nodeAt n + 32 ≤ a ∧ a < s.nodeAt n + 52) s t ∧
      Frame (fun o => ReportReg o ∨ GrantReg o) s t
        { s with regs := t.regs, emi := t.emi, store := { s.store with bytes := t.store.bytes }, host := t.host, chy := t.chy,
                 out := t.out }) ∧
  (∀ (g : Fin 64) (data : Bytes) (lanB : Bool) (t1 : Nat) (t4 : BitVec 64) (e : EchoSt) (s : State), s.isOff 0x0D = false → s.StoreSound →
    aptCheck data 6 0 = .ok → s.emi.echoes.find? (fun e => e.seg == g.val && e.seq == aptField data 4 4) = some e →
    (let a := s.entryAt (s.nodeAt e.node)
     let d := t4.toNat - t1
     nodeValid a = true → (if lanB then e.sentB else e.sentA) = some t1 → d ≤ 10000000 → aptField data 12 8 < d →
     Completes (exec (.aptEchoRspRx g data lanB t4) s) fun t =>
      (let b := t.entryAt (t.nodeAt e.node)
       nodeWord b 11 = low 32 (filteredMeas (nodeLatOk a) (nodeWord a 11) ((d - aptField data 12 8) / 2 : Nat)) ∧ nodeLatOk b = true) ∧
      t.emi.echoes = s.emi.echoes.filter (fun y => y != e) ∧
      StoreKept (fun x => s.nodeAt e.node + 32 ≤ x ∧ x < s.nodeAt e.node + 48) s t ∧
      Frame GrantReg s t { s with regs := t.regs, emi := t.emi, store := { s.store with bytes := t.store.bytes } }))

/-! ### DMX and RDM -/

/-- DMX ports: at its break instant a port sends its frame's packet, or skips it to make a gap for RDM; a DMX_RDM joins the port's queue,
or completes with why it cannot; a disable leaves nothing that is not in progress, and the port is quiescent once its line is free
(R271-R274, R280). The model's own choices that it meets: logs 3, 63, 104. -/
def Obligations.DmxPackets : Prop :=
  (∀ (p : Fin 8) (x : EmiFrameSt) (q : PacketSt) (a n : Nat) (s : State), s.isOff 0x14 = false → s.dmxPacket p.val = some (x, q) →
    q.packed = some (a, n) → s.flag Reg.ROO_STAT_MUTED = false → s.flag (Reg.DMX_CTRL_ENABLE p) = true →
    ((s.dmx p).skip = false → (s.dmx p).waits = none → (s.dmx p).free ≤ (s.until q.launch).now → s.padsCut = false → s.StoreSound →
      Completes (exec (.dmxBreak p none) s) fun t =>
        t.out = s.out ++ (if (s.dmx p).driven then [] else [.pin "DMX_DE" p true]) ++
          [.dmx p (s.rd (Reg.DMX_TIMING_BREAK p)) (s.rd (Reg.DMX_TIMING_MAB p)) (s.bytesAt a n)] ∧ (t.dmx p).driven = true ∧
        (t.dmx p).lastBreak = some (s.until q.launch).now ∧ t.rd Reg.EMI_SENT = (s.rd Reg.EMI_SENT + 1) % 2 ^ 32 ∧
        t.emi.frames = s.emi.frames.map (fun y => if y.f = x.f then x.drop q else y) ∧
        Frame (fun o => o = (Reg.DMX_STAT_SLOTS p).off ∨ o = Reg.EMI_SENT.off ∨ TimeReg o ∨ GrantReg o) s t
          { s with regs := t.regs, time := t.time, emi := t.emi, dmxs := t.dmxs, out := t.out }) ∧
    ((s.dmx p).skip = true → Completes (exec (.dmxBreak p none) s) fun t =>
        t.out = s.out ∧ (t.dmx p) = { s.dmx p with skip := false } ∧ t.rd (Reg.DMX_SKIP p) = satAdd 32 (s.rd (Reg.DMX_SKIP p)) 1 ∧
        Frame (fun o => o = (Reg.DMX_SKIP p).off ∨ TimeReg o) s t
          { s with regs := t.regs, time := t.time, emi := t.emi, dmxs := t.dmxs })) ∧
  (∀ (ring : Fin 64) (data : Bytes) (err : Bool) (d : Desc) (s : State), s.startedDesc ring 0x1401 = some d →
    (let p := s.ringInst ring
     (err = false → rdmParamsOk d data = true → s.flag (Reg.DMX_CTRL_ENABLE p) = true → Completes (exec (.dmxRdm ring data err) s) fun t =>
        (t.dmx p).queue = (s.dmx p).queue ++ [{ ring := ring, index := d.index, data := data.take (bitsOf (d.w 0) 0 8),
                                                retries := bitsOf (d.w 0) 8 4, begun := false }] ∧
        t.out = s.out ++ [.hostRead d.addr 512] ∧
        Frame (fun _ => False) s t { s with dmxs := t.dmxs, host := t.host, out := t.out }) ∧
     (s.Alone ring d → (err = true ∨ rdmParamsOk d data = false ∨ s.flag (Reg.DMX_CTRL_ENABLE p) = false) →
       Completes (exec (.dmxRdm ring data err) s) fun t =>
         CompletedWith s t ring d (if err then stBadAddr else if rdmParamsOk d data then stCancelled else stBadParam) ∧
         OnlyReports s t))) ∧
  (∀ (p : Fin 8) (s : State), s.isOff 0x14 = false → (∀ r ∈ (s.dmx p).queue, r.ring < 64) →
    (∀ x ∈ (s.dmx p).disc, ∀ r, x.desc = some r → r.1 < 64) →
    Completes (exec (.dmxDisable p) s) fun t =>
      t.flag (Reg.DMX_CTRL_ENABLE p) = false ∧ (t.dmx p).skip = false ∧
      ((s.dmx p).waits = none → (t.dmx p).queue = [] ∧ (t.dmx p).disc = []) ∧
      Frame (fun o => o = (Reg.DMX_CTRL_ENABLE p).off ∨ ReportReg o) s t
        { s with regs := t.regs, dmxs := t.dmxs, host := t.host, chy := t.chy, out := t.out }) ∧
  (∀ (p : Fin 8) (s : State), s.isOff 0x14 = false → s.flag (Reg.DMX_CTRL_ENABLE p) = false →
    s.flag (Reg.DMX_STAT_QUIESCENT p) = false → (s.dmx p).waits = none →
    Completes (exec (.dmxQuiescent p) s) fun t =>
      t.flag (Reg.DMX_STAT_QUIESCENT p) = true ∧ t.dmx p = { s.dmx p with driven := false } ∧
      ((s.dmx p).driven = true → s.padsCut = false → .pin "DMX_DE" p false ∈ t.out) ∧
      Frame (fun o => o = (Reg.DMX_STAT_QUIESCENT p).off ∨ TimeReg o ∨ ReportReg o) s t
        { s with regs := t.regs, time := t.time, dmxs := t.dmxs, host := t.host, chy := t.chy, out := t.out })

/-- RDM: the request at the head of a port's queue leaves in a gap and awaits its response; a valid response completes it with the bytes
at the host buffer's upper half, a timeout is counted and repeats it while retries are left; a transaction that has waited RDMWAIT makes
the port skip a packet; a full and an incremental discovery join the port's list (R273, R274, R276). The model's own choices that it
meets: logs 3, 25, 104. -/
def Obligations.RdmTransactions : Prop :=
  (∀ (p : Fin 8) (τ : BitVec 64) (r : RdmReqSt) (rest : List RdmReqSt) (s u : State), u = s.until τ.toNat → s.isOff 0x14 = false →
    s.flag (Reg.DMX_CTRL_ENABLE p) = true → (s.dmx p).queue = r :: rest → u.rdmGap p r.data.length = true →
    (byteNat r.data 20 = 0x30 → r.begun = false → u.holdsRoles = true) → rdmBroadcast r.data = false → s.padsCut = false →
    Completes (exec (.rdmTransactionStart p false τ) s) fun t =>
      t.out = s.out ++ (if (s.dmx p).driven then [] else [.pin "DMX_DE" p true]) ++
        [.dmx p (s.rd (Reg.DMX_TIMING_BREAK p)) (s.rd (Reg.DMX_TIMING_MAB p)) (rdmWire r.data), .pin "DMX_DE" p false] ∧
      (t.dmx p).waits = some .rdm ∧ (t.dmx p).queue = r :: rest ∧
      Frame TimeReg s t { s with regs := t.regs, time := t.time, dmxs := t.dmxs, out := t.out }) ∧
  (∀ (p : Fin 8) (data : Bytes) (τ : BitVec 64) (r : RdmReqSt) (rest : List RdmReqSt) (ring : Fin 64) (d : Desc) (s : State),
    s.isOff 0x14 = false → (s.dmx p).waits = some .rdm → (s.dmx p).queue = r :: rest → r.ring = ring.val → r.index = d.index →
    s.Alone ring d → 26 ≤ data.length → rdmSum (data.take (data.length - 2)) = beNat (data.drop (data.length - 2)) →
    (data.drop 9).take 6 = (r.data.drop 3).take 6 → (data.drop 3).take 6 = (r.data.drop 9).take 6 →
    byteNat data 15 = byteNat r.data 15 →
    Completes (exec (.rdmResponseRx p data false τ) s) fun t =>
      CompletedWith s t ring d stOk ∧ .hostData (d.addr + 512) data (s.flag Reg.HST_CTRL && s.host.relaxed) ∈ t.out ∧
        (t.dmx p).waits = none ∧ (t.dmx p).queue = rest ∧
      Frame (fun o => TimeReg o ∨ ReportReg o) s t
        { s with regs := t.regs, time := t.time, dmxs := t.dmxs, host := t.host, out := t.out }) ∧
  (∀ (p : Fin 8) (r : RdmReqSt) (rest : List RdmReqSt) (s : State), s.isOff 0x14 = false → (s.dmx p).waits = some .rdm →
    (s.dmx p).queue = r :: rest → 0 < r.retries → s.flag (Reg.DMX_CTRL_ENABLE p) = true →
    Completes (exec (.rdmTimeout p) s) fun t =>
      (t.dmx p).queue = { r with retries := r.retries - 1, begun := true } :: rest ∧ (t.dmx p).waits = none ∧
      t.rd (Reg.DMX_RDMTO p) = satAdd 32 (s.rd (Reg.DMX_RDMTO p)) 1 ∧
      Frame (fun o => o = (Reg.DMX_RDMTO p).off ∨ TimeReg o) s t { s with regs := t.regs, time := t.time, dmxs := t.dmxs }) ∧
  (∀ (p : Fin 8) (d : Nat) (s : State), s.isOff 0x14 = false → (s.dmx p).since = some d →
    Completes (exec (.rdmwaitExpiry p) s) fun t =>
      t.dmx p = { s.dmx p with skip := true, since := some t.time.elapsed } ∧
      Frame TimeReg s t { s with regs := t.regs, time := t.time, dmxs := t.dmxs }) ∧
  (∀ (ring : Fin 64) (d : Desc) (s : State), s.startedDesc ring 0x1402 = some d →
    (d.reservedOk false 0 = true → s.flag (Reg.DMX_CTRL_ENABLE (s.ringInst ring)) = true →
      Completes (exec (.dmxDiscover ring) s) fun t =>
        (t.dmx (s.ringInst ring)).disc = (s.dmx (s.ringInst ring)).disc ++
          [{ desc := some (ring.val, d.index), unmute := true, known := [], ranges := [(0, 2 ^ 48 - 2)], found := none, fresh := 0 }] ∧
        Frame (fun _ => False) s t { s with dmxs := t.dmxs, host := t.host }) ∧
    (s.Alone ring d → (d.reservedOk false 0 = false ∨ s.flag (Reg.DMX_CTRL_ENABLE (s.ringInst ring)) = false) →
      Completes (exec (.dmxDiscover ring) s) fun t =>
        CompletedWith s t ring d (if d.reservedOk false 0 then stCancelled else stBadParam) ∧ OnlyReports s t)) ∧
  (∀ (p : Fin 8) (s : State), s.isOff 0x14 = false → s.flag (Reg.DMX_CTRL_ENABLE p) = true → s.flag (Reg.DMX_CTRL_DISC_EN p) = true →
    Completes (exec (.dmxIncrementalDiscovery p) s) fun t =>
      (t.dmx p).disc = (s.dmx p).disc ++ [{ desc := none, unmute := false, known := s.presentUids p, ranges := [(0, 2 ^ 48 - 2)],
                                            found := none, fresh := 0 }] ∧
      (t.dmx p).nextDisc = some (t.time.elapsed + s.rd (Reg.DMX_DISC p) * 1000000000) ∧
      Frame TimeReg s t { s with regs := t.regs, time := t.time, dmxs := t.dmxs })

/-! ### Wingbeat -/

/-- A port's frame schedule: a TICK after 4,125 symbol times, no DATA frame of the port left past its cut-off, and one LATCH per frame
with F as PARAM; a SCAN that is due leaves once; a written profile is valid exactly when no check of R311 fails (R289, R295, R307, R309,
R311). The model's own choices that it meets: logs 3, 102. -/
def Obligations.WingbeatSchedule : Prop :=
  (∀ (p : Fin 16) (s : State), s.isOff 0x0F = false → s.flag (Reg.WNG_CTRL_ENABLE p) = true →
    Completes (exec (.wbTick p) s) fun t =>
      t.out = s.out ++ [.wing p (wireFrame (wingBytes (wingH0 8 0 true false false (s.wingDir p)) 0 0 0 [0, 0, 0, 0] false))] ∧
      t.rd (Reg.WNG_TXFRAMES p) = (s.rd (Reg.WNG_TXFRAMES p) + 1) % 2 ^ 32 ∧ (t.wing p).last = some t.time.elapsed ∧
      Frame (fun o => o = (Reg.WNG_TXFRAMES p).off ∨ TimeReg o) s t
        { s with regs := t.regs, time := t.time, wings := t.wings, out := t.out }) ∧
  (∀ (p : Fin 16) (x : EmiFrameSt) (w : WingFrameSt) (s : State), s.isOff 0x0F = false → s.latchFrame p.val = some (x, w) →
    Completes (exec (.wbDataCutoff p) s) fun t =>
      (∀ y ∈ t.emi.frames, y.f = x.f → ∀ q ∈ y.packets, ∀ n k, q.kind ≠ .wing p n k) ∧ t.wings = s.wings ∧
      Frame (fun o => o = (Reg.WNG_LATEDATA p).off ∨ TimeReg o ∨ ReportReg o) s t
        { s with regs := t.regs, time := t.time, emi := t.emi, roo := t.roo, host := t.host, chy := t.chy, out := t.out }) ∧
  (∀ (p : Fin 16) (x : EmiFrameSt) (w : WingFrameSt) (s : State), s.isOff 0x0F = false → s.latchFrame p.val = some (x, w) →
    (∀ q ∈ x.packets, ∀ n k, q.kind ≠ .wing p n k) → s.flag (Reg.WNG_CTRL_ENABLE p) = true → s.flag Reg.ROO_STAT_MUTED = false →
    w.training = false →
    Completes (exec (.wbLatchSend p) s) fun t =>
      t.out = s.out ++ [.wing p (wireFrame (wingBytes (wingH0 2 0 true w.rep w.stale (s.wingDir p)) 0 (frameSeq x.f 1023) x.f
        [0, 0, 0, 0] false))] ∧
      t.rd (Reg.WNG_LATCHES p) = (s.rd (Reg.WNG_LATCHES p) + 1) % 2 ^ 32 ∧
      (∀ y ∈ t.emi.frames, y.f = x.f → ∀ v ∈ y.wings, v.port = p.val → v.latched = true) ∧
      Frame (fun o => o = (Reg.WNG_LATCHES p).off ∨ o = (Reg.WNG_TXFRAMES p).off ∨ TimeReg o) s t
        { s with regs := t.regs, time := t.time, emi := t.emi, roo := t.roo, wings := t.wings, out := t.out }) ∧
  (∀ (p : Fin 16) (n : BitVec 8) (r : List Nat) (s : State), s.isOff 0x0F = false → s.StoreSound →
    r = (List.range 8).map (fun i => s.word32At (s.wingRec p n.toNat + 4 * i)) → recValid r = true →
    s.flag (Reg.WNG_PROF_CFG_VALID p (recProfile r)) = true → (s.wing p).scanDue.contains n.toNat = true →
    s.flag (Reg.WNG_CTRL_ENABLE p) = true → s.flag Reg.ROO_STAT_MUTED = false → (s.wingFree p).wingClosed = false →
    Completes (exec (.wbScanSend p n) s) fun t =>
      (t.wing p).scanDue = (s.wing p).scanDue.filter (· != n.toNat) ∧
      t.rd (Reg.WNG_TXFRAMES p) = (s.rd (Reg.WNG_TXFRAMES p) + 1) % 2 ^ 32 ∧
      Frame (fun o => o = (Reg.WNG_TXFRAMES p).off ∨ TimeReg o ∨ GrantReg o) s t
        { s with regs := t.regs, time := t.time, wings := t.wings, out := t.out }) ∧
  (∀ (p : Fin 16) (k : Fin 8) (write : Option (Fin 6 × Word)) (s u : State), s.isOff 0x0F = false → s.StoreSound →
    u = (match write with
      | some (j, v) => s.loadReg (0x100100 + 0x4000 * p.val + 0x20 * k.val + 4 * j.val) v.toNat
      | none => s) →
    Completes (exec (.wbProfileWrite p k write) s) fun t =>
      t.flag (Reg.WNG_PROF_CFG_VALID p k) = decide (u.profileCause p k u.outPeriod = 0) ∧
      t.rd (Reg.WNG_PROF_SLOT_RS p k) = min (u.profileRs p k u.outPeriod) 65535 ∧
      Frame (fun o => (0x100100 + 0x4000 * p.val + 0x20 * k.val ≤ o ∧ o < 0x100120 + 0x4000 * p.val + 0x20 * k.val) ∨ ReportReg o ∨
        GrantReg o) s t
        { s with regs := t.regs, wings := t.wings, host := t.host, chy := t.chy, out := t.out })

/-- Requests of a port: a STATUS poll and an echo leave with the port's next tag and await their replies; a check goes out every ENUMPER
ms; a reply answers exactly the request of its node, kind and tag, an echo's loading or filtering DELAY; a request without its reply
counts in RSPMISS (R303-R305, R316). The model's own choices that it meets: logs 3, 102. -/
def Obligations.WingbeatRequests : Prop :=
  (∀ (p : Fin 16) (n : BitVec 8) (r : List Nat) (s : State), s.isOff 0x0F = false → s.StoreSound →
    r = (List.range 8).map (fun i => s.word32At (s.wingRec p n.toNat + 4 * i)) → recValid r = true →
    s.flag (Reg.WNG_CTRL_ENABLE p) = true →
    let req (kind : Nat) (t : State) : Prop :=
      (∃ q : WingReqSt, (t.wing p).reqs = (s.wing p).reqs ++ [q] ∧ q.node = n.toNat ∧ q.kind = kind ∧ q.tag = (s.wing p).tag ∧
        q.query = none) ∧ (t.wing p).tag = ((s.wing p).tag + 1) % 256 ∧
      t.rd (Reg.WNG_TXFRAMES p) = (s.rd (Reg.WNG_TXFRAMES p) + 1) % 2 ^ 32 ∧
      Frame (fun o => o = (Reg.WNG_TXFRAMES p).off ∨ TimeReg o ∨ GrantReg o) s t
        { s with regs := t.regs, time := t.time, wings := t.wings, out := t.out }
    (s.flag (Reg.WNG_CTRL_POLL_EN p) = true →
      ((s.untilElapsed (tblGet (s.wing p).nextStat 0 n.toNat)).wingFree p).wingClosed = false →
      Completes (exec (.wbStatusPoll p n) s) (req 2)) ∧
    (s.flag (Reg.WNG_CTRL_ECHO_EN p) = true → recState r = 1 →
      ((s.untilElapsed (tblGet (s.wing p).nextEcho 0 n.toNat)).wingFree p).wingClosed = false →
      Completes (exec (.wbEcho p n) s) (req 4))) ∧
  (∀ (p : Fin 16) (s : State), s.isOff 0x0F = false → s.rd (Reg.WNG_CTRL_END p) = 0 → s.flag (Reg.WNG_CTRL_AUTOENUM p) = true →
    s.flag (Reg.WNG_CTRL_ENABLE p) = true → s.flag Reg.ROO_STAT_MUTED = false →
    ((s.untilElapsed ((s.wing p).nextEnum.getD 0)).wingFree p).wingClosed = false →
    Completes (exec (.wbEnumCheck p) s) fun t =>
      (t.wing p).nextEnum = some (t.time.elapsed + s.rd (Reg.WNG_TMO_ENUMPER p) * 1000000) ∧
      t.out = s.out ++ [.wing p (wireFrame (wingBytes (wingH0 7 0 true false false 0) 0 0 0 [0, 1, 0, 0] false))] ∧
      Frame (fun o => o = (Reg.WNG_TXFRAMES p).off ∨ TimeReg o) s t
        { s with regs := t.regs, time := t.time, wings := t.wings, out := t.out }) ∧
  (∀ (p : Fin 16) (r : WingRsp) (q : WingReqSt) (s : State), s.isOff 0x0F = false → s.StoreSound →
    (s.wing p).reqs.find? (fun q => q.node == r.node.toNat && q.kind == r.kind.toNat && q.tag == r.tag.toNat) = some q →
    q.query = none → r.kind = 4 → r.rt.toNat ≤ s.rd (Reg.WNG_TMO_RSPTO p) * 10000 →
    Completes (exec (.wbRspRx p r) s) fun t =>
      (let rec_ (s : State) := (List.range 8).map (fun i => s.word32At (s.wingRec p r.node.toNat + 4 * i))
       recLatOk (rec_ t) = true ∧ recWord (rec_ t) 7 = s.now32 ∧
       recWord (rec_ t) 4 = low 32 (filteredMeas (recLatOk (rec_ s)) (recWord (rec_ s) 4) (((r.rt.toNat - 800) / 20 : Nat) : Int))) ∧
      (t.wing p).reqs = (s.wing p).reqs.filter
        (fun q => !(q.node == r.node.toNat && q.kind == r.kind.toNat && q.tag == r.tag.toNat)) ∧
      StoreKept (fun a => s.wingRec p r.node.toNat + 2 ≤ a ∧ a < s.wingRec p r.node.toNat + 32) s t ∧
      Frame GrantReg s t { s with regs := t.regs, wings := t.wings, store := { s.store with bytes := t.store.bytes } }) ∧
  (∀ (p : Fin 16) (q : WingReqSt) (rest : List WingReqSt) (s : State), s.isOff 0x0F = false → (s.wing p).enums = [] →
    (s.wing p).reqs = q :: rest → q.query = none → q.kind ≠ 2 →
    Completes (exec (.wbRspTimeout p) s) fun t =>
      t.wing p = { s.wing p with reqs := rest } ∧ t.rd (Reg.WNG_RSPMISS p) = satAdd 32 (s.rd (Reg.WNG_RSPMISS p)) 1 ∧
      Frame (fun o => o = (Reg.WNG_RSPMISS p).off ∨ TimeReg o) s t { s with regs := t.regs, time := t.time, wings := t.wings }) ∧
  (∀ (p : Fin 16) (first : WireGroup) (groups : List WireGroup) (s : State), s.isOff 0x0F = false →
    (wireBody ((first :: groups).take 4117) = none → exec (.wbPortRx p first groups) s = .next (s.count (Reg.WNG_RXBAD p) 1)) ∧
    (∀ data, wireBody ((first :: groups).take 4117) = some data →
      (wingCheck (s.wingDir p) data = .bad → exec (.wbPortRx p first groups) s = .next (s.count (Reg.WNG_RXBAD p) 1)) ∧
      (wingCheck (s.wingDir p) data = .used → exec (.wbPortRx p first groups) s = .next (s.countMod (Reg.WNG_RXFRAMES p) 1)) ∧
      (wingCheck (s.wingDir p) data = .other → Completes (exec (.wbPortRx p first groups) s) fun t =>
        t.flag (Reg.WNG_STAT_LOOP p) = true ∧ t.rd (Reg.WNG_RXFRAMES p) = (s.rd (Reg.WNG_RXFRAMES p) + 1) % 2 ^ 32 ∧
        OnlyRegs (fun o => o = (Reg.WNG_STAT_LOOP p).off ∨ o = (Reg.WNG_RXFRAMES p).off) s t))) ∧
  (∀ (p : Fin 16) (lock : Bool) (s : State), s.isOff 0x0F = false → s.flag (Reg.WNG_STAT_RXLOCK p) = !lock →
    Completes (exec (.wbLink p lock) s) fun t =>
      t.flag (Reg.WNG_STAT_RXLOCK p) = lock ∧ RegsAndReports (· = (Reg.WNG_STAT_RXLOCK p).off) s t)

/-- The opcodes of a Wingbeat ring and the end of a port: WNG_ENUM and WNG_QUERY send their frame and wait, WNG_SEND sends its frame and
completes with OK; each completes with BAD_PARAM, CANCELLED, BAD_ADDR or NOT_END_A where its rule says so; a disabled port is quiescent once
its frame is out and nothing is left to complete (R319-R321). -/
def Obligations.WingbeatOpcodes : Prop :=
  (∀ (ring : Fin 64) (d : Desc) (s : State), s.isOff 0x0F = false → s.startedDesc ring 0x0F01 = some d →
    (let p := s.ringInst ring
     let ok := d.reservedOk false 3 && bitsOf (d.w 0) 0 2 != 3 && bitsOf (d.w 0) 2 6 == 0 && bitsOf (d.w 0) 16 16 == 0
     (ok = true → s.flag (Reg.WNG_CTRL_ENABLE p) = true → s.rd (Reg.WNG_CTRL_END p) = 0 → s.flag Reg.ROO_STAT_MUTED = false →
       (s.wingFree p).wingClosed = false → Completes (exec (.wngEnum ring) s) fun t =>
        (∃ e : WingEnumSt, (t.wing p).enums = (s.wing p).enums ++ [e] ∧ e.ring = ring.val ∧ e.index = d.index ∧ e.replies = 0) ∧
        t.out = s.out ++ [.wing p (wireFrame (wingBytes (wingH0 7 0 true false false 0) 0 0 0
          [bitsOf (d.w 0) 8 8, bitsOf (d.w 0) 0 2, (d.w 1 + d.w 2 * 2 ^ 32) % 2 ^ 32, (d.w 1 + d.w 2 * 2 ^ 32) / 2 ^ 32] false))] ∧
        Frame (fun o => o = (Reg.WNG_TXFRAMES p).off ∨ TimeReg o) s t
          { s with regs := t.regs, time := t.time, wings := t.wings, host := t.host, out := t.out }) ∧
     (s.Alone ring d → (ok = false ∨ s.flag (Reg.WNG_CTRL_ENABLE p) = false ∨ s.rd (Reg.WNG_CTRL_END p) = 1) →
       Completes (exec (.wngEnum ring) s) fun t =>
        CompletedWith s t ring d (if !ok then stBadParam else if s.flag (Reg.WNG_CTRL_ENABLE p) then 0x0F41 else stCancelled) ∧
        OnlyReports s t))) ∧
  (∀ (ring : Fin 64) (data : Bytes) (err : Bool) (d : Desc) (s : State), s.isOff 0x0F = false → s.Alone ring d →
    s.startedDesc ring 0x0F02 = some d →
    (let p := s.ringInst ring
     (sendWordsOk d = true → s.flag (Reg.WNG_CTRL_ENABLE p) = true → err = false → s.flag Reg.ROO_STAT_MUTED = false →
       (s.wingFree p).wingClosed = false → Completes (exec (.wngSend ring data err) s) fun t =>
        CompletedWith s t ring d stOk ∧ (∃ b : List WireGroup, .wing p b ∈ t.out) ∧
        Frame (fun o => o = (Reg.WNG_TXFRAMES p).off ∨ TimeReg o ∨ ReportReg o) s t
          { s with regs := t.regs, time := t.time, wings := t.wings, host := t.host, out := t.out }) ∧
     ((sendWordsOk d = false ∨ s.flag (Reg.WNG_CTRL_ENABLE p) = false ∨ err = true) → Completes (exec (.wngSend ring data err) s) fun t =>
        CompletedWith s t ring d (if !sendWordsOk d then stBadParam else if s.flag (Reg.WNG_CTRL_ENABLE p) then stBadAddr
          else stCancelled) ∧ OnlyReports s t))) ∧
  (∀ (ring : Fin 64) (d : Desc) (s : State), s.isOff 0x0F = false → s.startedDesc ring 0x0F03 = some d →
    (let p := s.ringInst ring
     let kind := bitsOf (d.w 0) 8 4
     let ok := d.reservedOk true 2 && d.w 0 / 2 ^ 12 == 0 && replyWords d != 0 && decide (4 * replyWords d ≤ d.len)
     (ok = true → s.flag (Reg.WNG_CTRL_ENABLE p) = true → s.flag Reg.ROO_STAT_MUTED = false → (s.wingFree p).wingClosed = false →
       Completes (exec (.wngQuery ring) s) fun t =>
        (∃ q : WingReqSt, (t.wing p).reqs = (s.wing p).reqs ++ [q] ∧ q.node = bitsOf (d.w 0) 0 8 ∧ q.kind = kind ∧
          q.query = some (ring.val, d.index)) ∧
        Frame (fun o => o = (Reg.WNG_TXFRAMES p).off ∨ TimeReg o) s t
          { s with regs := t.regs, time := t.time, wings := t.wings, host := t.host, out := t.out }) ∧
     (s.Alone ring d → (ok = false ∨ s.flag (Reg.WNG_CTRL_ENABLE p) = false) → Completes (exec (.wngQuery ring) s) fun t =>
        CompletedWith s t ring d (if ok then stCancelled else stBadParam) ∧ OnlyReports s t))) ∧
  (∀ (p : Fin 16) (s : State), s.isOff 0x0F = false → s.selfCal.run = none → s.flag (Reg.WNG_CTRL_ENABLE p) = true →
    Completes (exec (.wbDisable p) s) fun t =>
      t.flag (Reg.WNG_CTRL_ENABLE p) = false ∧ t.emi = (s.discardWing p).emi ∧
      (∀ x ∈ t.emi.frames, (∀ q ∈ x.packets, q.onWing p = false) ∧ ∀ w ∈ x.wings, w.port ≠ p.val) ∧
      Frame (fun o => o = (Reg.WNG_CTRL_ENABLE p).off ∨ ReportReg o) s t
        { s with regs := t.regs, emi := t.emi, host := t.host, chy := t.chy, out := t.out }) ∧
  (∀ (p : Fin 16) (s : State), s.isOff 0x0F = false → s.flag (Reg.WNG_CTRL_ENABLE p) = false →
    s.flag (Reg.WNG_STAT_QUIESCENT p) = false → (s.wing p).enums = [] → (∀ q ∈ (s.wing p).reqs, q.query = none) →
    Completes (exec (.wbQuiescent p) s) fun t =>
      t.flag (Reg.WNG_STAT_QUIESCENT p) = true ∧ t.wing p = { s.wing p with reqs := [], scanDue := [], last := none } ∧
      Frame (fun o => o = (Reg.WNG_STAT_QUIESCENT p).off ∨ TimeReg o ∨ ReportReg o) s t
        { s with regs := t.regs, time := t.time, wings := t.wings, host := t.host, chy := t.chy, out := t.out })

/-! ### Ethernet and Silk ports -/

/-- A good untagged-or-tagged frame that no block claims enters its port's receive FIFO whole, with its length and timestamp, and counts;
one with a bad FCS or shorter than 64 bytes counts and goes no further; a posted buffer waits, takes the frame at the FIFO's head and
completes; a received PAUSE's hold ends at its time, and a PAUSE is repeated while the fill stands high (R348, R356, R357, R359, R364,
R365, R381). The model's own choices that it meets: logs 3, 34, 71. -/
def Obligations.PortsReceive : Prop :=
  let counts (p : Fin 10) (o : Nat) : Prop := (0x140800 + 0x4000 * p.val ≤ o ∧ o < 0x140A00 + 0x4000 * p.val) ∨ TimeReg o ∨ ReportReg o
  let counted (p : Fin 10) (k : Nat) (s t : State) : Prop := t.rd64 (Reg.MAC_CNT_LO p k) (Reg.MAC_CNT_HI p k) =
    (s.rd64 (Reg.MAC_CNT_LO p k) (Reg.MAC_CNT_HI p k) + 1) % 2 ^ 32
  (∀ (p : Fin 10) (data plain : Bytes) (τ : BitVec 64) (icvOk : Bool) (s : State), s.isOff 0x10 = false →
    s.flag (Reg.MAC_CTRL_ENABLE p) = true → 60 ≤ data.length → data.length + 4 ≤ s.rd (Reg.MAC_MAXFRAME p) + 4 * tagCount data →
    s.macFill p + data.length + 4 ≤ 262144 → p.val < 8 → s.pairOn (p / 2) = false → s.flag (Reg.MSC_CTRL_RX_EN p) = false →
    etherType data ≠ 0x8808 → s.vlanDrops p data = false → s.addressOk p data = true → s.claimOf p data = 0 →
    s.flag (Reg.HST_RING_CTRL (s.rd (Reg.MAC_CTRL_RXRING p))) = true → s.flag (Reg.MAC_CTRL_STRIP p) = false →
    s.flag (Reg.MAC_CTRL_PAUSE_TX p) = false →
    Completes (exec (.macRxFrame p data plain 0 true true true icvOk τ) s) fun t =>
      t.mac p = { s.mac p with rx := s.takeClaimed ((s.mac p).rx ++ [
        { bytes := data, length := data.length + 4, time := low 32 ((t.macTime p : Int) - sext 16 (s.rd (Reg.MAC_TSADJ_RX p))), an := none,
          prp := false, lanB := false, tci := none, claim := 0 }]) } ∧ counted p 0 s t ∧
      Frame (counts p) s t { s with regs := t.regs, time := t.time, macs := t.macs, host := t.host, chy := t.chy, out := t.out }) ∧
  (∀ (p : Fin 10) (data plain : Bytes) (τ : BitVec 64) (fcsOk fragOk icvOk : Bool) (s : State), s.isOff 0x10 = false →
    s.flag (Reg.MAC_CTRL_ENABLE p) = true → 8 ≤ p.val ∨ s.pairOn (p / 2) = false → data.length < 60 ∨
      (data.length + 4 ≤ s.rd (Reg.MAC_MAXFRAME p) + 46 ∧
      s.macFill p + data.length + 4 ≤ 262144 ∧ fcsOk = false) →
    Completes (exec (.macRxFrame p data plain 0 true fcsOk fragOk icvOk τ) s) fun t =>
      counted p (if data.length < 60 then 13 else 15) s t ∧
      Frame (counts p) s t { s with regs := t.regs, time := t.time, host := t.host, chy := t.chy, out := t.out }) ∧
  (∀ (p : Fin 10) (data plain : Bytes) (τ : BitVec 64) (fragOk icvOk : Bool) (s : State), s.isOff 0x10 = false →
    s.flag (Reg.MAC_CTRL_ENABLE p) = true → 8 ≤ p.val ∨ s.pairOn (p / 2) = false → 60 ≤ data.length →
    data.length + 4 ≤ s.rd (Reg.MAC_MAXFRAME p) + 46 → s.macFill p + data.length + 4 ≤ 262144 →
    Completes (exec (.macRxFrame p data plain 1 true true fragOk icvOk τ) s) fun t =>
      t.out = s.out ++ [.mpacket p smdRespond none (List.replicate 60 0) false] ∧
      Frame TimeReg s t { s with regs := t.regs, time := t.time, out := t.out }) ∧
  (∀ (p : Fin 10) (h : Nat) (s : State), s.isOff 0x10 = false → (s.mac p).holdUntil = some h →
    Completes (exec (.pauseHoldExpiry p) s) fun t =>
      t.mac p = { s.mac p with holdUntil := none } ∧ h ≤ t.time.elapsed ∧
      Frame TimeReg s t { s with regs := t.regs, time := t.time, macs := t.macs }) ∧
  (∀ (p : Fin 8) (s : State), s.isOff 0x10 = false → (s.mac p).pauseHigh = true → s.flag (Reg.MAC_CTRL_PAUSE_TX p) = true →
    Completes (exec (.pauseRefresh p) s) fun t =>
      t.mac p = { s.mac p with pause := some (s.rd (Reg.MAC_PAUSE p)),
                               pauseAt := (s.mac p).pauseAt + s.quantaTime p (s.rd (Reg.MAC_PAUSE p)) / 2 } ∧
      Frame TimeReg s t { s with regs := t.regs, time := t.time, macs := t.macs }) ∧
  (∀ (ring : Fin 64) (d : Desc) (s : State), s.Alone ring d → s.startedDesc ring 0x1001 = some d →
    let p := s.ringInst ring
    let ok : Prop := p < 8 ∧ s.rd (Reg.MAC_CTRL_RXRING p) = ring.val ∧ d.reservedOk true 0 = true ∧ d.len % 64 = 0 ∧ 256 ≤ d.len ∧
      d.len ≤ 65536
    (ok → s.flag (Reg.MAC_CTRL_ENABLE p) = true → Completes (exec (.macRxbuf ring) s) fun t =>
      (t.ring ring).descs = [{ d with phase := .working }] ∧ Frame (fun _ => False) s t { s with host := t.host }) ∧
    (ok → s.flag (Reg.MAC_CTRL_ENABLE p) = false → Completes (exec (.macRxbuf ring) s) fun t =>
      CompletedWith s t ring d stCancelled ∧ OnlyReports s t) ∧
    (¬ ok → Completes (exec (.macRxbuf ring) s) fun t => CompletedWith s t ring d stBadParam ∧ OnlyReports s t)) ∧
  (∀ (p : Fin 10) (ring : Nat) (f : RxFrame) (d : Desc) (s : State), s.isOff 0x10 = false → (s.mac p).rx = [f] → f.claim = 0 →
    p.val < 8 → ring = s.rd (Reg.MAC_CTRL_RXRING (s.portOf p)) → s.Alone ring d → d.phase = .working → d.opcode = 0x1001 →
      f.bytes.length ≤ d.len →
    s.flag (Reg.MAC_CTRL_PAUSE_TX p) = false →
    Completes (exec (.macRxDeliver p) s) fun t =>
      CompletedWith s t ring d stOk ∧ .hostData d.addr f.bytes (s.flag Reg.HST_CTRL && s.host.relaxed) ∈ t.out ∧
      t.mac p = { s.mac p with rx := [] } ∧
      Frame ReportReg s t { s with regs := t.regs, macs := t.macs, host := t.host, out := t.out })

/-- A host frame of one descriptor joins its port's queue, or completes with why it cannot; a free wire takes the frame that waits, which
leaves as it is and counts in EMI_SENT where it is the emission engine's, and a pending PAUSE goes before it; the link's state,
preemption's verification and PRP's supervision frames and table follow R350, R362, R372 and R374; a wake pattern's match is reported
(R352, R355, R361, R365, R380). The model's own choices that it meets: logs 3, 36, 37, 69, 70, 72, 73. -/
def Obligations.PortsSend : Prop :=
  let counts (p : Fin 10) (o : Nat) : Prop := (0x140800 + 0x4000 * p.val ≤ o ∧ o < 0x140A00 + 0x4000 * p.val) ∨ TimeReg o ∨ ReportReg o
  (∀ (ring : Fin 64) (data : Bytes) (err : Bool) (d : Desc) (s : State), s.Alone ring d → s.startedDesc ring 0x1002 = some d →
    d.index < 65536 →
    let p := s.ringInst ring
    let ok : Prop := p < 8 ∧ s.rd (Reg.MAC_CTRL_RXRING p) ≠ ring.val ∧ 14 ≤ d.len ∧ macTxFieldsOk true [d] = true
    (¬ ok → Completes (exec (.macTx ring data err) s) fun t => CompletedWith s t ring d stBadParam ∧ OnlyReports s t) ∧
    (ok → s.pairOn (p / 2) = false →
      (s.flag (Reg.MAC_CTRL_ENABLE p) = false →
        Completes (exec (.macTx ring data err) s) fun t => CompletedWith s t ring d stCancelled ∧ OnlyReports s t) ∧
      (s.flag (Reg.MAC_CTRL_ENABLE p) = true → s.flag (Reg.MAC_STAT_LINK p) = false →
        Completes (exec (.macTx ring data err) s) fun t => CompletedWith s t ring d 0x1042 ∧ OnlyReports s t) ∧
      (s.isOff 0x10 = false → s.flag (Reg.MAC_CTRL_ENABLE p) = true → s.flag (Reg.MAC_STAT_LINK p) = true → err = false →
        data.length = d.len → bitOf (d.w 0) 16 = false → data.length + 4 ≤ s.rd (Reg.MAC_MAXFRAME p) + 4 * tagCount data →
        Completes (exec (.macTx ring data err) s) fun t =>
          (t.mac p).tx = (s.mac p).tx ++ [
            { kind := .host ring d.index 1 (bitOf (d.w 0) 17), bytes := data, express := bitOf (d.w 0) 18, launch := some (s.planeTime p),
              tci := none, prpSeq := none, poison := false, done := none }] ∧
          (t.ring ring).descs = [{ d with phase := .working }] ∧ t.out = s.out ++ [.hostRead d.addr d.len] ∧
          Frame (fun _ => False) s t { s with macs := t.macs, host := t.host, out := t.out }))) ∧
  (∀ (p : Fin 10) (f : TxFrame) (s u : State), s.isOff 0x10 = false → s.flag (Reg.MAC_CTRL_ENABLE p) = true →
    s.flag (Reg.MAC_STAT_LINK p) = true → s.flag (Reg.MAC_STAT_PREEMPT p) = false → (s.mac p).pause = none →
    (s.mac p).holdUntil = none → (s.mac p).cut = none → (s.mac p).tx = [f] → u = s.untilElapsed (s.mac p).wireUntil →
    f.at_ ≤ u.planeTime p → (∀ r a n b, f.kind ≠ .host r a n b) → (∀ r, f.kind ≠ .roost r) → f.kind ≠ .ptpEvent → f.kind ≠ .ptpOneStep →
      f.tci = none → f.prpSeq = none →
    (∀ g q, f.kind ≠ .echo g q) → 8 ≤ p.val ∨ s.flag (Reg.MSC_CTRL_TX_EN p) = false → 60 ≤ f.bytes.length →
    f.bytes.length + 4 ≤ s.rd (Reg.MAC_MAXFRAME p) + 4 * tagCount f.bytes →
    Completes (exec (.macTxSelect p) s) fun t =>
      .frame p f.bytes f.poison ∈ t.out ∧ (t.mac p).tx = [] ∧
      (t.mac p).wireUntil = u.time.elapsed + ((f.bytes.length + 24) * s.byteTime p + 999) / 1000 ∧
      t.rd64 (Reg.MAC_CNT_LO p 24) (Reg.MAC_CNT_HI p 24) =
        (s.rd64 (Reg.MAC_CNT_LO p 24) (Reg.MAC_CNT_HI p 24) + 1) % 2 ^ 32 ∧
      (f.emission = none → t.emi = s.emi ∧ RegsKept (counts p) s t) ∧
      (∀ e, f.emission = some e → t.rd Reg.EMI_SENT = (s.rd Reg.EMI_SENT + b2n e.counts) % 2 ^ 32) ∧
      Frame (fun o => counts p o ∨ (0xE0000 ≤ o ∧ o < 0xE2000)) s t
        { s with regs := t.regs, time := t.time, macs := t.macs, emi := t.emi, host := t.host, chy := t.chy, out := t.out }) ∧
  (∀ (p : Fin 10) (q : Nat) (s : State), s.isOff 0x10 = false → s.flag (Reg.MAC_CTRL_ENABLE p) = true →
    s.flag (Reg.MAC_STAT_LINK p) = true → (s.mac p).cut = none → (s.mac p).pause = some q →
    Completes (exec (.macTxSelect p) s) fun t =>
      .frame p (s.pauseFrame p q) false ∈ t.out ∧ (t.mac p).pause = none ∧ (t.mac p).tx = (s.mac p).tx ∧
      Frame (counts p) s t { s with regs := t.regs, time := t.time, macs := t.macs, host := t.host, chy := t.chy, out := t.out }) ∧
  (∀ (p : Fin 10) (up : Bool) (s : State), s.isOff 0x10 = false → s.flag (Reg.MAC_STAT_LINK p) = !up →
    s.flag (Reg.MAC_PREEMPT_EN p) = false → s.flag (Reg.MAC_STAT_PREEMPT p) = false → (s.mac p).tx = [] →
    Completes (exec (.macLink p up) s) fun t =>
      t.flag (Reg.MAC_STAT_LINK p) = up ∧ t.mac p = { s.mac p with nextVerify := none, cut := if up then (s.mac p).cut else none } ∧
      Frame (fun o => o = (Reg.MAC_STAT_LINK p).off ∨ ReportReg o) s t
        { s with regs := t.regs, macs := t.macs, host := t.host, chy := t.chy, out := t.out }) ∧
  (∀ (p : Fin 10) (τ : Nat) (s : State), s.isOff 0x10 = false → (s.mac p).nextVerify = some τ → (s.mac p).verifyTries < 3 →
    Completes (exec (.preemptVerify p) s) fun t =>
      t.mac p = { s.mac p with verifyTries := (s.mac p).verifyTries + 1,
                               nextVerify := some (t.time.elapsed + s.rd (Reg.MAC_PREEMPT_VERIFY_TIME p) * 1000000) } ∧
      t.out = s.out ++ [.mpacket p smdVerify none (List.replicate 60 0) false] ∧
      Frame TimeReg s t { s with regs := t.regs, time := t.time, macs := t.macs, out := t.out }) ∧
  (∀ (k : Fin 4) (τ : Nat) (s : State), s.isOff 0x10 = false → (s.mac (2 * k)).nextSupervision = some τ → s.pairOn k = true →
    s.flag (Reg.MAC_PRP_SUPER_EN (2 * k)) = true →
    (∀ p, p = 2 * k.val ∨ p = 2 * k.val + 1 → s.macUp p = true ∧
      s.macTooLong p (s.supervisionFrame (2 * k) (s.mac (2 * k)).supSeq) = false) →
    Completes (exec (.prpSupervision k) s) fun t =>
      let a := 2 * k.val
      let f (p : Nat) : TxFrame :=
        { kind := .supervision, bytes := s.supervisionFrame a (s.mac a).supSeq, express := false, launch := some (t.planeTime p),
          tci := none, prpSeq := some (s.mac a).prpNext, poison := false, done := none }
      (t.mac a).tx = (s.mac a).tx ++ [f a] ∧ (t.mac (a + 1)).tx = (s.mac (a + 1)).tx ++ [f (a + 1)] ∧
      (t.mac a).supSeq = ((s.mac a).supSeq + 1) % 65536 ∧ (t.mac a).prpNext = ((s.mac a).prpNext + 1) % 65536 ∧
      (t.mac a).nextSupervision = some (τ + s.rd (Reg.MAC_PRP_LIFE a) * 10 ^ 9) ∧
      Frame TimeReg s t { s with regs := t.regs, time := t.time, macs := t.macs }) ∧
  (∀ (k : Fin 4) (e : PrpEntry) (rest : List PrpEntry) (s : State), s.isOff 0x10 = false → (s.mac (2 * k)).prpTable = e :: rest →
    Completes (exec (.prpEntryForget k) s) fun t =>
      t.mac (2 * k) = { s.mac (2 * k) with prpTable := rest } ∧
      Frame TimeReg s t { s with regs := t.regs, time := t.time, macs := t.macs })

/-- A port is enabled only while quiescent, and the first port of a PRP pair restarts the pair's sequence number; a disable leaves nothing
queued, and the port is quiescent once its frame has left; a counter clear leaves every counter of the port 0; a write of MSC_CTRL loads
its fields (R350, R372, R379, R381, R382). The model's own choices that it meets: log 50. -/
def Obligations.PortControl : Prop :=
  (∀ (p : Fin 10) (s : State), s.isOff 0x10 = false → s.flag (Reg.MAC_CTRL_ENABLE p) = false → s.flag (Reg.MAC_STAT_QUIESCENT p) = true →
    s.flag (Reg.MAC_PREEMPT_EN p) = false → s.flag (Reg.MAC_STAT_PREEMPT p) = false →
    Completes (exec (.macEnable p) s) fun t =>
      t.flag (Reg.MAC_CTRL_ENABLE p) = true ∧ t.flag (Reg.MAC_STAT_QUIESCENT p) = false ∧ (t.mac p).nextVerify = none ∧
      (t.mac p).speed = s.rd (Reg.MAC_CFG_SPEED p) ∧ (t.mac p).fec = s.rd (Reg.MAC_CFG_FEC p) ∧
      (p.val < 8 → s.pairOn (p / 2) = true → s.flag (Reg.MAC_CTRL_ENABLE (p / 2 * 2)) = false →
        s.flag (Reg.MAC_CTRL_ENABLE (p / 2 * 2 + 1)) = false →
        (t.mac (p / 2 * 2)).prpNext = 0 ∧ (t.mac (p / 2 * 2)).prpTable = []) ∧
      (∀ q, q ≠ p.val → q ≠ p.val / 2 * 2 → t.mac q = s.mac q) ∧
      Frame (fun o => o = (Reg.MAC_CTRL_ENABLE p).off ∨ o = (Reg.MAC_STAT_QUIESCENT p).off) s t
        { s with regs := t.regs, macs := t.macs }) ∧
  (∀ (p : Fin 10) (s : State), s.isOff 0x10 = false → s.flag (Reg.MAC_CTRL_ENABLE p) = true → (s.mac p).tx = [] → s.selfCal.run = none →
    Completes (exec (.macDisable p) s) fun t =>
      t.flag (Reg.MAC_CTRL_ENABLE p) = false ∧ t.flag (Reg.MAC_STAT_PREEMPT p) = false ∧ (t.mac p).rx = [] ∧ (t.mac p).tx = [] ∧
      (t.mac p).pause = none ∧ (t.mac p).holdUntil = none ∧ (t.mac p).disabling = true ∧
      (∀ q, q ≠ p.val → q ≠ p.val / 2 * 2 → t.mac q = s.mac q) ∧
      Frame (fun o => o = (Reg.MAC_CTRL_ENABLE p).off ∨ o = (Reg.MAC_STAT_PREEMPT p).off ∨ ReportReg o) s t
        { s with regs := t.regs, macs := t.macs, host := t.host, chy := t.chy, out := t.out }) ∧
  (∀ (p : Fin 10) (s : State), s.isOff 0x10 = false → (s.mac p).disabling = true →
    Completes (exec (.macQuiescent p) s) fun t =>
      t.flag (Reg.MAC_STAT_QUIESCENT p) = true ∧ (t.mac p).disabling = false ∧ (t.mac p).cut = none ∧
      ((∀ c, (s.mac p).cut = some c → c.suspended = false) → t.mac p = { s.mac p with disabling := false, cut := none }) ∧
      (s.mac p).wireUntil ≤ t.time.elapsed ∧
      Frame (fun o => o = (Reg.MAC_STAT_QUIESCENT p).off ∨ TimeReg o ∨ ReportReg o) s t
        { s with regs := t.regs, time := t.time, macs := t.macs, host := t.host, chy := t.chy, out := t.out }) ∧
  (∀ (p : Fin 10) (s : State), s.isOff 0x10 = false →
    (∀ j < 42, s.rd64 (Reg.MAC_CNT_LO p j) (Reg.MAC_CNT_HI p j) < 2 ^ macCounterWidth j) →
    (∀ j < 10, s.rd64 (Reg.MSC_CNT_LO p j) (Reg.MSC_CNT_HI p j) < 2 ^ (if j = 1 ∨ j = 8 then 48 else 32)) →
    Completes (exec (.macCntclr p) s) fun t =>
      (∀ j < 42, t.rd64 (Reg.MAC_CNT_LO p j) (Reg.MAC_CNT_HI p j) = 0) ∧
      (p.val < 8 → ∀ j < 10, t.rd64 (Reg.MSC_CNT_LO p j) (Reg.MSC_CNT_HI p j) = 0) ∧
      RegsAndReports (fun o => (0x140800 + 0x4000 * p.val ≤ o ∧ o < 0x140A00 + 0x4000 * p.val) ∨
        (0x180100 + 0x4000 * p.val ≤ o ∧ o < 0x180200 + 0x4000 * p.val)) s t) ∧
  (∀ (p : Fin 8) (v : Word) (s : State), s.isOff 0x11 = false →
    Completes (exec (.mscCtrlWrite p v) s) fun t =>
      t.flag (Reg.MSC_CTRL_TX_EN p) = bitOf v.toNat 0 ∧ t.flag (Reg.MSC_CTRL_RX_EN p) = bitOf v.toNat 1 ∧
      t.rd (Reg.MSC_CTRL_VALIDATE p) =
        (if bitsOf v.toNat 2 2 = 3 then s.rd (Reg.MSC_CTRL_VALIDATE p) else bitsOf v.toNat 2 2) ∧
      t.flag (Reg.MSC_CTRL_REPLAY p) = bitOf v.toNat 4 ∧ t.flag (Reg.MSC_CTRL_SCI_TX p) = bitOf v.toNat 5 ∧
      OnlyRegs (· = (Reg.MSC_CTRL_TX_EN p).off) s t)

/-! ### Video inputs, audio, the metre tracker and timecode -/

/-- Video: a frame is written to the buffer that holds neither the newest frame nor one a composite has, and once its last beat is
performed that buffer is the newest, an SDI frame's samples in the tiles of its layout; an SDI input locks after four frames of a format
of the table and a loss of lock empties what was being written; a flow is admitted or refused whole, its first picture's first packet
starts a frame, its pixels land at their line and offset, its marker completes the frame; and a disabled input empties its buffers, after
42 ms at the latest, before it is quiescent (R387-R393, R403; log 28). The model's own choices that it meets: logs 28, 83. -/
def Obligations.VideoFrames : Prop :=
  (∀ (i : Fin 16) (x : SdiFormat) (against : SdiCheck) (τ : BitVec 64) (s : State), s.isOff 0x12 = false →
    (4 ≤ i.val → exec (.vinFrameStart i x against τ) s = .next (s.until τ.toNat)) ∧
    (i.val < 4 → s.flag (Reg.VIN_CTRL_ENABLE i) = true → s.sdiRuns = true → sdiBad x against = 0 →
      (s.flag (Reg.VIN_STAT_LOCK i) = true → s.rd (Reg.VIN_STAT_FMT i) = sdiFmt x → s.rd Reg.ANT_REF_CFG_SDI_SEL ≠ i.val →
        (s.vin i).writing = none → (s.vin i).held = [] →
        let b := if s.flag (Reg.VIN_STAT_HAVE i) then 1 - s.rd (Reg.VIN_STAT_NEWEST i) else 0
        Completes (exec (.vinFrameStart i x against τ) s) fun t =>
          (t.vin i).buf b = .writing ∧ (t.vin i).buf (1 - b) = (s.vin i).buf (1 - b) ∧ (t.vin i).started = some t.now ∧
          t.rd (Reg.VIN_SOFTIME i) = t.now32 ∧
          Frame (fun o => o = (Reg.VIN_SOFTIME i).off ∨ o = (Reg.VIN_PERIOD i).off ∨ o = (Reg.VIN_STAT_FAMILY i).off ∨ TimeReg o) s t
            { s with regs := t.regs, time := t.time, vins := t.vins, refs := t.refs }) ∧
      (s.flag (Reg.VIN_STAT_LOCK i) = false → Completes (exec (.vinFrameStart i x against τ) s) fun t =>
        t.vin i = { s.vin i with run := (sdiFmt x, if (s.vin i).run.1 = sdiFmt x then (s.vin i).run.2 + 1 else 1), started := some t.now } ∧
        t.flag (Reg.VIN_STAT_FAMILY i) = false ∧
        Frame (fun o => o = (Reg.VIN_STAT_FAMILY i).off ∨ TimeReg o) s t { s with regs := t.regs, time := t.time, vins := t.vins })) ∧
    (i.val < 4 → s.flag (Reg.VIN_CTRL_ENABLE i) = true → s.sdiRuns = true → sdiBad x against ≠ 0 →
      s.flag (Reg.VIN_STAT_LOCK i) = false → Completes (exec (.vinFrameStart i x against τ) s) fun t =>
        (t.vin i).run = (0, 0) ∧ t.flag (Reg.VIN_STAT_FAMILY i) = decide (sdiBad x against = 2) ∧
        Frame (fun o => o = (Reg.VIN_STAT_FAMILY i).off ∨ TimeReg o ∨ ReportReg o) s t
          { s with regs := t.regs, time := t.time, vins := t.vins, host := t.host, chy := t.chy, out := t.out })) ∧
  (∀ (i : Fin 16) (τ : BitVec 64) (data : List (BitVec 10)) (crc : BitVec 16) (b : Nat) (s : State), s.isOff 0x12 = false → s.StoreSound →
    (4 ≤ i.val → exec (.vinFrameComplete i τ data crc) s = .next (s.until τ.toNat)) ∧
    (i.val < 4 → (s.vin i).writing = some b → Completes (exec (.vinFrameComplete i τ data crc) s) fun t =>
      (t.vin i).buf b = .complete (t.rd (Reg.VIN_FRAMES i)) ∧ t.rd (Reg.VIN_FRAMES i) = (s.rd (Reg.VIN_FRAMES i) + 1) % 2 ^ 32 ∧
      t.rd (Reg.VIN_STAT_NEWEST i) = b ∧ t.flag (Reg.VIN_STAT_HAVE i) = true ∧
      t.rd (Reg.VIN_CRCERR i) = satAdd 32 (s.rd (Reg.VIN_CRCERR i)) crc.toNat ∧
      (let a := s.videoBase i b
       let size := ((s.vinSize i).2 + 15) / 16 * (((s.vinSize i).1 + 15) / 16) * 640
       (data.length = 32 → t.bytesAt a 40 = tileRow data ∧ StoreKept (fun x => a ≤ x ∧ x < a + 40) s t) ∧
       StoreKept (fun x => a ≤ x ∧ x < a + size) s t) ∧
      Frame (fun o => o = (Reg.VIN_FRAMES i).off ∨ o = (Reg.VIN_STAT_HAVE i).off ∨ o = (Reg.VIN_CRCERR i).off ∨ TimeReg o ∨ GrantReg o) s t
        { s with regs := t.regs, time := t.time, vins := t.vins, store := { s.store with bytes := t.store.bytes } })) ∧
  (∀ (i : Fin 4) (s : State), s.isOff 0x12 = false → s.flag (Reg.VIN_CTRL_ENABLE i) = true → s.sdiRuns = true →
    s.flag (Reg.VIN_STAT_LOCK i) = false → 4 ≤ (s.vin i).run.2 →
    Completes (exec (.vinLock i) s) fun t =>
      t.flag (Reg.VIN_STAT_LOCK i) = true ∧ t.rd (Reg.VIN_STAT_FMT i) = (s.vin i).run.1 % 16 ∧
      RegsAndReports (· = (Reg.VIN_STAT_LOCK i).off) s t) ∧
  (∀ (i : Fin 16) (silent : Bool) (s : State), s.isOff 0x12 = false → s.flag (Reg.VIN_STAT_LOCK i) = true →
    s.flag (Reg.VIN_CTRL_LOSS i) = false → s.rd Reg.ANT_REF_CFG_SDI_SEL ≠ i.val →
    Completes (exec (.vinLockLost i silent) s) fun t =>
      t.flag (Reg.VIN_STAT_LOCK i) = false ∧ (∀ b, (s.vin i).writing = some b → (t.vin i).buf b = .empty) ∧
      Frame (fun o => o = (Reg.VIN_STAT_LOCK i).off ∨ o = (Reg.VIN_MISS i).off ∨ TimeReg o ∨ ReportReg o) s t
        { s with regs := t.regs, time := t.time, vins := t.vins, host := t.host, chy := t.chy, out := t.out }) ∧
  (∀ (k : Fin 48) (s : State), s.isOff 0x12 = false → s.selfCal.run = none →
    (k.val < 16 → Completes (exec (.vinDisable k) s) fun t =>
      t.flag (Reg.VIN_CTRL_ENABLE k) = false ∧ t.vin k = { s.vin k with disabledAt := s.time.elapsed } ∧
      Frame (· = (Reg.VIN_CTRL_ENABLE k).off) s t { s with regs := t.regs, vins := t.vins }) ∧
    (16 ≤ k.val → Completes (exec (.vinDisable k) s) fun t =>
      t.flag (Reg.VIN_FLOW_CTRL_ENABLE (k - 16)) = false ∧
      (s.rd (Reg.VIN_FLOW_CTRL_KIND (k - 16)) ≠ 1 → t.flag (Reg.VIN_FLOW_CTRL_QUIESCENT (k - 16)) = true ∧ t.vins = s.vins) ∧
      (s.rd (Reg.VIN_FLOW_CTRL_KIND (k - 16)) = 1 → t.trk = s.trk ∧
        t.flag (Reg.VIN_FLOW_CTRL_QUIESCENT (k - 16)) = s.flag (Reg.VIN_FLOW_CTRL_QUIESCENT (k - 16))) ∧
      Frame (· = (Reg.VIN_FLOW_CTRL_ENABLE (k - 16)).off) s t
        { s with regs := t.regs, vins := t.vins, trk := { s.trk with levels := t.trk.levels } })) ∧
  (∀ (k : Fin 48) (s : State),
    let i := if k.val < 16 then k.val else s.flowTarget (k - 16)
    let en := if k.val < 16 then Reg.VIN_CTRL_ENABLE k else Reg.VIN_FLOW_CTRL_ENABLE (k - 16)
    let q := if k.val < 16 then Reg.VIN_STAT_QUIESCENT k else Reg.VIN_FLOW_CTRL_QUIESCENT (k - 16)
    s.isOff 0x12 = false → s.flag en = false → s.flag q = false → (s.vin i).held = [] → (s.vin i).emptyLater = [] →
    Completes (exec (.vinQuiescent k) s) fun t =>
      t.flag q = true ∧ (t.vin i).buf0 = .empty ∧ (t.vin i).buf1 = .empty ∧ t.flag (Reg.VIN_STAT_HAVE i) = false ∧
      (if (s.vin i).writing = none then t.time = s.time else (s.vin i).disabledAt + 42000000 ≤ t.time.elapsed) ∧
      (k.val < 16 → t.flows = s.flows) ∧
      Frame (fun o => o = q.off ∨ o = (Reg.VIN_STAT_HAVE i).off ∨ o = (Reg.VIN_MISS i).off ∨ TimeReg o ∨ ReportReg o) s t
        { s with regs := t.regs, time := t.time, vins := t.vins, flows := t.flows, host := t.host, chy := t.chy, out := t.out }) ∧
  (∀ (f : Fin 32) (s : State), s.isOff 0x12 = false → s.flag (Reg.VIN_FLOW_CTRL_ENABLE f) = false →
    s.flag (Reg.VIN_FLOW_CTRL_QUIESCENT f) = true →
    (s.flowRefusal f = 0 → Completes (exec (.flowEnable f) s) fun t =>
      t.flag (Reg.VIN_FLOW_CTRL_ENABLE f) = true ∧ t.flag (Reg.VIN_FLOW_CTRL_QUIESCENT f) = false ∧ t.flow f = flowIdle ∧
      Frame (· = (Reg.VIN_FLOW_CTRL_ENABLE f).off) s t { s with regs := t.regs, flows := t.flows }) ∧
    (s.flowRefusal f ≠ 0 → Completes (exec (.flowEnable f) s) fun t =>
      t.flag (Reg.VIN_FLOW_CTRL_ENABLE f) = false ∧ OnlyReports s t)) ∧
  (∀ (h : FlowHead) (f : Nat) (seq : BitVec 16) (g : RowData) (τ : BitVec 64) (s : State),
    let i := s.flowTarget f
    s.isOff 0x12 = false → s.StoreSound → s.flowFor h 1 = some f → s.flow f = flowIdle → (s.vin i).writing = none → (s.vin i).held = [] →
      g.line = 0 →
    g.offset = 0 → Completes (exec (.flowVideoPacket h seq false [g] τ) s) fun t =>
      (t.vin i).buf (if s.flag (Reg.VIN_STAT_HAVE i) then 1 - s.rd (Reg.VIN_STAT_NEWEST i) else 0) = .writing ∧
      t.rd (Reg.VIN_SOFTIME i) = t.now32 ∧ t.flow f = { seq := some ((seq.toNat + 1) % 2 ^ 32), gap := false, inFrame := true }) ∧
  (∀ (h : FlowHead) (f n : Nat) (seq : BitVec 16) (g : RowData) (τ : BitVec 64) (b : Nat) (s : State),
    let i := s.flowTarget f
    s.isOff 0x12 = false → s.StoreSound → s.flowFor h 1 = some f → s.flow f = { seq := some n, gap := false, inFrame := true } →
      n < 2 ^ 32 →
    n % 2 ^ 16 = seq.toNat →
    (s.vin i).writing = some b → g.data.length = 5 → segFits (s.rd (Reg.VIN_CFG_WIDTH i)) (s.rd (Reg.VIN_CFG_HEIGHT i)) g = true →
    Completes (exec (.flowVideoPacket h seq false [g] τ) s) fun t =>
      (let a := s.videoBase i b + pairAt (s.rd (Reg.VIN_CFG_WIDTH i)) g.offset.toNat g.line.toNat
       t.bytesAt a 5 = pairBytes g.data ∧ StoreKept (fun x => a ≤ x ∧ x < a + 5) s t) ∧
      t.flow f = { seq := some ((n + 1) % 2 ^ 32), gap := false, inFrame := true } ∧
      t.rd (Reg.VIN_FLOW_PACKETS f) = (s.rd (Reg.VIN_FLOW_PACKETS f) + 1) % 2 ^ 32 ∧
      Frame (fun o => o = (Reg.VIN_FLOW_PACKETS f).off ∨ TimeReg o ∨ GrantReg o) s t
        { s with regs := t.regs, time := t.time, flows := t.flows, store := { s.store with bytes := t.store.bytes } }) ∧
  (∀ (h : FlowHead) (f n : Nat) (seq : BitVec 16) (τ : BitVec 64) (b : Nat) (s : State),
    let i := s.flowTarget f
    s.isOff 0x12 = false → s.flowFor h 1 = some f → s.flow f = { seq := some n, gap := false, inFrame := true } → n < 2 ^ 32 →
      n % 2 ^ 16 = seq.toNat →
    (s.vin i).writing = some b → 4 ≤ i →
    Completes (exec (.flowVideoPacket h seq true [] τ) s) fun t =>
      (t.vin i).buf b = .complete (t.rd (Reg.VIN_FRAMES i)) ∧ t.flag (Reg.VIN_STAT_LOCK i) = true ∧
      t.flow f = { seq := some ((n + 1) % 2 ^ 32), gap := false, inFrame := false } ∧
      Frame (fun o => o = (Reg.VIN_FLOW_PACKETS f).off ∨ o = (Reg.VIN_FRAMES i).off ∨ o = (Reg.VIN_STAT_LOCK i).off ∨ TimeReg o) s t
        { s with regs := t.regs, time := t.time, flows := t.flows, vins := t.vins })

/-- Audio: a sample of a locked AES3 input, of an audio flow and the payload of an ancillary flow land in their rings, whose indexes move
on; AES3 lock and block starts; and the disable of a function or a channel of AUD (R394-R396, R403). The model's own choices that it
meets: logs 28, 82. -/
def Obligations.AudioRings : Prop :=
  (∀ (k : Fin 4) (second v : Bool) (sample : BitVec 24) (τ : BitVec 64) (s : State),
    let c := 2 * k.val + b2n second
    s.isOff 0x13 = false → s.StoreSound → bitOf (s.rd Reg.AUD_CTRL_AES_EN) k = true → s.flag (Reg.AUD_AES_STAT_LOCK k) = true →
    s.flag (Reg.AUD_CH_CFG_ENABLE c) = true →
    Completes (exec (.aes3Sample k second sample v false false τ) s) fun t =>
      (let a := s.rd (Reg.AUD_CH_BASE c) + 4 * (s.rd (Reg.AUD_CH_WIDX c) % 2 ^ s.rd (Reg.AUD_CH_CFG_LOG2LEN c))
       t.bytesAt a 4 = leBytes 4 (sample.toNat * 256 + b2n v) ∧ StoreKept (fun x => a ≤ x ∧ x < a + 4) s t) ∧
      t.rd (Reg.AUD_CH_WIDX c) = (s.rd (Reg.AUD_CH_WIDX c) + 1) % 2 ^ 32 ∧ t.rd (Reg.AUD_CH_TS c) = t.now32 ∧
      Frame (fun o => o = (Reg.AUD_CH_WIDX c).off ∨ o = (Reg.AUD_CH_TS c).off ∨ TimeReg o ∨ GrantReg o) s t
        { s with regs := t.regs, time := t.time, trk := { s.trk with levels := t.trk.levels, loudAt := t.trk.loudAt },
                 store := { s.store with bytes := t.store.bytes }, fresh := t.fresh }) ∧
  (∀ (k : Fin 4) (τ : BitVec 64) (s : State), s.isOff 0x13 = false → bitOf (s.rd Reg.AUD_CTRL_AES_EN) k = true →
    s.flag (Reg.AUD_AES_STAT_LOCK k) = true →
    (s.rd Reg.ANT_REF_CFG_AUD_SEL ≠ k.val → Completes (exec (.aes3BlockStart k τ) s) fun t =>
      tblGet t.aesHeard 0 k = t.time.elapsed ∧
      Frame TimeReg s t { s with regs := t.regs, time := t.time, aesHeard := t.aesHeard }) ∧
    (s.rd Reg.ANT_REF_CFG_AUD_SEL = k.val → (s.source 5).last = none → (s.source 5).expected = none →
      Completes (exec (.aes3BlockStart k τ) s) fun t =>
        tblGet t.aesHeard 0 k = t.time.elapsed ∧ (t.source 5).last = some (s.until τ.toNat).time.acc ∧ (t.source 5).bad = 0)) ∧
  (∀ (k : Fin 4) (rate : Fin 5) (s : State), s.isOff 0x13 = false → s.rd (Reg.AUD_AES_STAT_RATE k) ≠ rate.val →
    rate ≠ 0 → bitOf (s.rd Reg.AUD_CTRL_AES_EN) k = true →
    Completes (exec (.aesLock k rate) s) fun t =>
      t.flag (Reg.AUD_AES_STAT_LOCK k) = true ∧ t.rd (Reg.AUD_AES_STAT_RATE k) = rate.val ∧
      tblGet t.aesHeard 0 k = s.time.elapsed ∧
      Frame (fun o => o = (Reg.AUD_AES_STAT_LOCK k).off ∨ ReportReg o) s t
        { s with regs := t.regs, aesHeard := t.aesHeard, trk := { s.trk with levels := t.trk.levels }, host := t.host, chy := t.chy, out := t.out }) ∧
  (∀ (k : Fin 4) (s : State), s.isOff 0x13 = false → s.rd (Reg.AUD_AES_STAT_RATE k) ≠ 0 → s.rd Reg.ANT_REF_CFG_AUD_SEL ≠ k.val →
    Completes (exec (.aesLock k 0) s) fun t =>
      t.flag (Reg.AUD_AES_STAT_LOCK k) = false ∧ t.rd (Reg.AUD_AES_STAT_RATE k) = 0 ∧
      tblGet s.aesHeard 0 k + 10000000 ≤ t.time.elapsed ∧
      Frame (fun o => o = (Reg.AUD_AES_STAT_LOCK k).off ∨ TimeReg o ∨ ReportReg o) s t
        { s with regs := t.regs, time := t.time, trk := { s.trk with levels := t.trk.levels }, host := t.host, chy := t.chy, out := t.out }) ∧
  (∀ (h : FlowHead) (f : Nat) (seq : BitVec 16) (ts : Word) (data : Bytes) (τ : BitVec 64) (s : State),
    let c := 8 + 8 * s.flowTarget f
    let size := if s.flag (Reg.VIN_FLOW_CTRL_L24 f) then 3 else 2
    s.isOff 0x12 = false → s.isOff 0x13 = false → s.StoreSound → s.flowFor h 2 = some f → s.flowTarget f ≤ 7 → (s.flow f).seq = none →
    s.rd (Reg.VIN_FLOW_CTRL_CHANS f) = 0 → data.length = size →
    s.flag (Reg.AUD_CH_CFG_ENABLE c) = true → s.ptpHeld = false → s.rd Reg.AUD_CTRL_CLKSTREAM ≠ s.flowTarget f →
    Completes (exec (.flowAudioPacket h seq ts data false τ) s) fun t =>
      (let a := s.rd (Reg.AUD_CH_BASE c) + 4 * (s.rd (Reg.AUD_CH_WIDX c) % 2 ^ s.rd (Reg.AUD_CH_CFG_LOG2LEN c))
       t.bytesAt a 4 = leBytes 4 (beNat data * 2 ^ (32 - 8 * size)) ∧ StoreKept (fun x => a ≤ x ∧ x < a + 4) s t) ∧
      t.rd (Reg.AUD_CH_WIDX c) = (s.rd (Reg.AUD_CH_WIDX c) + 1) % 2 ^ 32 ∧
      t.rd (Reg.AUD_CH_TS c) = low 32 (((s.until τ.toNat).now : Int) - samplesNs 1) ∧ (t.flow f).seq = some ((seq.toNat + 1) % 2 ^ 32) ∧
      Frame (fun o => o = (Reg.AUD_CH_WIDX c).off ∨ o = (Reg.AUD_CH_TS c).off ∨ o = (Reg.VIN_FLOW_PACKETS f).off ∨ TimeReg o ∨
          GrantReg o) s t
        { s with regs := t.regs, time := t.time, flows := t.flows, trk := { s.trk with levels := t.trk.levels, loudAt := t.trk.loudAt },
                 store := { s.store with bytes := t.store.bytes } }) ∧
  (∀ (h : FlowHead) (f : Nat) (data : Bytes) (τ : BitVec 64) (s : State),
    let b := leBytes 4 data.length ++ data
    s.isOff 0x12 = false → s.StoreSound → s.flowFor h 3 = some f →
      s.rd Reg.VIN_ANC_WIDX % 2 ^ s.rd Reg.VIN_ANC_LOG2 + b.length ≤ 2 ^ s.rd Reg.VIN_ANC_LOG2 →
    Completes (exec (.flowAncPacket h data τ) s) fun t =>
      (let a := s.rd Reg.VIN_ANC_BASE + s.rd Reg.VIN_ANC_WIDX % 2 ^ s.rd Reg.VIN_ANC_LOG2
       t.bytesAt a b.length = b ∧ StoreKept (fun x => a ≤ x ∧ x < a + b.length) s t) ∧
      t.rd Reg.VIN_ANC_WIDX = (s.rd Reg.VIN_ANC_WIDX + b.length) % 2 ^ 32 ∧
      Frame (fun o => o = Reg.VIN_ANC_WIDX.off ∨ o = (Reg.VIN_FLOW_PACKETS f).off ∨ TimeReg o ∨ GrantReg o) s t
        { s with regs := t.regs, time := t.time, store := { s.store with bytes := t.store.bytes } }) ∧
  (∀ (fn : Fin 79) (s : State), s.isOff 0x13 = false →
    (fn.val < 7 → s.flag (audFld fn) = true → Completes (exec (.audDisable fn) s) fun t =>
      t.flag (audFld fn) = false ∧ bitOf (t.rd Reg.AUD_STAT) fn = true ∧
      (∀ k < 7, k ≠ fn.val → t.flag (audFld k) = s.flag (audFld k) ∧ bitOf (t.rd Reg.AUD_STAT) k = bitOf (s.rd Reg.AUD_STAT) k) ∧
      (fn.val = 4 → t.rd Reg.AUD_TRK_STAT_STATE = 0 ∧ t.rd Reg.AUD_TRK_STAT_CONF = 0) ∧
      Frame (fun o => o = 0x1B0000 ∨ o = 0x1B0004 ∨ (fn.val = 4 ∧ o = Reg.AUD_TRK_STAT_STATE.off) ∨ ReportReg o) s t
        { s with regs := t.regs, trk := if fn.val = 4 then t.trk else s.trk, host := t.host, chy := t.chy, out := t.out }) ∧
    (7 ≤ fn.val → s.flag (Reg.AUD_CH_CFG_ENABLE (fn - 7)) = true → Completes (exec (.audDisable fn) s) fun t =>
      let c := fn.val - 7
      t.flag (Reg.AUD_CH_CFG_ENABLE c) = false ∧ t.flag (Reg.AUD_CH_CFG_QUIESCENT c) = true ∧
      bitOf (t.rd (Reg.AUD_CHQ (c / 32))) (c % 32) = true ∧
      OnlyRegs (fun o => o = (Reg.AUD_CH_CFG_ENABLE c).off ∨ o = (Reg.AUD_CHQ (c / 32)).off) s t))

/-- The tracker and timecode: a predicted beat enters CONF's window, counts as a beat only outside SEARCH, keeps TRACK while CONF holds,
and enters COAST where the summed input has stayed below GATE for 1 s; a tap in the tempo range sets the period and enters TRACK, and the
first of a series only starts it; a good timecode word is latched and counts toward lock, a bad one breaks the run; a loss unlocks; and
the output sends its context's position, or reports why it cannot (R397-R401). The model's own choices that it meets: logs 3, 26, 81, 82.
-/
def Obligations.TrackerAndTimecode : Prop :=
  (∀ (ms : Fin 64) (τ : Nat) (s : State), s.isOff 0x13 = false → s.flag Reg.AUD_CTRL_TRK_EN = true → s.trk.next = some τ →
    s.rd Reg.AUD_TRK_STAT_STATE = 0 → ms.val ≤ s.rd Reg.AUD_TRK_CFG_BEATWIN → trkConf ((true :: s.trk.matched).take 16) < 128 →
    Completes (exec (.trkPredictedBeat true ms) s) fun t =>
      t.trk.matched = (true :: s.trk.matched).take 16 ∧ t.rd Reg.AUD_TRK_STAT_CONF = trkConf ((true :: s.trk.matched).take 16) ∧
      t.rd Reg.AUD_TRK_STAT_STATE = 0 ∧ t.rd Reg.AUD_TRK_BEATS = s.rd Reg.AUD_TRK_BEATS ∧
      Frame (fun o => o = Reg.AUD_TRK_STAT_STATE.off ∨ o = Reg.AUD_TRK_PERIOD.off ∨ TimeReg o) s t
        { s with regs := t.regs, time := t.time, trk := t.trk, fresh := t.fresh }) ∧
  (∀ (ms : Fin 64) (τ : Nat) (s : State), s.isOff 0x13 = false → s.flag Reg.AUD_CTRL_TRK_EN = true → s.trk.next = some τ →
    s.rd Reg.AUD_TRK_STAT_STATE = 1 → ms.val ≤ s.rd Reg.AUD_TRK_CFG_BEATWIN → τ < s.trk.loudAt + 1000000000 →
      64 ≤ trkConf ((true :: s.trk.matched).take 16) →
    Completes (exec (.trkPredictedBeat true ms) s) fun t =>
      t.rd Reg.AUD_TRK_BEATS = (s.rd Reg.AUD_TRK_BEATS + 1) % 2 ^ 32 ∧ t.rd Reg.AUD_TRK_BEAT_TIME = τ % 2 ^ 32 ∧
      t.rd Reg.AUD_TRK_STAT_STATE = 1 ∧ t.trk.last = some τ ∧
      Frame (fun o => (Reg.AUD_TRK_STAT_STATE.off ≤ o ∧ o ≤ Reg.AUD_TRK_BEAT_TIME.off) ∨ (0x70000 ≤ o ∧ o < 0x70040) ∨ TimeReg o ∨
        ReportReg o) s t
        { s with regs := t.regs, time := t.time, trk := t.trk, ant := t.ant, refs := t.refs, host := t.host, chy := t.chy, out := t.out,
                 fresh := t.fresh }) ∧
  (∀ (after : Bool) (ms : Fin 64) (τ : Nat) (s : State), s.isOff 0x13 = false → s.flag Reg.AUD_CTRL_TRK_EN = true → s.trk.next = some τ →
    s.rd Reg.AUD_TRK_STAT_STATE = 1 → s.trk.loudAt + 1000000000 ≤ τ → s.trk.coast + 1 < s.rd Reg.AUD_TRK_CFG_COASTMAX →
    Completes (exec (.trkPredictedBeat after ms) s) fun t =>
      t.rd Reg.AUD_TRK_STAT_STATE = (if 128 ≤ t.rd Reg.AUD_TRK_STAT_CONF then 1 else 2) ∧
      t.rd Reg.AUD_TRK_BEATS = (s.rd Reg.AUD_TRK_BEATS + 1) % 2 ^ 32) ∧
  (∀ s : State, s.isOff 0x13 = false → s.flag Reg.AUD_CTRL_TRK_EN = true → s.flag Reg.AUD_TRK_CFG_TAP_EN = true →
    (s.trk.taps = [] → Completes (exec .trkTap s) fun t =>
      t.trk = { s.trk with taps := [s.now], onsets := s.trk.onsets.filter (fun o => decide (s.now < o + 8000000000)) ++ [s.now] } ∧
      Frame (fun _ => False) s t { s with trk := t.trk }) ∧
    (∀ l : Nat, s.trk.taps = [l] → l + s.beatMin ≤ s.now → s.now ≤ l + s.beatMax → Completes (exec .trkTap s) fun t =>
      t.rd Reg.AUD_TRK_PERIOD = (s.now - l) % 2 ^ 32 ∧ t.trk.period = s.now - l ∧ t.rd Reg.AUD_TRK_STAT_STATE = 1 ∧
      t.trk.taps = [s.now, l] ∧
      Frame (fun o => o = Reg.AUD_TRK_STAT_STATE.off ∨ o = Reg.AUD_TRK_PERIOD.off ∨ ReportReg o) s t
        { s with regs := t.regs, trk := t.trk, host := t.host, chy := t.chy, out := t.out })) ∧
  (∀ (tc ubits : Word) (flags : BitVec 4) (good : Bool) (τ : BitVec 64) (s : State), s.isOff 0x13 = false →
    s.flag Reg.AUD_CTRL_LTCIN_EN = true →
    ((good && tcOk (s.rd Reg.AUD_LTCIN_RATE) tc.toNat) = true → s.ltc.count = none → s.flag Reg.AUD_LTCIN_LOCK = false →
      Completes (exec (.ltcWordRx tc ubits flags good τ) s) fun t =>
        t.rd Reg.AUD_LTCIN_TC = tc.toNat ∧ t.rd Reg.AUD_LTCIN_UBITS = ubits.toNat ∧ t.rd Reg.AUD_LTCIN_FLAGS = flags.toNat ∧
        t.ltc = { count := some (tcCount (s.rd Reg.AUD_LTCIN_RATE) tc.toNat), run := 1, last := t.now } ∧
        Frame (fun o => o = Reg.AUD_LTCIN_TC.off ∨ o = Reg.AUD_LTCIN_UBITS.off ∨ o = Reg.AUD_LTCIN_FLAGS.off ∨ TimeReg o) s t
          { s with regs := t.regs, time := t.time, ltc := t.ltc }) ∧
    ((good && tcOk (s.rd Reg.AUD_LTCIN_RATE) tc.toNat) = false → Completes (exec (.ltcWordRx tc ubits flags good τ) s) fun t =>
      t.ltc = { s.ltc with run := 0, count := none } ∧
      Frame TimeReg s t { s with regs := t.regs, time := t.time, ltc := t.ltc })) ∧
  (∀ s : State, s.isOff 0x13 = false → s.flag Reg.AUD_LTCIN_LOCK = true → s.sourceValid 4 = false →
    Completes (exec .ltcLoss s) fun t =>
      t.flag Reg.AUD_LTCIN_LOCK = false ∧ t.ltc = { s.ltc with run := 0, count := none } ∧
      Frame (fun o => o = Reg.AUD_LTCIN_LOCK.off ∨ TimeReg o ∨ ReportReg o) s t
        { s with regs := t.regs, time := t.time, ltc := t.ltc, host := t.host, chy := t.chy, out := t.out }) ∧
  (∀ s : State, s.isOff 0x13 = false → s.flag Reg.AUD_LTCIN_LOCK = true → s.sourceValid 4 = true → s.measuring 4 = false →
    Completes (exec .ltcLoss s) fun t => t.flag Reg.AUD_LTCIN_LOCK = false ∧ t.sourceValid 4 = false) ∧
  (∀ (n : Nat) (s : State), s.isOff 0x13 = false → s.flag Reg.AUD_CTRL_LTCOUT_EN = true → n = s.rd Reg.AUD_LTCOUT_CTX →
    (s.ltcOutBad n = 0 → s.padsCut = false → exec .ltcOutWord s = .next { s with out := s.out ++ [.ltc (tcOf (s.rd Reg.AUD_LTCOUT_RATE)
      (((s.ctx n).pb / 2 ^ 24 + sext 32 (s.rd Reg.AUD_LTCOUT_OFS)) % (tcDay (s.rd Reg.AUD_LTCOUT_RATE) : Int)).toNat)] }) ∧
    (s.ltcOutBad n ≠ 0 → Completes (exec .ltcOutWord s) (OnlyReports s)))

/-! ### The Roost -/

/-- Heartbeats and peers: a member's HEARTBEAT leaves and the next is due 1 ms later; a HEARTBEAT that is taken updates its sender's
entry, new or known; a peer that is lost, by silence, by LEAVE or by state, loses its entry and the ranks are chosen anew; a message that
fails a test changes nothing but the count (R410, R413-R416, R419, R441). The model's own choices that it meets: logs 3, 31. -/
def Obligations.RoostPeers : Prop :=
  (∀ s : State, s.isOff 0x15 = false → s.rooState ≠ 0 → Completes (exec .heartbeatTx s) fun t =>
    t.roo.nextHeartbeat = some (t.time.elapsed + 1000000) ∧ t.roo.messages = (s.roo.messages + 1) % 2 ^ 32 ∧
    (s.flag (Reg.MAC_STAT_LINK 8) = true → ∃ msg, .roost 0 1 0 msg ∈ t.out) ∧ RooFrame (fun _ => False) s t) ∧
  (∀ (m : RoostMsg) (pref : BitVec 4) (rx : Word) (n : Nat) (s : State), s.Takes 1 m → m.path = 2 → s.roo.digests = [] →
    s.rooState = 3 → s.rd Reg.ROO_STAT_RANK = 0 → m.rank ≠ 0 → m.state ≠ 0 → m.state ≠ 5 →
    s.peerOf m.sender.toNat = some n ∨ (s.peerOf m.sender.toNat = none ∧ n = 0 ∧ s.peerValid 0 = false) →
    Completes (exec (.heartbeatRx m pref rx) s) fun t =>
      t.peerValid n = true ∧ t.peerSerial n = m.sender.toNat ∧ t.peerState n = m.state.toNat ∧ t.peerRank n = m.rank.toNat ∧
      t.rd (Reg.ROO_PEER_HEALTH n) = msgField m 0 4 ∧ t.rd (Reg.ROO_PEER_LASTF n) = msgField m 4 4 ∧
      t.rd64 (Reg.ROO_PEER_DIG_LO n) (Reg.ROO_PEER_DIG_HI n) = msgField m 8 8 ∧ t.rd (Reg.ROO_PEER_SEEN n) = t.now32 ∧
      (t.peer n).pref = pref.toNat ∧ (t.peer n).lastHeard = some t.time.elapsed ∧ t.rd Reg.ROO_STAT_RANK = 0 ∧
      tblGet t.roo.mseqs 0 m.sender.toNat = m.mseq.toNat ∧ RooFrame RooReg s t) ∧
  (∀ (m : RoostMsg) (pref : BitVec 4) (rx : Word) (n : Nat) (s : State), s.Takes 1 m → m.path = 2 → m.state = 5 → s.roo.bulk = [] →
    s.peerOf m.sender.toNat = some n →
    Completes (exec (.heartbeatRx m pref rx) s) fun t => t.peerValid n = false ∧ RooFrame RooReg s t) ∧
  (∀ (n : Fin 2) (τ : Nat) (s : State), s.isOff 0x15 = false → (s.peer n).lastHeard = some τ → s.peerValid n = true → s.roo.bulk = [] →
    Completes (exec (.peerLost n) s) fun t =>
      t.peerValid n = false ∧ t.peer n = { peerIdle with lastPath := (s.peer n).lastPath } ∧ t.peerState n = s.peerState n ∧
      t.peerRank n = s.peerRank n ∧ τ + 4000000 ≤ t.time.elapsed ∧
      t.rd Reg.ROO_STAT_PEERS = (List.range 2).countP t.memberPeer ∧ RooFrame RooReg s t) ∧
  (∀ (m : RoostMsg) (n : Nat) (s : State), s.Takes 2 m → s.peerOf m.sender.toNat = some n → s.roo.bulk = [] →
    Completes (exec (.leaveRx m) s) fun t => t.peerValid n = false ∧ t.peer n = { peerIdle with lastPath := (s.peer n).lastPath } ∧
      RooFrame RooReg s t) ∧
  (∀ (m : RoostMsg) (pref : BitVec 4) (rx : Word) (ok : Bool) (s : State), s.isOff 0x15 = false → s.rooState ≠ 0 → m.tagOk = false →
    ∀ c ∈ [Instr.heartbeatRx m pref rx, .leaveRx m, .cuelogRx m, .epochRx m, .chunkRx m, .ackRx m, .resyncRx m, .leaseReqRx m,
           .leaseGrantRx m, .updateRx m ok],
      Completes (exec c s) fun t =>
        t.rd Reg.ROO_AUTHFAIL = satAdd 32 (s.rd Reg.ROO_AUTHFAIL) 1 ∧
        Frame (fun o => o = Reg.ROO_AUTHFAIL.off ∨ TimeReg o) s t { s with regs := t.regs, time := t.time })

/-- Epochs: a standby holds the cue-log's entries and stages chunks; a close whose digest is right verifies the epoch, or puts a bulk
epoch's bytes in place, and one whose digest is wrong drops it; rank 0 notes acknowledgements, answers a request for entries with them and
one for everything with a FULL epoch to come, and ROO_SYNC sends its range as bulk epochs (R413, R420, R423, R425, R426). The model's own
choices that it meets: logs 29, 30, 84. -/
def Obligations.RoostEpochs : Prop :=
  (∀ (m : RoostMsg) (s : State), s.Takes 3 m → s.takesEpochs = true → s.roo.epochs = [] → s.roo.entries = [] → m.payload.length = 32 →
    s.roo.appliedLsn < snapWord m.payload 0 →
    Completes (exec (.cuelogRx m) s) fun t =>
      t.roo.entries = [{ lsn := snapWord m.payload 0, words := (List.range 8).map (snapWord m.payload), source := none, replay := false }] ∧
      t.rd Reg.ROO_LSN = max (s.rd Reg.ROO_LSN) (snapWord m.payload 0) ∧ RooFrame (· = Reg.ROO_LSN.off) s t) ∧
  (∀ (m : RoostMsg) (s : State), s.Takes 5 m → s.takesEpochs = true → s.roo.epochs = [] → s.StoreSound →
    Completes (exec (.chunkRx m) s) fun t =>
      t.roo.epochs = [{ s.epochSt (msgField m 0 4) (msgField m 4 4) with chunks := [(msgField m 8 4, m.payload.drop 12)] }] ∧
      RooFrame GrantReg s t) ∧
  (∀ (m : RoostMsg) (e : EpochSt) (es : List CueEntry) (s : State), s.Takes 4 m → s.takesEpochs = true →
    e = { s.epochSt (msgField m 0 4) (msgField m 4 4) with
            applyF := msgField m 8 4, lsnFirst := msgField m 12 4, lsnLast := msgField m 16 4, length := msgField m 20 4,
            digest := (m.payload.drop 24).take 32, closed := true, sender := m.sender.toNat,
            theta := (s.peerOf m.sender.toNat).elim 0 s.theta } →
    e.verified = false → es = entriesIn s.roo.entries e.lsnFirst e.lsnLast → e.lsnLast + 1 - e.lsnFirst ≤ es.length →
    e.data.length = e.length →
    (sha256 (entryBytes es ++ e.data) = e.digest → e.kind ≠ 1 → Completes (exec (.epochRx m) s) fun t =>
      t.verifiedEpoch e.kind e.number = some { e with verified := true } ∧ RooFrame (fun _ => False) s t) ∧
    (sha256 (entryBytes es ++ e.data) ≠ e.digest → Completes (exec (.epochRx m) s) fun t =>
      (∀ x ∈ t.roo.epochs, ¬ (x.kind = e.kind ∧ x.number = e.number)) ∧ RooFrame (fun _ => False) s t) ∧
    (∀ (a : Nat) (b : Bytes), sha256 (entryBytes es ++ e.data) = e.digest → e.kind = 1 → e.chunks = [(a, b)] → s.StoreSound →
      Completes (exec (.epochRx m) s) fun t =>
        t.bytesAt a b.length = b ∧ StoreKept (fun x => a ≤ x ∧ x < a + b.length) s t ∧
        (∀ x ∈ t.roo.epochs, ¬ (x.kind = e.kind ∧ x.number = e.number)) ∧
        Frame (fun o => TimeReg o ∨ GrantReg o) s t
          { s with regs := t.regs, time := t.time, roo := t.roo, macs := t.macs, out := t.out, fresh := t.fresh,
                   store := { s.store with bytes := t.store.bytes } })) ∧
  (∀ (m : RoostMsg) (n : Nat) (s : State), s.Takes 6 m → s.peerOf m.sender.toNat = some n → s.rooActive = true → s.roo.bulk = [] →
    msgField m 0 4 = 1 → msgField m 8 4 = 0 →
    Completes (exec (.ackRx m) s) fun t =>
      (t.peer n).acked = insertNat (msgField m 4 4) (s.peer n).acked ∧ RooFrame (fun _ => False) s t) ∧
  (∀ (m : RoostMsg) (n : Nat) (s : State), s.Takes 7 m → s.peerOf m.sender.toNat = some n → s.rooActive = true →
    (msgField m 0 4 = 1 → entriesIn (s.roo.held ++ s.roo.entries) (msgField m 4 4) (msgField m 8 4) ≠ [] →
      Completes (exec (.resyncRx m) s) fun t =>
        t.roo.messages = (s.roo.messages +
          ((entriesIn (s.roo.held ++ s.roo.entries) (msgField m 4 4) (msgField m 8 4)).length + 31) / 32) % 2 ^ 32 ∧
        RooFrame (fun _ => False) s t) ∧
    (msgField m 0 4 = 2 → (∀ r < 64, s.flag (Reg.ROO_REG_LEN_VALID r) = false) → Completes (exec (.resyncRx m) s) fun t =>
      t.roo.resyncs = insertNat n s.roo.resyncs ∧ RooFrame (fun _ => False) s t)) ∧
  (∀ (ring : Fin 64) (d : Desc) (s : State), s.Alone ring d → s.startedDesc ring 0x1501 = some d →
    let on : Prop := s.rooState ≠ 0 ∧ s.flag Reg.ROO_CTRL_ENABLE = true
    let ok : Prop := d.reservedOk false 2 = true ∧ d.w 0 % 256 = 0 ∧ d.w 1 % 256 = 0 ∧ s.inRegion (d.w 0) (d.w 1) = true
    (¬ on → Completes (exec (.rooSync ring) s) fun t => CompletedWith s t ring d stCancelled ∧ OnlyReports s t) ∧
    (on → s.rooActive = false → Completes (exec (.rooSync ring) s) fun t => CompletedWith s t ring d 0x1540 ∧ OnlyReports s t) ∧
    (on → s.rooActive = true → ¬ ok → Completes (exec (.rooSync ring) s) fun t => CompletedWith s t ring d stBadParam ∧ OnlyReports s t) ∧
    (∀ p < 2, on → s.rooActive = true → ok → s.StoreSound → 0 < d.w 1 → s.roo.bulk = [] → s.memberPeer p = true → (s.peer p).acked = [] →
      Completes (exec (.rooSync ring) s) fun t =>
        t.roo.bulk = [{ ring := ring, index := d.index, first := s.roo.bulkNumber, epochs := (d.w 1 + 65535) / 65536 }] ∧
        t.roo.bulkNumber = s.roo.bulkNumber + (d.w 1 + 65535) / 65536 ∧ (t.ring ring).descs = [{ d with phase := .working }] ∧
        RooFrame GrantReg s t))

/-- Leases: rank 0 asks its witness, a standby grants to the rank 0 it sees, a grant of a request of the last 6,000 µs runs the lease to
6,000 µs after that was sent, and never shortens it, a host grant to 6,000 µs from now, and the lease's end drops the roles (R431-R433;
log 174). A member's states: ENABLE with a key enters JOIN, muted, and without one does nothing; JOINWAIT without a peer makes it rank 0
of MEMBER; a demotion by the host or by LAGGING for a second leaves it DEMOTED, muted, with no rank, lease or role; it rejoins 100 ms
later for a cause that permits it; and a disable drops the pending cues, and ends in OFF (R418, R430, R436). The model's own choices that
it meets: logs 3, 11, 85, 86. -/
def Obligations.RoostLeasesAndModes : Prop :=
  ((∀ s : State, s.isOff 0x15 = false → s.rooActive = true → s.rd Reg.ROO_CFG_WITNESS ≠ 0 → Completes (exec .leaseReqTx s) fun t =>
    t.roo.requestNo = (s.roo.requestNo + 1) % 2 ^ 32 ∧ t.roo.leaseReqs.head? = some (t.roo.requestNo, t.now) ∧
    (∀ r ∈ t.roo.leaseReqs, t.now < r.2 + 6000000) ∧
    t.roo.nextLeaseReq = some (t.time.elapsed + 2000000) ∧ t.roo.messages = (s.roo.messages + 1) % 2 ^ 32 ∧
    RooFrame (fun _ => False) s t) ∧
  (∀ (m : RoostMsg) (n : Nat) (s : State), s.Takes 8 m → s.peerOf m.sender.toNat = some n → s.rooState = 3 →
    s.rd Reg.ROO_STAT_RANK = 1 ∨ s.rd Reg.ROO_STAT_RANK = 2 → s.memberPeer n = true → s.peerRank n = 0 →
    Completes (exec (.leaseReqRx m) s) fun t =>
      t.roo.messages = (s.roo.messages + 1) % 2 ^ 32 ∧
      (s.flag (Reg.MAC_STAT_LINK 8) = true → ∃ msg, .roost 0 9 0 msg ∈ t.out) ∧ RooFrame (fun _ => False) s t) ∧
  (∀ (m : RoostMsg) (no sent : Nat) (s : State), s.Takes 9 m → s.rooActive = true →
    s.roo.leaseReqs.find? (fun r => r.1 == no) = some (no, sent) → s.rd Reg.ROO_CFG_WITNESS ≠ 0 → msgField m 0 4 = no →
    Completes (exec (.leaseGrantRx m) s) fun t =>
      t.roo.leaseEnd = (if t.now < sent + 6000000 then some (max (sent + 6000000) (s.roo.leaseEnd.getD 0)) else s.roo.leaseEnd) ∧
      (t.now < sent + 6000000 → t.rd Reg.ROO_STAT_ROLES = 7) ∧
      RooFrame (fun o => o = Reg.ROO_LEASE_REMAIN.off ∨ o = Reg.ROO_STAT_ROLES.off) s t) ∧
  (∀ s : State, s.isOff 0x15 = false → s.rooActive = true → s.rd Reg.ROO_CFG_WITNESS ≠ 1 → Completes (exec .leaseGrantWrite s) fun t =>
    t.roo = { s.roo with leaseEnd := some (s.now + 6000000) } ∧ t.rd Reg.ROO_STAT_ROLES = 7 ∧ t.rd Reg.ROO_LEASE_REMAIN = 6000 ∧
    Frame (fun o => o = Reg.ROO_LEASE_REMAIN.off ∨ o = Reg.ROO_STAT_ROLES.off ∨ ReportReg o) s t
      { s with regs := t.regs, roo := t.roo, host := t.host, chy := t.chy, out := t.out }) ∧
  (∀ (τ : Nat) (s : State), s.isOff 0x15 = false → s.roo.leaseEnd = some τ → Completes (exec .leaseExpiry s) fun t =>
    t.roo = { s.roo with leaseEnd := none } ∧ t.rd Reg.ROO_STAT_ROLES = 0 ∧ t.rd Reg.ROO_LEASE_REMAIN = 0 ∧
    Frame (fun o => o = Reg.ROO_LEASE_REMAIN.off ∨ o = Reg.ROO_STAT_ROLES.off ∨ TimeReg o ∨ ReportReg o) s t
      { s with regs := t.regs, time := t.time, roo := t.roo, host := t.host, chy := t.chy, out := t.out })) ∧
  ((∀ s : State, s.isOff 0x15 = false →
    (s.flag Reg.ROO_STAT_KEY = true → s.flag Reg.ROO_STAT_QUIESCENT = true → s.rooState = 0 → s.roo.sagged = false →
      Completes (exec .rooEnable s) fun t =>
      t.flag Reg.ROO_CTRL_ENABLE = true ∧ t.flag Reg.ROO_STAT_QUIESCENT = false ∧ t.rooState = 1 ∧ t.flag Reg.ROO_STAT_MUTED = true ∧
      t.roo.starts = (s.roo.starts + 1) % 2 ^ 32 ∧ t.roo.messages = 0 ∧ t.roo.joinSince = some s.time.elapsed ∧ RooFrame RooReg s t) ∧
    (s.flag Reg.ROO_STAT_KEY = false → exec .rooEnable s = .next s)) ∧
  (∀ (τ : Nat) (s : State), s.isOff 0x15 = false → s.rooState = 1 → s.roo.joinSince = some τ → (∀ n < 2, s.peerValid n = false) →
    Completes (exec .joinwaitExpiry s) fun t =>
      t.rooState = 3 ∧ t.rd Reg.ROO_STAT_RANK = 0 ∧ t.roo.joinSince = none ∧
      τ + s.rd Reg.ROO_JOINWAIT * 1000000 ≤ t.time.elapsed ∧ RooFrame RooReg s t) ∧
  (∀ s : State, s.isOff 0x15 = false → 1 ≤ s.rooState → s.rooState ≤ 4 → Completes (exec .rooDemote s) fun t =>
    t.rooState = 5 ∧ t.rd Reg.ROO_DEMCAUSE = 5 ∧ t.flag Reg.ROO_STAT_MUTED = true ∧ t.rd Reg.ROO_STAT_RANK = 3 ∧
    t.rd Reg.ROO_STAT_ROLES = 0 ∧ t.roo.leaseEnd = none ∧ t.roo.demotedAt = some s.time.elapsed ∧ RooFrame RooReg s t) ∧
  (∀ (τ : Nat) (s : State), s.isOff 0x15 = false → s.rooState = 4 → s.roo.lagSince = some τ → Completes (exec .laggingTimeout s) fun t =>
    t.rooState = 5 ∧ t.rd Reg.ROO_DEMCAUSE = 4 ∧ τ + 1000000000 ≤ t.time.elapsed ∧ RooFrame RooReg s t) ∧
  (∀ (τ : Nat) (s : State), s.isOff 0x15 = false → s.rooState = 5 → s.roo.demotedAt = some τ →
    let back (t : State) : Prop :=
      t.rooState = 1 ∧ τ + 100000000 ≤ t.time.elapsed ∧ t.roo.joinSince = some t.time.elapsed ∧ t.roo.demotedAt = none ∧
      RooFrame RooReg s t
    (s.rd Reg.ROO_DEMCAUSE ∈ [1, 2, 4, 5, 6] → Completes (exec .rooRejoin s) back) ∧
    (s.flag Reg.ROO_CTRL_AUTOREJOIN = true → s.rd Reg.ROO_DEMCAUSE ∈ [1, 2, 4, 6] → Completes (exec .autorejoinTimer s) back)) ∧
  (∀ s : State, s.isOff 0x15 = false → s.flag Reg.ROO_CTRL_ENABLE = true → (∀ e ∈ s.roo.entries, e.source = none) → s.roo.bulk = [] →
    Completes (exec .rooDisable s) fun t =>
      t.flag Reg.ROO_CTRL_ENABLE = false ∧ t.roo.entries = [] ∧ t.roo.epochs = [] ∧ t.roo.leaseEnd = s.roo.leaseEnd ∧
      t.roo.cueGate = s.flag Reg.OTU_STAT_RUNNING ∧ (s.flag (Reg.MAC_STAT_LINK 8) = true → ∃ msg, .roost 0 2 0 msg ∈ t.out) ∧
      RooFrame (· = Reg.ROO_CTRL_ENABLE.off) s t) ∧
  (∀ s : State, s.isOff 0x15 = false → s.flag Reg.ROO_CTRL_ENABLE = false → s.flag Reg.ROO_STAT_QUIESCENT = false →
    Completes (exec .rooQuiescent s) fun t =>
      t.rooState = 0 ∧ t.flag Reg.ROO_STAT_QUIESCENT = true ∧
      (s.rooState ≠ 0 → t.roo.unmuteWaits = s.flag Reg.ROO_STAT_MUTED) ∧ RooFrame RooReg s t))

/-! ### Power, supply, starts and boundary scan -/

/-- PWR_ENTER: a target that is the current state completes with OK at once, and a reserved bit with BAD_PARAM; a block that refuses at
the vote completes the entry with REFUSED, naming a block of the target's set, in the state before; with none refusing, Idle stops its
blocks and completes with OK, and Dormant and Cocoon write the completion, latch the pads and remove power; Run wakes every block from
Idle (R444-R453). The model's own choices that it meets: logs 66, 67, 68. -/
def Obligations.PowerEntry : Prop :=
  let part (o : Nat) : Prop := (0x1E0000 ≤ o ∧ o < 0x1E0030) ∨ (0x30000 ≤ o ∧ o < 0x31000) ∨ TimeReg o ∨ ReportReg o
  let atOnce (target : Nat) (ring : Fin 64) (d : Desc) (s : State) (a : Answer) : Prop :=
    d.w 0 % 4 = target →
    (d.reservedOk false 1 = false ∨ 4 ≤ d.w 0 → Completes a fun t => CompletedWith s t ring d stBadParam ∧ OnlyReports s t) ∧
    (d.reservedOk false 1 = true → d.w 0 = target → s.rd Reg.PWR_STAT_STATE = target →
      Completes a fun t => CompletedWith s t ring d stOk ∧ OnlyReports s t)
  let voted (target : Nat) (ring : Fin 64) (d : Desc) (s : State) (a : Answer) : Prop :=
    d.w 0 = target → d.reservedOk false 1 = true → s.rd Reg.PWR_STAT_STATE ≠ target →
    (∃ b ∈ s.targetSet target, b ≠ 0x11 ∧ (s.refuses ring b).isSome = true) → Completes a fun t =>
      CompletedWith s t ring d stRefused ∧ t.rd Reg.PWR_STAT_STATE = s.rd Reg.PWR_STAT_STATE ∧ t.rd Reg.PWR_STAT_TARGET = 0 ∧
      (∃ b ∈ s.targetSet target, t.rd Reg.PWR_REFUSE_BLOCK = b) ∧ t.rd Reg.PWR_REFUSE_PHASE = 0 ∧
      t.rd Reg.PWR_REFUSE_COUNT = satAdd 8 (s.rd Reg.PWR_REFUSE_COUNT) 1 ∧
      Frame part s t { s with regs := t.regs, time := t.time, host := t.host, out := t.out, fresh := t.fresh }
  let entered (target : Nat) (ring : Fin 64) (d : Desc) (s : State) (a : Answer) : Prop :=
    d.w 0 = target → d.reservedOk false 1 = true → s.rd Reg.PWR_STAT_STATE ≠ target →
    ((∀ b ∈ s.targetSet target, s.refuses ring b = none) → s.arb.locks = [] → s.arb.bursts = [] → Completes a fun t =>
      (target = 1 → CompletedWith s t ring d stOk ∧ t.rd Reg.PWR_STAT_STATE = 1 ∧ (∀ b ∈ s.targetSet 1, t.isOff b = true) ∧
        Frame part s t { s with regs := t.regs, time := t.time, pwr := t.pwr, off := t.off, arb := t.arb, host := t.host, out := t.out,
                                fresh := t.fresh }) ∧
      (target ≠ 1 → (∃ e : Bytes, .hostWrite (s.ringCBase ring + d.index % s.ringSize ring * 32) e ∈ t.out ∧ leNat (e.take 2) = stOk) ∧
        t.pwr.mode = (if target = 2 then .dormant else .cocoonPending) ∧ t.pwr.supplyOff = decide (target = 3) ∧
        t.store.powered = false ∧ t.flag Reg.PWR_STAT_PADLATCH = true ∧ t.off = allBlocks ∧ t.host.rings = [] ∧ t.pending = s.pending))
  (∀ (ring : Fin 64) (acts : List EntryEvent) (wake : Option (Fin 3)) (d : Desc) (s : State), s.Alone ring d →
    s.startedDesc ring 0x1601 = some d →
    atOnce 0 ring d s (exec (.pwrEnterRun ring) s) ∧ atOnce 1 ring d s (exec (.pwrEnterIdle ring acts wake) s) ∧
    atOnce 2 ring d s (exec (.pwrEnterDormant ring acts wake) s) ∧ atOnce 3 ring d s (exec (.pwrEnterCocoon ring acts wake) s)) ∧
  (∀ (ring : Fin 64) (acts : List EntryEvent) (d : Desc) (s : State), s.Alone ring d → s.startedDesc ring 0x1601 = some d →
    voted 1 ring d s (exec (.pwrEnterIdle ring acts none) s) ∧ voted 2 ring d s (exec (.pwrEnterDormant ring acts none) s) ∧
    voted 3 ring d s (exec (.pwrEnterCocoon ring acts none) s)) ∧
  (∀ (ring : Fin 64) (d : Desc) (s : State), s.Alone ring d → s.startedDesc ring 0x1601 = some d →
    entered 1 ring d s (exec (.pwrEnterIdle ring [] none) s) ∧ entered 2 ring d s (exec (.pwrEnterDormant ring [] none) s) ∧
    entered 3 ring d s (exec (.pwrEnterCocoon ring [] none) s)) ∧
  (∀ (ring : Fin 64) (d : Desc) (s : State), s.Alone ring d → s.startedDesc ring 0x1601 = some d → d.w 0 = 0 →
    d.reservedOk false 1 = true → s.rd Reg.PWR_STAT_STATE = 1 →
    Completes (exec (.pwrEnterRun ring) s) fun t =>
      CompletedWith s t ring d stOk ∧ t.rd Reg.PWR_STAT_STATE = 0 ∧
        t.pwr = { s.pwr with idle := [], lowered := t.pwr.lowered, stoppedTime := t.pwr.stoppedTime } ∧ t.off = t.offNow ∧
      t.rd Reg.PWR_LASTWAKE_SRC = 1 ∧ t.rd Reg.PWR_LASTWAKE_FROM = 1 ∧
      Frame part s t { s with regs := t.regs, time := t.time, pwr := t.pwr, off := t.off, arb := t.arb, host := t.host, chy := t.chy,
                              out := t.out, fresh := t.fresh })

/-- Wakes: the fall of VCORE makes Cocoon of Cocoon pending; WAKE_N, the alarm and a matched pattern wake as PWR_WAKE_EN allows, from Idle
to Run or from Dormant and Cocoon pending to a start with cause 9, and PWR_LASTWAKE names them; PADREL gives the pads back (R380, R446,
R450, R451, R454). Boundary scan while the part runs: each instruction is loaded and shifts out its register: IDCODE the identification
word, EXTEST and SAMPLE/PRELOAD the captured cells, the others one bit; EXTEST drives the pins whose enable cell is set; outside Run the
port does nothing (R550). The model's own choices that it meets: logs 3, 24, 116. -/
def Obligations.WakesPadsAndBoundaryScan : Prop :=
  ((∀ s : State, s.pwr.mode = .cocoonPending → exec .cocoonVcoreFall s = .next { s with pwr := { s.pwr with mode := .cocoon } }) ∧
  (∀ (data : Bytes) (k : Nat) (s : State), s.rd Reg.PWR_STAT_STATE ≠ 1 →
    let woken (src pat : Nat) (t : State) : Prop :=
      t.pwr = { s.pwr with mode := .on, held := some 9, released := true, supplyOff := false } ∧ t.off = allBlocks ∧
      t.rd Reg.PWR_LASTWAKE_SRC = src ∧ t.rd Reg.PWR_LASTWAKE_FROM = (if s.pwr.mode = .cocoonPending then 3 else 2) ∧
      t.rd Reg.PWR_LASTWAKE_PAT = pat ∧ t.rd Reg.PWR_STAT_STATE = 4 ∧
      (s.pwr.mode = .cocoonPending → t.out = s.out ++ [.pin "SUPPLY_OFF" 0 false]) ∧ (src = 5 → t.rd Reg.MAC_WAKE_WAKE_LAST = pat) ∧
      Frame (fun o => o = 0x1E0004 ∨ o = 0x1E0018 ∨ (src = 5 ∧ o = 0x140400)) s t
        { s with regs := t.regs, pwr := t.pwr, off := t.off, out := t.out }
    let deep : Prop := s.pwr.mode = .dormant ∨ s.pwr.mode = .cocoonPending
    (deep → s.flag Reg.PWR_WAKE_EN_PIN = true → Completes (exec .wakeNAssert s) (woken 2 0)) ∧
    (deep → s.flag Reg.PWR_WAKE_EN_RTC = true → s.rd Reg.PWR_RTC = s.rd Reg.PWR_ALARM → Completes (exec .rtcAlarm s) (woken 3 0)) ∧
    (s.pwr.mode = .dormant → s.flag Reg.PWR_WAKE_EN_PATTERN = true → (List.range 4).find? (s.wakeMatch data) = some k →
      Completes (exec (.wakePatternMatch data) s) (woken 5 k))) ∧
  (∀ (data : Bytes) (k : Nat) (s : State), s.pwr.mode = .dormant → s.flag Reg.PWR_WAKE_EN_PATTERN = false →
    (List.range 4).find? (s.wakeMatch data) = some k →
    Completes (exec (.wakePatternMatch data) s) fun t => t.rd Reg.MAC_WAKE_WAKE_LAST = k ∧ OnlyRegs (· = 0x140400) s t) ∧
  (∀ s : State, s.rd Reg.PWR_STAT_STATE = 1 →
    let woken (src : Nat) (t : State) : Prop :=
      t.rd Reg.PWR_STAT_STATE = 0 ∧ t.pwr = { s.pwr with idle := [], lowered := t.pwr.lowered, stoppedTime := t.pwr.stoppedTime } ∧
        t.off = t.offNow ∧ t.rd Reg.PWR_LASTWAKE_SRC = src ∧
      t.rd Reg.PWR_LASTWAKE_FROM = 1 ∧
      Frame (fun o => (0x1E0000 ≤ o ∧ o < 0x1E0030) ∨ (0x30000 ≤ o ∧ o < 0x31000) ∨ TimeReg o ∨ ReportReg o) s t
        { s with regs := t.regs, time := t.time, pwr := t.pwr, off := t.off, arb := t.arb, host := t.host, chy := t.chy, out := t.out,
                 fresh := t.fresh }
    (s.flag Reg.PWR_WAKE_EN_PIN = true → Completes (exec .wakeNAssert s) (woken 2)) ∧
    (s.flag Reg.PWR_WAKE_EN_RTC = true → s.rd Reg.PWR_RTC = s.rd Reg.PWR_ALARM → Completes (exec .rtcAlarm s) (woken 3))) ∧
  (∀ s : State, s.isOff 0x16 = false →
    (s.flag Reg.PWR_STAT_PADLATCH = true → s.jtag.ir = 1 → Completes (exec .padrel s) fun t =>
      t.flag Reg.PWR_STAT_PADLATCH = false ∧ (∀ p : Fin 8, .pin "DMX_DE" p (s.dmx p).driven ∈ t.out ∧
        .pin "TIMEPULSE" p (s.pulseLevel p) ∈ t.out) ∧ Frame (· = 0x1E0004) s t { s with regs := t.regs, out := t.out }) ∧
    (s.flag Reg.PWR_STAT_PADLATCH = false → exec .padrel s = .next s))) ∧
  ((∀ (capture shift : BitVec 100) (code : BitVec 8) (dmi : Bool) (s : State), s.jtagOn = true →
    let loads (a : Answer) (ir : Nat) (P : State → Prop) : Prop :=
      Completes a fun t => t.jtag.ir = ir ∧ P t ∧ t = { s with jtag := t.jtag, out := t.out }
    loads (exec (.extest capture shift) s) 0 (fun t => t.jtag.boundary = shift.toNat ∧ .tdo 100 capture.toNat ∈ t.out ∧
      ∀ c ∈ boundaryOutputs, bitOf shift.toNat (c.2.2 + 1) = true → .pin c.1 c.2.1 (bitOf shift.toNat c.2.2) ∈ t.out) ∧
    loads (exec .idcode s) 1 (fun t => t.out.getLast? = some (.tdo 32 (0x17640000 + Config.jtagMaker.toNat * 2 + 1)) ∧
      t.jtag.boundary = s.jtag.boundary) ∧
    loads (exec (.samplePreload capture shift) s) 2 (fun t => t.jtag.boundary = shift.toNat ∧
      t.out.getLast? = some (.tdo 100 capture.toNat)) ∧
    loads (exec .highz s) 8 (fun t => t.out.getLast? = some (.tdo 1 0) ∧ t.jtag.boundary = s.jtag.boundary) ∧
    loads (exec .clamp s) 9 (fun t => t.out.getLast? = some (.tdo 1 0) ∧ t.jtag.boundary = s.jtag.boundary ∧
      ∀ c ∈ boundaryOutputs, bitOf s.jtag.boundary (c.2.2 + 1) = true → .pin c.1 c.2.1 (bitOf s.jtag.boundary c.2.2) ∈ t.out) ∧
    (code.toNat ∉ [0x00, 0x01, 0x02, 0x08, 0x09, 0x10, 0x11] → loads (exec (.bypass code) s) code.toNat (fun t =>
      t.out.getLast? = some (.tdo 1 0))) ∧
    loads (exec (.debugTransport dmi) s) (0x10 + b2n dmi) (fun t => s.rd Reg.CHY_STAT_DEBUG = 0 → t.out.getLast? = some (.tdo 1 0))) ∧
  (∀ (capture shift : BitVec 100) (code : BitVec 8) (dmi : Bool) (s : State), s.jtagOn = false →
    exec (.extest capture shift) s = .next s ∧ exec .idcode s = .next s ∧ exec (.samplePreload capture shift) s = .next s ∧
    exec .highz s = .next s ∧ exec .clamp s = .next s ∧ exec (.bypass code) s = .next s ∧ exec (.debugTransport dmi) s = .next s))

/-- The supplies: a warning level starts the sag condition, demotes a member and saves the log; it ends above 11.2 V, which releases a
sag's reset; below the reset level and below VCORE's the part is held in reset but for KEEP and the store; a fallen store rail loses every
die; each fallen rail sets its bit; an AVS step commands a level of 720 to 800 mV within 5 mV, and stops at a wrong answer (R127,
R456-R459, R538). The model's own choices that it meets: logs 3, 40, 74. -/
def Obligations.SupplyMonitors : Prop :=
  (∀ (level : BitVec 16) (s : State), s.pwr.mode = .on → level.toNat < 10800 → s.flag Reg.PWR_STAT_SAG = false → s.rooState ≤ 4 →
    s.isOff 0x15 = false → s.isOff 0x18 = false → (∀ p < 16, s.flag (Reg.WNG_CTRL_ENABLE p) = false) →
    Completes (exec (.sagWarn level) s) fun t =>
      t.flag Reg.PWR_STAT_SAG = true ∧ t.rd Reg.PWR_VMIN = min (min (s.rd Reg.PWR_VMIN) s.pwr.rail) level.toNat ∧
      t.pwr = { s.pwr with sagLow := level.toNat, rail := level.toNat } ∧ (s.chyUp = true → t.chy.unflushed = 0) ∧
      (1 ≤ s.rooState → t.rooState = 5 ∧ t.rd Reg.ROO_DEMCAUSE = 7) ∧ (s.rooState = 0 → t.roo = s.roo) ∧
      Frame (fun o => (0x1E0000 ≤ o ∧ o < 0x1E0030) ∨ RooReg o ∨ ReportReg o) s t
        { s with regs := t.regs, pwr := t.pwr, roo := t.roo, macs := t.macs, host := t.host, chy := t.chy, out := t.out,
                 fresh := t.fresh }) ∧
  (∀ (level : BitVec 16) (s : State), s.pwr.mode = .on → 11200 < level.toNat → s.flag Reg.PWR_STAT_SAG = true →
    Completes (exec (.sagClear level) s) fun t =>
      t.flag Reg.PWR_STAT_SAG = false ∧
      t.pwr = { s.pwr with rail := level.toNat, released := s.pwr.released || s.pwr.held == some 4 || s.pwr.held == some 5 } ∧
      Frame (fun o => (0x1E0000 ≤ o ∧ o < 0x1E0030) ∨ ReportReg o) s t
        { s with regs := t.regs, pwr := t.pwr, host := t.host, chy := t.chy, out := t.out }) ∧
  (∀ (level : BitVec 16) (s : State), s.pwr.mode = .on →
    let held (cause : Nat) (t : State) : Prop :=
      t.pwr.held = some cause ∧ t.pwr.released = false ∧ t.off = allBlocks ∧ t.store = s.store ∧ t.pending = s.pending ∧
      t.host.rings = [] ∧ t.rd Reg.PWR_RTC = s.rd Reg.PWR_RTC
    (level.toNat < 9600 → Completes (exec (.sagReset level) s) fun t =>
      held 4 t ∧ t.rd Reg.PWR_SAGCNT = satAdd 16 (s.rd Reg.PWR_SAGCNT) 1 ∧ t.pwr.rail = level.toNat) ∧
    Completes (exec .vcoreLow s) (fun t => held 5 t ∧ bitOf (t.rd Reg.PWR_RAIL) 0 = true)) ∧
  (∀ s : State, s.pwr.mode = .on → demotesFrom 3 s.rooState = false → Completes (exec .vstoreLow s) fun t =>
    (∀ d < 8, t.dieLost d = true ∧ bitOf (t.rd Reg.STO_STAT_DIE_LOST) d = true) ∧ bitOf (t.rd Reg.PWR_RAIL) 1 = true ∧
    t.pwr = { s.pwr with vstoreFell := true } ∧
    Frame (fun o => o = 0x20004 ∨ (∃ d < 8, o = (Reg.STO_DIE_STAT_STATE d).off) ∨ o = Reg.PWR_RAIL.off ∨ ReportReg o) s t
      { s with regs := t.regs, pwr := t.pwr, host := t.host, chy := t.chy, out := t.out }) ∧
  (∀ (rail : Fin 4) (s : State), s.pwr.mode = .on → Completes (exec (.railFault rail) s) fun t =>
    bitOf (t.rd Reg.PWR_RAIL) (2 + rail.val) = true ∧
    (∀ k < 7, k ≠ 2 + rail.val → bitOf (t.rd Reg.PWR_RAIL) k = bitOf (s.rd Reg.PWR_RAIL) k) ∧
    RegsAndReports (· = Reg.PWR_RAIL.off) s t) ∧
  (∀ s : State, Completes (exec .vkeepLow s) fun t =>
    t.flag Reg.PWR_STAT_KEEP_LOW = true ∧ bitOf (t.rd Reg.PWR_RAIL) 6 = true ∧ t.pwr = { s.pwr with keepOk := false } ∧
    Frame (fun o => o = Reg.PWR_STAT_STATE.off ∨ o = Reg.PWR_RAIL.off ∨ ReportReg o) s t
      { s with regs := t.regs, pwr := t.pwr, host := t.host, chy := t.chy, out := t.out }) ∧
  (∀ (ack : Bool) (vout : BitVec 16) (s : State), s.pwr.avsStopped = false → s.flag Reg.CHY_STAT_RUN = true → 720 ≤ s.pwr.vcore →
    s.pwr.vcore ≤ 800 →
    Completes (exec (.avsStep ack vout) s) fun t => ∃ v : Nat, 720 ≤ v ∧ v ≤ 800 ∧ v ≤ s.pwr.vcore + 5 ∧ s.pwr.vcore ≤ v + 5 ∧
      (s.padsCut = false → t.out = s.out ++ [.avs v]) ∧ t.pwr.vcore = (if ack then v else s.pwr.vcore) ∧
      t.pwr.avsStopped = (!ack || decide (15 < ((vout.toNat : Int) - v).natAbs)) ∧ t.pwr.avsNext = t.time.elapsed + 1000000 ∧
      Frame (fun o => TimeReg o ∨ o = Reg.CHY_LOGSEQ.off) s t
        { s with regs := t.regs, time := t.time, pwr := t.pwr, chy := t.chy, out := t.out, fresh := t.fresh })

/-- Starts: RESET_N and TESTMODE hold every domain but KEEP; a lost clock stops its blocks and drops their links, and its return brings
them back; a start that is due classifies itself cold or warm, keeps the store or clears it, and runs the eclosed image or a staged one on
probation; READY releases the blocks at device time 0; a start that is not ready in 2 s is a failed boot (R518, R536, R543, R554-R561).
The model's own choices that it meets: logs 3, 39, 47, 48, 75, 76, 77, 114. -/
def Obligations.StartsAndClocks : Prop :=
  (∀ (long : Bool) (s : State), s.pwr.mode ≠ .cocoon → s.pwr.held = none → Completes (exec (.resetNAssert long) s) fun t =>
    t.pwr.held = some (if long then 3 else 2) ∧ t.pwr.released = true ∧ t.off = allBlocks ∧ t.store = s.store ∧ t.pending = s.pending) ∧
  (∀ s : State, s.pwr.mode ≠ .cocoon → s.pwr.testmode = false → Completes (exec (.testmodeHigh true) s) fun t =>
    t.pwr.held = some 1 ∧ t.pwr.testmode = true ∧ t.pwr.released = false ∧ t.off = allBlocks ∧ t.pending = s.pending) ∧
  (∀ s : State, s.pwr.mode ≠ .cocoon → s.pwr.testmode = true →
    exec (.testmodeHigh false) s = .next { s with pwr := { s.pwr with testmode := false, released := true } }) ∧
  (∀ (c : Fin 7) (s : State), s.pwr.lostClocks.contains c.val = false →
    (c = 0 → s.pwr.mode = .on → Completes (exec (.refclkLoss c) s) fun t =>
      t.pwr.held = some 6 ∧ t.pwr.lostClocks = insertNat 0 s.pwr.lostClocks ∧ t.off = allBlocks) ∧
    (c ≠ 0 → Completes (exec (.refclkLoss c) s) fun t =>
      t.pwr.lostClocks = insertNat c s.pwr.lostClocks ∧
      (s.pwr.mode = .on → s.pwr.starting = none → ∀ b ∈ clockBlocks c, t.isOff b = true) ∧
      (c = 1 → ∀ p < 10, t.flag (Reg.MAC_STAT_LINK p) = false ∧ (t.mac p).tx = [] ∧ (t.mac p).rx = []) ∧
      (c = 2 → ∀ p < 16, t.flag (Reg.WNG_STAT_RXLOCK p) = false) ∧ (c = 4 → ∀ k < 4, t.flag (Reg.VIN_STAT_LOCK k) = false) ∧
      (c = 5 → Frame ReportReg s t { s with regs := t.regs, pwr := t.pwr, off := t.off, host := t.host, chy := t.chy, out := t.out }))) ∧
  (∀ (c : Fin 7) (s : State), s.pwr.lostClocks.contains c.val = true →
    (c = 0 → s.pwr.held = some 6 → exec (.refclkReturn c) s =
      .next { s with pwr := { s.pwr with lostClocks := s.pwr.lostClocks.filter (· != 0), released := true } }) ∧
    (c ≠ 0 → c ≠ 5 → Completes (exec (.refclkReturn c) s) fun t =>
      t.pwr = { s.pwr with lostClocks := s.pwr.lostClocks.filter (· != c.val), lowered := t.pwr.lowered, stoppedTime := t.pwr.stoppedTime } ∧
      t.off = t.offNow) ∧
    (c = 5 → Completes (exec (.refclkReturn c) s) (OnlyReports s))) ∧
  (∀ (rails lost : Bool) (staged eclosed : Fin 9) (bist : List BistDie) (cause : Nat) (keep cold kept : Bool) (s : State), s.startCause rails lost = some cause →
    s.pwr.failedBoots < 3 → s.chy.session = none → keep = (s.pwr.keepOk && !(rails && lost) && !s.flag Reg.PWR_STAT_KEEP_LOW) →
    cold = !(warmCause cause && keep) → kept = (!cold && cause != 9 && !s.pwr.vstoreFell && s.store.powered) →
    let started (t : State) : Prop :=
      t.pwr.starting = some { cause := cause, began := s.time.elapsed, cold := cold, kept := kept, recovery := false,
                                bist := if cold then bist.take 8 else [] } ∧
      t.rd Reg.PWR_STAT_STATE = 0 ∧ t.flag Reg.CHY_STAT_RUN = false ∧ t.pwr.starts = (if keep then s.pwr.starts else 0) + 1 ∧
      (kept = true → t.store.bytes = s.store.bytes ∧ t.store.marks = s.store.marks) ∧ (kept = false → t.store = storeReset) ∧
      t.off = allBlocks.filter (fun b => b != 0 && b != 1 && b != 0x18) ∧ t.pending = s.pending
    (eclosed = 0 → s.rd Reg.CHY_STAT_CAND ≠ 2 → s.rd Reg.CHY_STAT_CAND ≠ 3 →
      Completes (exec (.start rails ⟨lost, bist⟩ staged eclosed) s) fun t => started t ∧ t.rd Reg.CHY_INSTAR = imageInstar s.chy.eclosed) ∧
    (staged = 0 → s.rd Reg.CHY_STAT_CAND = 2 → Completes (exec (.start rails ⟨lost, bist⟩ staged eclosed) s) fun t =>
      started t ∧ t.rd Reg.CHY_STAT_CAND = 3 ∧ t.chy.windowOpen = true ∧ t.rd Reg.CHY_INSTAR = imageInstar s.chy.staged)) ∧
  (∀ (st : StartSt) (s : State), s.pwr.starting = some st → s.chy.restart = none → s.flag Reg.CHY_STAT_HALTED = false → s.chy.held = [] →
    let ready (t : State) : Prop :=
      t.pwr = { s.pwr with starting := none, failedBoots := 0 } ∧ t.flag Reg.CHY_STAT_RUN = true ∧ t.now = 0 ∧ t.off = t.offNow ∧
      t.chy.startAt = st.began
    ((∀ d ∈ st.bist, d.repaired = true) → st.bist.length ≤ 8 → Completes (exec .ready s) fun t =>
      ready t ∧ t.rd Reg.CHY_LOGSEQ = (s.rd Reg.CHY_LOGSEQ + 1) % 2 ^ 32 ∧ (st.cold = true → t.flag Reg.STO_STAT_BIST_OK = true) ∧
      (∀ e ∈ st.bist.zipIdx, t.rd (Reg.STO_DIE_STAT_SPARES e.2) = e.1.spares.toNat) ∧
      Frame (fun o => o = Reg.CHY_STAT_RUN.off ∨ o = Reg.CHY_LOGSEQ.off ∨ TimeReg o ∨ (st.cold = true ∧ o = Reg.STO_STAT_BIST_OK.off) ∨
          (∃ d < st.bist.length, o = (Reg.STO_DIE_STAT_SPARES d).off)) s t
        { s with regs := t.regs, time := t.time, pwr := t.pwr, chy := t.chy, off := t.off, fresh := t.fresh }) ∧
    (∀ x : BistDie, st.cold = true → st.bist = [x] → x.repaired = false → s.rooState = 0 → Completes (exec .ready s) fun t =>
      ready t ∧ t.flag Reg.STO_STAT_BIST_OK = false ∧ t.dieLost 0 = true ∧ bitOf (t.rd Reg.STO_STAT_DIE_LOST) 0 = true ∧
      t.rd (Reg.STO_DIE_STAT_SPARES 0) = x.spares.toNat ∧ t.rd Reg.CHY_LOGSEQ = (s.rd Reg.CHY_LOGSEQ + 2) % 2 ^ 32)) ∧
  (∀ (st : StartSt) (s : State), s.pwr.starting = some st → Completes (exec .bootWatchdogExpiry s) fun t =>
    t.pwr.held = some 8 ∧ t.pwr.released = true ∧ t.pwr.starting = none ∧ t.pwr.failedBoots = s.pwr.failedBoots + 1 ∧
    st.began + 2000000000 ≤ t.time.elapsed ∧ t.off = allBlocks ∧ t.store = s.store ∧ t.pending = s.pending)

/-! ### Thermal and self-calibration -/

/-- A thermal update takes eight readings and six powers: a healthy sensor's estimate is its reading, one that reads out of range fails
with cause 1, HOT is the highest estimate, the die throttle moves toward its target, the eighth update at DLIM sets LIMIT and the eighth
at TRIP trips; the trip's reset is released 5 s later; CLR clears a failure whose sensor has met no cause for a second (R462-R470). Node
models: an enable counts the invalid classes and gives the model in use its start, ambient, unthrottled and in the band of its ambient,
and writes nothing else to the store; a disable ends them, at once while no composite runs (R472, R474, R475, R477, R481). The model's own
choices that it meets: logs 3, 41, 51, 108, 109. -/
def Obligations.ThermalModels : Prop :=
  (
  let off (o : Nat) : Prop := (0x1F0000 ≤ o ∧ o < 0x1F0200) ∨ TimeReg o ∨ ReportReg o
  (∀ (sens : List (BitVec 16 × Bool)) (power : List Word) (s : State), s.isOff 0x17 = false → sens.length = 8 → power.length = 6 →
    s.thm.tripRun < 7 → s.flag Reg.THM_CTRL_NODE_EN = false →
    Completes (exec (.thmUpdate sens power) s) fun t =>
      s.thm.next ≤ t.time.elapsed ∧ t.thm.next = t.time.elapsed + 1000000 ∧ t.thm.updates = s.thm.updates + 1 ∧
      (∀ (d : Nat) (w : Word), power[d]? = some w → t.rd (Reg.THM_PWR d) = w.toNat) ∧
      (∀ (r : Nat) (v : BitVec 16) (bad : Bool), sens[r]? = some (v, bad) →
        t.rdInt (Reg.THM_SENS_TEMP_READ r) = v.toInt ∧
        ((s.sensor r).failed = none → readingOut v.toInt bad = true →
          t.flag (Reg.THM_SENS_STAT_FAULT r) = true ∧ t.rd (Reg.THM_SENS_STAT_CAUSE r) = 1 ∧ bitOf (t.rd Reg.THM_STAT_FAULTS) r = true) ∧
        ((s.sensor r).failed = none → readingOut v.toInt bad = false → s.thm.updates < 1000 →
          t.rdInt (Reg.THM_SENS_TEMP_EST r) = v.toInt)) ∧
      (∀ r < 8, t.rdInt (Reg.THM_SENS_TEMP_EST r) ≤ t.rdInt Reg.THM_DTH_HOT) ∧
      t.rdInt (Reg.THM_SENS_TEMP_EST (t.rd Reg.THM_STAT_HOTREG)) = t.rdInt Reg.THM_DTH_HOT ∧
      t.rd Reg.THM_DTH_DTH = throttleStep (s.rd Reg.THM_DTH_DTH)
        (if t.rdInt Reg.THM_DTH_HOT ≤ s.rdInt Reg.THM_DIE_DLIM then 0x8000
         else max (s.rd Reg.THM_TRIP_DMIN : Int)
           (0x8000 - ((t.rdInt Reg.THM_DTH_HOT - s.rdInt Reg.THM_DIE_DLIM) * s.rd Reg.THM_DIE_KD + 128) / 256)).toNat
        (s.rd Reg.THM_CTRL_THSHIFT) ∧
      (s.flag Reg.THM_STAT_LIMIT = false → s.thm.hotRun = 7 → s.rdInt Reg.THM_DIE_DLIM ≤ t.rdInt Reg.THM_DTH_HOT →
        t.flag Reg.THM_STAT_LIMIT = true) ∧
      Frame off s t
        { s with regs := t.regs, time := t.time, thm := t.thm, host := t.host, chy := t.chy, out := t.out, fresh := t.fresh }) ∧
  (∀ (sens : List (BitVec 16 × Bool)) (power : List Word) (k : Nat) (v : BitVec 16) (s : State), s.isOff 0x17 = false →
    sens.length = 8 → power.length = 6 → 7 ≤ s.thm.tripRun → s.thm.updates < 1000 →
    (∀ r < 8, (s.sensor r).failed = none) → (∀ e ∈ sens, readingOut e.1.toInt e.2 = false) → sens[k]? = some (v, false) →
    s.rdInt Reg.THM_TRIP_TRIP ≤ v.toInt →
    Completes (exec (.thmUpdate sens power) s) fun t =>
      t.pwr.held = some 7 ∧ t.pwr.heldAt = t.time.elapsed ∧ t.pwr.released = false ∧ t.off = allBlocks ∧
      t.rd Reg.THM_TRIPCNT = satAdd 16 (s.rd Reg.THM_TRIPCNT) 1 ∧ t.store = s.store ∧ t.pending = s.pending) ∧
  (∀ s : State, s.pwr.held = some 7 → Completes (exec .thermalTripRelease s) fun t =>
    t.pwr = { s.pwr with released := true } ∧ s.pwr.heldAt + 5000000000 ≤ t.time.elapsed ∧
    Frame TimeReg s t { s with regs := t.regs, time := t.time, pwr := t.pwr }) ∧
  (∀ (r : Fin 8) (s : State), s.isOff 0x17 = false →
    (s.flag (Reg.THM_SENS_STAT_PASS1S r) = true → s.flag (Reg.THM_SENS_STAT_FAULT r) = true → Completes (exec (.sensorClr r) s) fun t =>
      t.flag (Reg.THM_SENS_STAT_FAULT r) = false ∧ t.rd (Reg.THM_SENS_STAT_CAUSE r) = 0 ∧ bitOf (t.rd Reg.THM_STAT_FAULTS) r = false ∧
      (t.sensor r).failed = none ∧
      Frame (fun o => o = 0x1F0004 ∨ o = 0x1F0108 + 0x20 * r.val) s t { s with regs := t.regs, thm := t.thm }) ∧
    (s.flag (Reg.THM_SENS_STAT_PASS1S r) = false ∨ s.flag (Reg.THM_SENS_STAT_FAULT r) = false → exec (.sensorClr r) s = .next s))) ∧
  (
  let cls (s : State) (c : Nat) (k : Nat) : Nat := s.word32At (s.rd Reg.THM_PTAB + 32 * c + 4 * k)
  let model (s : State) (m k : Nat) : Nat := s.word32At (s.rd Reg.THM_MTAB + 8 * m + 4 * k)
  let on (s t : State) : Prop :=
    t.flag Reg.THM_CTRL_NODE_EN = true ∧ t.flag Reg.THM_STAT_QUIESCENT = false ∧
    t.rd Reg.THM_STAT_BADCLS = (List.range 64).countP (fun c => thmClassBad (cls s c)) ∧
    t.thm = { s.thm with below := [] } ∧
    Frame (fun o => o = 0x1F0000 ∨ o = 0x1F0004 ∨ GrantReg o ∨ ReportReg o) s t
      { s with regs := t.regs, thm := t.thm, store := { s.store with bytes := t.store.bytes }, host := t.host, chy := t.chy, out := t.out,
               fresh := t.fresh }
  (∀ s : State, s.isOff 0x17 = false → s.flag Reg.THM_CTRL_NODE_EN = false → s.StoreSound →
    ((∀ m < 4096, bitOf (model s m 0) 0 = false) → Completes (exec .nodeEnSet s) fun t => on s t ∧ t.store = s.store) ∧
    (∀ m c : Nat, m < 4096 → bitOf (model s m 0) 0 = true → (∀ k < 4096, k ≠ m → bitOf (model s k 0) 0 = false) →
      c = modelClass (model s m 0) → (thmClassOf (cls s c)).valid = true → thmClassBad (cls s c) = false →
      Completes (exec .nodeEnSet s) fun t => ∃ amb : Int, amb = s.rdInt (Reg.THM_AMB (modelZone (model s m 0))) * 256 ∧ on s t ∧
        t.modelWord m 0 = low 32 amb ∧ t.modelWord m 1 = 0 ∧ t.modelWord m 2 = 0x80008000 ∧
        t.modelWord m 3 = 5 * ((thmClassOf (cls s c)).thresholds.filter (fun b => decide (b < amb))).length ∧
        StoreKept (fun a => modelArea m ≤ a ∧ a < modelArea m + 16) s t)) ∧
  (∀ s : State, s.isOff 0x17 = false → s.flag Reg.THM_CTRL_NODE_EN = true → Completes (exec .nodeEnClear s) fun t =>
    t.flag Reg.THM_CTRL_NODE_EN = false ∧ (s.flag Reg.PIX_STAT_BUSY = false → t.flag Reg.THM_STAT_QUIESCENT = true) ∧
    (s.flag Reg.PIX_STAT_BUSY = true → t.flag Reg.THM_STAT_QUIESCENT = s.flag Reg.THM_STAT_QUIESCENT) ∧
    RegsAndReports (fun o => o = 0x1F0000 ∨ o = 0x1F0004) s t))

/-- Self-calibration: an RTC second counts and computes the oscillator's correction; CAL_RUN checks its fields, waits while a run is on,
begins, or ends as not ready; AUTO_OSC begins the oscillator's own; a TIME correction within 50 ns is applied whole at once while no frame
is in emission, and is left to later steps otherwise, and one past it fails; transmit training of a Wingbeat port has the best setting, or
the old one, in force before the LATCH, and its run ends with the frame; an OSC run within 30 ppm sets C0 (R482-R489). The model's own
choices that it meets: logs 3, 41, 110. -/
def Obligations.SelfCalibration : Prop :=
  let sc (o : Nat) : Prop := 0x88000 ≤ o ∧ o < 0x88020
  let ends (s t : State) (r : CalRunSt) (d : Desc) (status result : Nat) : Prop :=
    CompletedWith s t r.ring d status ∧ t.selfCal.run = none ∧ t.flag Reg.CAL_SC_STAT_BUSY = false ∧ t.rd Reg.CAL_SC_STAT_KIND = 0 ∧
    t.rd Reg.CAL_SC_RUNS = satAdd 32 (s.rd Reg.CAL_SC_RUNS) 1 ∧ t.rd Reg.CAL_SC_RESULT = result % 2 ^ 32 ∧
    Frame (fun o => sc o ∨ TimeReg o ∨ ReportReg o) s t
      { s with regs := t.regs, time := t.time, selfCal := t.selfCal, wings := t.wings, host := t.host, out := t.out, fresh := t.fresh }
  (∀ s : State,
    (s.pwr.lostClocks.contains 6 = true → exec .rtcSecond s = .next s) ∧
    (s.pwr.lostClocks.contains 6 = false → Completes (exec .rtcSecond s) fun t =>
      t.rd Reg.PWR_RTC = (s.rd Reg.PWR_RTC + 1) % 2 ^ 32 ∧
      t.pwr.rtcC = (if s.isOff 0x17 then s.pwr.rtcC else s.rdInt Reg.CAL_OSC_C_C0 + s.curvature) ∧
      (t.pwr.rtcC.natAbs < 32768 → sext 16 (t.shown 0x88018) = t.pwr.rtcC ∧
        ((t.pwr.rtcCycles : Int) - 32768) * 65536 + t.pwr.rtcFrac = s.pwr.rtcFrac + roundDiv (t.pwr.rtcC * 2 ^ 31) 1024000000) ∧
      Frame (· = Reg.PWR_RTC.off) s t
        { s with regs := t.regs,
                 pwr := { s.pwr with rtcC := t.pwr.rtcC, rtcFrac := t.pwr.rtcFrac, rtcCycles := t.pwr.rtcCycles } })) ∧
  (∀ (ring : Fin 64) (d : Desc) (s : State), s.isOff 0x08 = false → s.Alone ring d → s.startedDesc ring 0x0803 = some d →
    s.selfCal.waiting = [] →
    let runs (kind : Nat) (a : Answer) : Prop :=
      (calParamsOk d = false → Completes a fun t =>
        CompletedWith s t ring d stBadParam ∧ t.rd Reg.CAL_SC_RUNS = satAdd 32 (s.rd Reg.CAL_SC_RUNS) 1 ∧ t.rd Reg.CAL_SC_RESULT = 0 ∧
        Frame (fun o => sc o ∨ ReportReg o) s t { s with regs := t.regs, host := t.host, out := t.out }) ∧
      (calParamsOk d = true → bitsOf (d.w 0) 0 4 = kind →
        (s.selfCal.run.isSome = true → Completes a fun t =>
          t.selfCal = { s.selfCal with waiting := [{ ring := ring, index := d.index, word := d.w 0, start := s.time.elapsed }] } ∧
            (t.ring ring).descs = [{ d with phase := .working }] ∧
          Frame (fun _ => False) s t { s with selfCal := t.selfCal, host := t.host }) ∧
        (s.selfCal.run = none → s.calReady kind (bitsOf (d.w 0) 8 8) (bitsOf (d.w 0) 16 8) = true →
          Completes a fun t =>
            (∃ r : CalRunSt, t.selfCal = { s.selfCal with run := some r } ∧ r.ring = ring ∧ r.index = d.index ∧ r.kind = kind ∧
              r.gradual = bitOf (d.w 0) 4 ∧ r.tblock = bitsOf (d.w 0) 8 8 ∧ r.tinst = bitsOf (d.w 0) 16 8 ∧ r.start = s.time.elapsed) ∧
            t.flag Reg.CAL_SC_STAT_BUSY = true ∧ t.rd Reg.CAL_SC_STAT_KIND = kind ∧
            (t.ring ring).descs = [{ d with phase := .working }] ∧
            Frame (· = 0x88004) s t { s with regs := t.regs, selfCal := t.selfCal, host := t.host }))
    let notReady (kind : Nat) (a : Answer) : Prop :=
      calParamsOk d = true → bitsOf (d.w 0) 0 4 = kind → s.selfCal.run = none →
      s.calReady kind (bitsOf (d.w 0) 8 8) (bitsOf (d.w 0) 16 8) = false →
      Completes a fun t => CompletedWith s t ring d 0x0841 ∧ t.selfCal = s.selfCal ∧
        t.rd Reg.CAL_SC_RUNS = satAdd 32 (s.rd Reg.CAL_SC_RUNS) 1 ∧
        Frame (fun o => sc o ∨ ReportReg o) s t { s with regs := t.regs, host := t.host, out := t.out }
    runs 1 (exec (.calRunTime ring) s) ∧ runs 2 (exec (.calRunSerdes ring) s) ∧ runs 3 (exec (.calRunOsc ring) s) ∧
    notReady 2 (exec (.calRunSerdes ring) s) ∧ notReady 3 (exec (.calRunOsc ring) s)) ∧
  (∀ s : State, s.isOff 0x08 = false → s.flag Reg.CAL_SC_CTRL_AUTO_OSC = true → s.rd Reg.ANT_STAT_STATE = 2 → s.selfCal.run = none →
    s.selfCal.waiting = [] → Completes (exec .autoOscTimer s) fun t =>
      (∃ r : CalRunSt, t.selfCal = { s.selfCal with run := some r, autoLast := some t.time.elapsed } ∧ r.ring = 64 ∧ r.kind = 3) ∧
      t.flag Reg.CAL_SC_STAT_BUSY = true ∧ t.rd Reg.CAL_SC_STAT_KIND = 3 ∧
      (∀ τ : Nat, s.selfCal.autoLast = some τ → τ + 600000000000 ≤ t.time.elapsed) ∧
      Frame (fun o => o = 0x88004 ∨ TimeReg o) s t { s with regs := t.regs, time := t.time, selfCal := t.selfCal }) ∧
  (∀ (ds : List Int) (reply : Bool) (errs : List Nat) (e : Int) (r : CalRunSt) (d : Desc) (s : State), s.Calibrates r d →
    (r.kind = 1 → s.selfCal.deltas = [] → ds ≠ [] →
      (50 < largestDelta ds → Completes (exec (.calRunComplete ds reply errs e) s) fun t =>
        ends s t r d 0x0842 (largestDelta ds) ∧ t.selfCal.applied = s.selfCal.applied ∧ t.wings = s.wings) ∧
      (largestDelta ds ≤ 50 → r.gradual = false → s.flag Reg.OTU_STAT_RUNNING = false → s.selfCal.applied = [] →
        Completes (exec (.calRunComplete ds reply errs e) s) fun t =>
          ends s t r d stOk (largestDelta ds) ∧ t.selfCal.applied = ds ∧ t.selfCal.deltas = [] ∧ t.rd Reg.CAL_SC_REMAIN = 0 ∧
          t.wings = s.wings) ∧
      (largestDelta ds ≤ 50 → r.gradual = true ∨ s.flag Reg.OTU_STAT_RUNNING = true →
        Completes (exec (.calRunComplete ds reply errs e) s) fun t =>
          t.selfCal.deltas = ds ∧ t.selfCal.whole = !r.gradual ∧ t.selfCal.applied = s.selfCal.applied ∧
          t.rd Reg.CAL_SC_REMAIN = largestDelta ds ∧ t.flag Reg.CAL_SC_STAT_GRADUAL = r.gradual ∧ t.host = s.host)) ∧
    (r.kind = 2 → r.tblock ≠ 0x0F → Completes (exec (.calRunComplete ds reply errs e) s) fun t =>
      ends s t r d stOk 0 ∧ t.wings = s.wings) ∧
    (∀ x : EmiFrameSt, r.kind = 2 → r.tblock = 0x0F → r.trained = true → r.result = none → x.launched = true →
      s.emi.frames.find? (fun x => x.wings.any (fun w => w.port == r.tinst && w.training && !w.latched)) = some x →
      Completes (exec (.calRunComplete ds reply errs e) s) fun t =>
        t.wings = (s.setWing r.tinst { s.wing r.tinst with setting := if reply then (bestSetting errs).1 else r.setting }).wings ∧
        t.selfCal.run = some { r with result := some (if reply then some (bestSetting errs) else none) } ∧
        Frame (fun _ => False) s t { s with wings := t.wings, selfCal := { s.selfCal with run := t.selfCal.run } }) ∧
    (r.kind = 2 → r.tblock = 0x0F → r.trained = true → s.emi.frames = [] →
      (∀ k n : Nat, r.result = some (some (k, n)) → Completes (exec (.calRunComplete ds reply errs e) s) fun t =>
        ends s t r d stOk k ∧ t.wings = s.wings) ∧
      (r.result = some none → Completes (exec (.calRunComplete ds reply errs e) s) fun t =>
        ends s t r d 0x0842 r.setting ∧ t.wings = (s.setWing r.tinst { s.wing r.tinst with setting := r.setting }).wings)) ∧
    (r.kind = 3 → Completes (exec (.calRunComplete ds reply errs e) s) fun t =>
      (e.natAbs ≤ 30720 → (e - s.curvature).natAbs < 32768 → t.rdInt Reg.CAL_OSC_C_C0 = e - s.curvature) ∧
      (30720 < e.natAbs → t.rd Reg.CAL_OSC_C_C0 = s.rd Reg.CAL_OSC_C_C0) ∧
      ends s t r d (if e.natAbs ≤ 30720 then stOk else 0x0842) (low 32 e) ∧ t.wings = s.wings)) ∧
  (∀ (ds : List Int) (reply : Bool) (errs : List Nat) (e : Int) (r : CalRunSt) (s : State), s.selfCal.run = some r → r.ring = 64 →
    r.kind = 3 → e.natAbs ≤ 30720 → Completes (exec (.calRunComplete ds reply errs e) s) fun t =>
      ((e - s.curvature).natAbs < 32768 → t.rdInt Reg.CAL_OSC_C_C0 = e - s.curvature) ∧ t.selfCal.run = none ∧
        t.rd Reg.CAL_SC_RUNS = s.rd Reg.CAL_SC_RUNS ∧
      Frame (fun o => sc o ∨ TimeReg o) s t { s with regs := t.regs, time := t.time, selfCal := t.selfCal, fresh := t.fresh })

/-! ### Chrysalis -/

/-- Requests: a transfer on the service port joins the order behind what queue 30 holds, a host configures the port or leaves it; the next
request in order is taken up with its block's fields; an operation not permitted is answered BAD_OPCODE, a bad block BAD_BLOCK with the
reply word alone, and one whose reply does not fit BAD_PARAM (R499-R503, R524). The model's own choices that it meets: logs 4, 111. -/
def Obligations.ChrysalisRequests : Prop :=
  (∀ (op tag : BitVec 8) (cap : Word) (ps : Bytes) (s : State),
    let r : ChyReq := { svc := true, src := 0, op := op.toNat, tag := tag.toNat, blk := 0, params := ps, rpOfs := 0, rpCap := cap.toNat }
    exec (.usbRequest op tag cap ps) s =
      .next (if s.flag Reg.CHY_STAT_SVC then { s with chy := { s.chy with svc := s.chy.svc ++ [((s.queue 30).length, r)] } } else s)) ∧
  (∀ (on : Bool) (s : State), Completes (exec (.usbConfigured on) s) fun t =>
    t.flag Reg.CHY_STAT_SVC = on ∧ t.chy = (if on then s.chy else { s.chy with svc := [] }) ∧
    Frame (· = 0x200000) s t { s with regs := t.regs, chy := t.chy }) ∧
  (∀ (r : ChyReq) (rest : List (Nat × ChyReq)) (s : State), s.chyUp = true → s.chy.current = none → s.chy.svc = (0, r) :: rest →
    (s.opPermitted r = true → exec .chyRequest s = .next { s with chy := { s.chy with svc := rest, current := some r } }) ∧
    (s.opPermitted r = false → s.StoreSound → s.NoWake → Completes (exec .chyRequest s) fun t =>
      ServedWith (fun _ => False) s s t r stBadOpcode [] ∧ t.chy = { s.chy with svc := rest }.answered r s.time.elapsed)) ∧
  (∀ (w : Nat) (rest : List Nat) (r : ChyReq) (s : State), s.chyUp = true → s.chy.current = none → s.chy.svc = [] →
    s.queue 30 = w :: rest → s.flag (Reg.QUE_STAT_READY 30) = true → bitOf w 62 = true →
    r = { svc := false, src := bitsOf w 58 4, op := bitsOf w 48 8, tag := bitsOf w 40 8, blk := bitsOf w 0 29,
          params := s.bytesAt (bitsOf w 0 29 + 16) (s.word32At (bitsOf w 0 29)), rpOfs := s.word32At (bitsOf w 0 29 + 4),
          rpCap := s.word32At (bitsOf w 0 29 + 8) } →
    (r.blk % 256 = 0 → s.word32At r.blk ≤ 4080 → r.rpOfs % 8 = 0 → 16 + s.word32At r.blk ≤ r.rpOfs → r.rpOfs + r.rpCap ≤ 4096 →
      r.blk + r.rpOfs + r.rpCap ≤ 0x1F800000 → s.StoreSound → s.opPermitted r = true → Completes (exec .chyRequest s) fun t =>
        t.chy = { s.chy with current := some r } ∧ t.queue 30 = rest ∧ (∀ q : Nat, q ≠ 30 → t.queue q = s.queue q) ∧
        Frame (fun o => (0x60780 ≤ o ∧ o < 0x607C0) ∨
          GrantReg o) s t { s with regs := t.regs, chy := t.chy, queues := t.queues, queuePops := t.queuePops }) ∧
    (r.blk % 256 ≠ 0 ∨ 0x1F800000 < r.blk + 16 → s.NoWake → Completes (exec .chyRequest s) fun t =>
      t.chy.current = none ∧ t.queue 30 = rest ∧ t.rd Reg.CHY_REQS = satAdd 32 (s.rd Reg.CHY_REQS) 1 ∧
      ((s.queue 31).length < 256 → t.queue 31 = s.queue 31 ++
        [(2 ^ 62 + r.src * 2 ^ 58 + r.op * 2 ^ 48 + r.tag * 2 ^ 40 + stBadBlock * 2 ^ 16) % 2 ^ 63]) ∧
      Frame (fun o => (0x60780 ≤ o ∧ o < 0x607C0) ∨ AnswerReg o) s t
        { s with regs := t.regs, queues := t.queues, queuePops := t.queuePops, host := t.host, chy := t.chy, out := t.out })) ∧
  (∀ (r : ChyReq) (s : State), s.Executes 0x01 r → r.rpCap < 64 → Completes (exec .info s) fun t =>
    ServedWith (fun _ => False) s s t r stBadParam [] ∧ t.chy = s.chy.answered r s.time.elapsed)

/-- What Chrysalis tells: INFO its status words, LOG_READ the entries held from a number on, IDENTITY the certificate chain, ATTEST a
report that carries the nonce and is signed, CHALLENGE 32 bytes that it keeps, SET_GET a setting; LOG_WRITE logs a host entry, at most 16
in a second, and a flush puts the retained entries into flash (R503, R505, R506, R510, R520, R525). The model's own choices that it meets:
logs 38, 43, 44. -/
def Obligations.ChrysalisTells : Prop :=
  (∀ (r : ChyReq) (s : State), s.Executes 0x01 r → 64 ≤ r.rpCap → Completes (exec .info s) fun t =>
    ServedWith (fun _ => False) s s t r stOk (wordsBytes [(s.word 0x200000).toNat, s.rd Reg.CHY_INSTAR, s.rd Reg.CHY_CAND,
      s.rd Reg.CHY_STAT_CAND, s.rd Reg.CHY_FLOOR, s.rd Reg.CHY_KEYS, s.rd Reg.CHY_LOGSEQ] ++ List.replicate 36 0) ∧
    t.chy = s.chy.answered r s.time.elapsed) ∧
  (∀ (r : ChyReq) (e : LogEntry) (es : List LogEntry) (s : State), s.Executes 0x02 r → r.params.length = 8 → 1 ≤ r.word 1 →
    r.word 1 ≤ 64 → e :: es = (s.heldLog.filter (fun e => decide (r.word 0 ≤ e.seq))).take (r.word 1) →
    ((e :: es).flatMap LogEntry.bytes).length + 8 ≤ r.rpCap → Completes (exec (.logRead []) s) fun t =>
      ServedWith (fun _ => False) s s t r stOk (leBytes 4 e.seq ++ leBytes 4 (es.length + 1) ++ (e :: es).flatMap LogEntry.bytes) ∧
      t.chy = s.chy.answered r s.time.elapsed) ∧
  (∀ (r : ChyReq) (s : State), s.Executes 0x03 r → r.params.length = 12 →
    let recent := s.chy.hostTimes.filter (fun u => decide (s.time.elapsed < u + 1000000000))
    (recent.length < 16 → Completes (exec .logWrite s) fun t =>
      ServedWith (fun _ => False) s s t r stOk [] ∧ t.rd Reg.CHY_LOGSEQ = (s.rd Reg.CHY_LOGSEQ + 1) % 2 ^ 32 ∧
      t.chy.hostTimes = recent ++ [s.time.elapsed] ∧
      ∃ e : LogEntry, t.chy.log.getLast? = some e ∧ e.seq = s.rd Reg.CHY_LOGSEQ ∧ e.cls = 7 ∧ e.rtc = s.rd Reg.PWR_RTC ∧
        e.data = r.params) ∧
    (16 ≤ recent.length → Completes (exec .logWrite s) fun t =>
      ServedWith (fun _ => False) s s t r stBusy [] ∧ t.chy = s.chy.answered r s.time.elapsed)) ∧
  (∀ s : State, s.chyUp = true → s.chy.flash.length + s.chy.unflushed ≤ 2048 → s.chy.unflushed ≤ s.chy.log.length →
    exec .logFlush s = .next { s with chy := { s.chy with
      flash := s.chy.flash ++ s.chy.log.drop (s.chy.log.length - s.chy.unflushed), unflushed := 0 } }) ∧
  (∀ (r : ChyReq) (s : State), s.Executes 0x08 r →
    let chain := Config.identityChain (leNat s.instarDigest) s.life (s.flag Reg.CHY_STAT_SEALED) (s.rd Reg.CHY_STAT_DEBUG) s.pwr.starts
    chain.length ≤ r.rpCap → Completes (exec .identity s) fun t =>
      ServedWith (fun _ => False) s s t r stOk chain ∧ t.chy = s.chy.answered r s.time.elapsed) ∧
  (∀ (r : ChyReq) (s : State), s.Executes 0x09 r → r.params.length = 32 → 352 ≤ r.rpCap → Completes (exec .attest s) fun t =>
    (∃ sig : Bytes, sig.length = 96 ∧ ServedWith (fun _ => False) s s t r stOk (s.report256 r.params ++ sig)) ∧
    (s.report256 r.params).length = 256 ∧ ((s.report256 r.params).drop 32).take 32 = r.params ∧ t.chy = s.chy.answered r s.time.elapsed) ∧
  (∀ (r : ChyReq) (s : State), s.Executes 0x0A r → 32 ≤ r.rpCap → Completes (exec .challenge s) fun t => ∃ c : Bytes, c.length = 32 ∧
    ServedWith (fun _ => False) s s t r stOk c ∧
    t.chy = { s.chy with challenge := some (c, s.time.elapsed) }.answered r s.time.elapsed) ∧
  (∀ (r : ChyReq) (s : State), s.Executes 0x28 r →
    (∀ v : Bytes, s.setting (r.word 0) = some v → r.params.length = 4 → v.length ≤ r.rpCap → Completes (exec .setGet s) fun t =>
      ServedWith (fun _ => False) s s t r stOk v ∧ t.chy = s.chy.answered r s.time.elapsed) ∧
    (s.setting (r.word 0) = none → Completes (exec .setGet s) fun t =>
      ServedWith (fun _ => False) s s t r stBadParam [] ∧ t.chy = s.chy.answered r s.time.elapsed))

/-- Show images and keys: a manifest of good form whose authority and digest hold is taken, its digest shown and, when SEALED, its regions
sealed, and otherwise DENIED says why; a key goes into its slot and its map, a deleted one leaves it, a PENDING Roost key becomes ACTIVE
with the old one accepted for 10 s more (R502, R507, R509, R511, R512). The model's own choices that it meets: logs 3, 45, 46, 111, 112.
-/
def Obligations.ShowsAndKeys : Prop :=
  let keyReg (o : Nat) : Prop := o = Reg.CHY_KEYS.off ∨ o = Reg.ROO_STAT_KEY.off
  (∀ (sig : Bool) (r : ChyReq) (a n slot : Nat) (rs : List (Nat × Nat)) (s : State), s.Executes 0x10 r → r.params.length = 4 →
    a = r.word 0 → a % 256 = 0 → n = leNat (s.bytesAt (a + 6) 2) → slot = (s.byteAt (a + 8)).toNat →
    rs = manifestRegions (s.bytesAt a (64 + 8 * n)) n → a + 64 + 8 * n + (if slot = 0xFF then 0 else 96) ≤ 0x1F800000 →
    s.word32At a = 0x5748534F → leNat (s.bytesAt (a + 4) 2) = 1 → 1 ≤ n → n ≤ 16 → s.bytesAt (a + 9) 7 = List.replicate 7 0 →
    regionsOk rs = true →
    let data : Bytes := rs.flatMap (fun q => s.bytesAt q.1 q.2)
    let show_ : Bytes := sha384 (s.bytesAt a (64 + 8 * n))
    (s.life = 2 → Completes (exec (.showVerify sig) s) fun t =>
      ServedWith (fun _ => False) s s t r (if 4 ≤ r.rpCap then stDenied else stBadParam) (if 4 ≤ r.rpCap then leBytes 4 3 else [])) ∧
    (s.life ≠ 2 → s.manifestCause slot sig ≠ 0 → 4 ≤ r.rpCap → Completes (exec (.showVerify sig) s) fun t =>
      ServedWith (fun _ => False) s s t r stDenied (leBytes 4 (s.manifestCause slot sig))) ∧
    (s.life ≠ 2 → s.manifestCause slot sig = 0 → sha384 data ≠ s.bytesAt (a + 16) 48 → 4 ≤ r.rpCap →
      Completes (exec (.showVerify sig) s) fun t => ServedWith (fun _ => False) s s t r stDenied (leBytes 4 6)) ∧
    (s.life ≠ 2 → s.manifestCause slot sig = 0 → sha384 data = s.bytesAt (a + 16) 48 → show_.length ≤ r.rpCap →
      Completes (exec (.showVerify sig) s) fun t =>
        ServedWith (fun o => 0x200040 ≤ o ∧ o < 0x200070) s
          { s with sealedRegions := if s.flag Reg.CHY_STAT_SEALED then rs else s.sealedRegions } t r stOk show_ ∧
        (∀ j < 12, t.rd (Reg.CHY_SHOWDIG j) = leNat ((show_.drop (4 * j)).take 4)) ∧ t.chy = s.chy.answered r s.time.elapsed)) ∧
  (∀ (blob : KeyBlob) (r : ChyReq) (s : State), s.Executes 0x18 r → 4 ≤ r.rpCap →
    (s.blobCause blob = 0 → blob.key ≠ [] → Completes (exec (.keyInstall blob) s) fun t =>
      ServedWith keyReg s s t r stOk (leBytes 4 blob.slot) ∧ bitOf (t.rd Reg.CHY_KEYS) (1 + blob.slot) = true ∧
      (blob.slot.val = 0 → t.chy.rooPending = some blob.key ∧ t.chy.caks = s.chy.caks) ∧
      (∀ p : Nat, blob.slot.val = p + 1 → t.cak p = some blob.key ∧ t.chy.rooPending = s.chy.rooPending) ∧
      t.chy.rooActive = s.chy.rooActive ∧ t.rd Reg.CHY_LOGSEQ = (s.rd Reg.CHY_LOGSEQ + 1) % 2 ^ 32) ∧
    (s.blobCause blob ≠ 0 → s.blobCause blob ≠ 9 → Completes (exec (.keyInstall blob) s) fun t =>
      ServedWith (fun _ => False) s s t r stDenied (leBytes 4 (s.blobCause blob)) ∧ t.chy = s.chy.answered r s.time.elapsed)) ∧
  (∀ (r : ChyReq) (s : State), s.Executes 0x19 r → r.params.length = 4 →
    (r.word 0 ≤ 8 → s.heldSlots.contains (r.word 0) = true → Completes (exec .keyDelete s) fun t =>
      ServedWith (fun o => keyReg o ∨ (0x180000 ≤ o ∧ o < 0x1A0000)) s { s with mscs := t.mscs } t r stOk [] ∧
      t.heldSlots = s.heldSlots.erase (r.word 0)) ∧
    (r.word 0 ≤ 8 → s.heldSlots.contains (r.word 0) = false → Completes (exec .keyDelete s) fun t =>
      ServedWith (fun _ => False) s s t r stOk [] ∧ t.chy = s.chy.answered r s.time.elapsed) ∧
    (8 < r.word 0 → Completes (exec .keyDelete s) fun t =>
      ServedWith (fun _ => False) s s t r stBadParam [] ∧ t.chy = s.chy.answered r s.time.elapsed)) ∧
  (∀ (r : ChyReq) (k : Bytes) (s : State), s.Executes 0x1A r → s.chy.rooPending = some k → Completes (exec .rooKeyActivate s) fun t =>
    ServedWith keyReg s s t r stOk [] ∧ t.chy.rooActive = some k ∧ t.chy.rooPending = none ∧
    t.chy.rooOld = s.chy.rooActive.map (fun old => (old, s.time.elapsed + 10000000000)) ∧ t.flag Reg.ROO_STAT_KEY = true) ∧
  (∀ (old : Bytes) (τ : Nat) (s : State), s.chy.rooOld = some (old, τ) → Completes (exec .rooKeyGraceExpiry s) fun t =>
    t.chy = { s.chy with rooOld := none } ∧ τ ≤ t.time.elapsed ∧ Frame TimeReg s t { s with regs := t.regs, time := t.time, chy := t.chy })

/-- Settings, lifecycle and debug: a record is put, one that governs security only with an owner token when OWNED; the first owner key
takes an OPEN part to OWNED, slots 1 to 3 are added and revoked under a token, SEAL and RETIRE need a token, RETIRE clears every key, an
unlock sets the level and for vendor level clears every key, and a lock ends it; each token uses up the challenge; a record whose write of
flash does not verify is not put, with FLASH_ERROR (R502, R504, R505, R513, R514, R520; log 178). The model's own choices that it meets:
logs 46, 112. -/
def Obligations.SettingsLifeAndDebug : Prop :=
  let tokenLen (t : Option Token) : Nat := (t.map (·.length)).getD 0
  let clears (o : Nat) : Prop := o = 0x200000 ∨ o = Reg.CHY_KEYS.off ∨ o = Reg.ROO_STAT_KEY.off ∨ (0x180000 ≤ o ∧ o < 0x1A0000)
  (∀ (tok : Option Token) (r : ChyReq) (v : Bytes) (s : State), s.Executes 0x29 r →
    v = (r.params.drop 4).take (r.params.length - 4 - tokenLen tok) → 4 ≤ r.params.length → r.params.length - 4 - tokenLen tok ≤ 1024 →
    (r.word 0 < 0x80000000 ∨ s.life ≠ 1 ∨ s.tokenCause false tok = 0 → v ≠ [] → Completes (exec (.setPut tok) s) fun t =>
      t.chy.challenge = (if 0x80000000 ≤ r.word 0 ∧ s.life = 1 then none else s.chy.challenge) ∧
      (∀ id : Nat, id ≠ r.word 0 → t.setting id = s.setting id) ∧
      ((ServedWith (fun _ => False) s s t r stFlashError [] ∧ t.setting (r.word 0) = s.setting (r.word 0)) ∨
       (ServedWith (· = Reg.CHY_TAMPER_ACT.off) s s t r stOk [] ∧ t.setting (r.word 0) = some v ∧
        t.rd Reg.CHY_TAMPER_ACT = (if r.word 0 = 0x80000001 then leNat (v.take 1) % 4 else s.rd Reg.CHY_TAMPER_ACT)))) ∧
    (0x80000000 ≤ r.word 0 → s.life = 1 → s.tokenCause false tok ≠ 0 → 4 ≤ r.rpCap → Completes (exec (.setPut tok) s) fun t =>
      ServedWith (fun _ => False) s s t r stDenied (leBytes 4 (s.tokenCause false tok)) ∧ t.chy = s.chy.answered r s.time.elapsed)) ∧
  (∀ (tok : Option Token) (slot : Fin 4) (hash : Bytes) (revoke : Bool) (r : ChyReq) (s : State), s.Executes 0x30 r →
    (s.life = 0 → r.params.length = 48 → Completes (exec (.own tok slot hash revoke) s) fun t =>
      ServedWith (· = 0x200000) s s t r stOk [] ∧ t.life = 1 ∧ t.ownerCause 0 = 0 ∧
      t.chy.owners = s.chy.owners.filter (fun e => e.1 != 0) ++ [(0, (r.params, false))]) ∧
    (s.life = 1 → s.tokenCause false tok = 0 → slot ≠ 0 → revoke = false → s.ownerCause slot = 1 → hash.length = 48 →
      Completes (exec (.own tok slot hash revoke) s) fun t =>
        ServedWith (fun _ => False) s s t r stOk [] ∧ t.ownerCause slot = 0 ∧ t.chy.challenge = none ∧ t.life = 1) ∧
    (s.life = 1 → s.tokenCause false tok = 0 → slot ≠ 0 → revoke = true → s.ownerCause slot ≠ 1 →
      (s.chy.owners.filter (fun e => !e.2.2)).map (·.1) ≠ [slot.val] → Completes (exec (.own tok slot hash revoke) s) fun t =>
        ServedWith (fun _ => False) s s t r stOk [] ∧ t.ownerCause slot = 2 ∧ t.chy.challenge = none ∧ t.life = 1)) ∧
  (∀ (tok : Option Token) (r : ChyReq) (s : State), s.life = 1 → s.tokenCause false tok = 0 →
    (s.Executes 0x31 r → Completes (exec (.seal tok) s) fun t =>
      ServedWith (· = 0x200000) s s t r stOk [] ∧ t.flag Reg.CHY_STAT_SEALED = true ∧ t.life = 1 ∧
      t.chy = { s.chy with challenge := none }.answered r s.time.elapsed) ∧
    (s.Executes 0x32 r → Completes (exec (.retire tok) s) fun t =>
      ServedWith clears s { s with mscs := t.mscs } t r stOk [] ∧ t.life = 2 ∧ t.heldSlots = [] ∧ t.chy.challenge = none)) ∧
  (∀ (tok : Option Token) (slot : Fin 4) (hash : Bytes) (revoke : Bool) (r : ChyReq) (s : State), 4 ≤ r.rpCap → s.life = 1 →
    s.tokenCause false tok ≠ 0 →
    let refused (t : State) : Prop :=
      ServedWith (fun _ => False) s s t r stDenied (leBytes 4 (s.tokenCause false tok)) ∧ t.chy = s.chy.answered r s.time.elapsed
    (s.Executes 0x30 r → Completes (exec (.own tok slot hash revoke) s) refused) ∧
    (s.Executes 0x31 r → Completes (exec (.seal tok) s) refused) ∧
    (s.Executes 0x32 r → Completes (exec (.retire tok) s) refused)) ∧
  (∀ (owner vendor : Option Token) (r : ChyReq) (s : State), s.Executes 0x38 r → r.word 0 = 1 ∨ r.word 0 = 2 →
    (s.debugCause (r.word 0) owner vendor = 0 → Completes (exec (.debugUnlock owner vendor) s) fun t =>
      ServedWith clears s { s with mscs := t.mscs } t r stOk [] ∧ t.rd Reg.CHY_STAT_DEBUG = r.word 0 ∧
      (r.word 0 = 2 → t.heldSlots = []) ∧ (r.word 0 = 1 → t.heldSlots = s.heldSlots) ∧
      (r.word 0 = 2 ∨ s.life = 1 → t.chy.challenge = none)) ∧
    (s.debugCause (r.word 0) owner vendor ≠ 0 → 4 ≤ r.rpCap → Completes (exec (.debugUnlock owner vendor) s) fun t =>
      ServedWith (fun _ => False) s s t r stDenied (leBytes 4 (s.debugCause (r.word 0) owner vendor)) ∧
      t.chy = s.chy.answered r s.time.elapsed)) ∧
  (∀ (r : ChyReq) (s : State), s.Executes 0x39 r → Completes (exec .debugLock s) fun t =>
    ServedWith (· = 0x200000) s s t r stOk [] ∧ t.rd Reg.CHY_STAT_DEBUG = 0)

/-- Staging: an open makes a session and empties the slot unless one is open or on probation, data continues the image, a commit with
every test passed stages it and one that fails a test fails the slot, an abort and 60 s without a request fail it too; an update OPEN,
DATA, COMMIT and ABORT from the member seen as rank 0 do the same, with a RESULT; an operation whose write of flash does not verify
answers FLASH_ERROR and does nothing (R502, R521-R523; log 178). The model's own choices that it meets: logs 3, 29, 111. -/
def Obligations.Staging : Prop :=
  let cand (o : Nat) : Prop := o = 0x200000 ∨ o = 0x200008
  let none' : Nat → Prop := fun _ => False
  (∀ (r : ChyReq) (s : State), s.Executes 0x20 r → r.params.length = 52 → lengthOk (r.word 0) = true → s.life ≠ 2 → 4 ≤ r.rpCap →
    (s.rd Reg.CHY_STAT_CAND ≠ 1 → s.rd Reg.CHY_STAT_CAND ≠ 3 → Completes (exec .stageOpen s) fun t => FlashFailed s t r ∨ ∃ id : Nat,
      0 < id ∧ id < 2 ^ 32 ∧
      ServedWith cand s s t r stOk (leBytes 4 id) ∧ t.rd Reg.CHY_STAT_CAND = 1 ∧ t.rd Reg.CHY_STAT_SRC = (if r.svc then 2 else 1) ∧
      t.rd Reg.CHY_CAND = 0 ∧
      t.chy = { s.chy with current := none, staged := [], autoEclose := false,
                           session := some { id := id, source := (if r.svc then 2 else 1), length := r.word 0,
                                             digest := r.params.drop 4, idleSince := s.time.elapsed, reboot := false,
                                             autoEclose := false } }) ∧
    (s.rd Reg.CHY_STAT_CAND = 1 → Completes (exec .stageOpen s) fun t =>
      ServedWith none' s s t r stBusy [] ∧ t.chy = s.chy.answered r s.time.elapsed) ∧
    (s.rd Reg.CHY_STAT_CAND = 3 → Completes (exec .stageOpen s) fun t =>
      ServedWith none' s s t r stNotEclosed [] ∧ t.chy = s.chy.answered r s.time.elapsed)) ∧
  (∀ (ok : Bool) (x : SessionSt) (data : Bytes) (r : ChyReq) (s : State), s.Executes 0x21 r → s.chy.session = some x →
    r.word 0 = x.id → stageFits s.chy.staged.length x.length (r.word 1) (r.word 3) = true →
    r.params.length = 16 + (if r.svc then r.word 3 else 0) →
    (r.svc = false → r.word 2 % 256 = 0 ∧ r.word 2 + r.word 3 ≤ 0x1F800000) →
    data = (if r.svc then r.params.drop 16 else s.bytesAt (r.word 2) (r.word 3)) → 4 ≤ r.rpCap →
    Completes (exec (.stageWrite ok) s) fun t =>
      ServedWith none' s s t r (if ok then stOk else stFlashError) (if ok then leBytes 4 (s.chy.staged.length + r.word 3) else []) ∧
      t.chy = { s.chy with staged := if ok then s.chy.staged ++ data else s.chy.staged }.answered r s.time.elapsed) ∧
  (∀ (x : SessionSt) (r : ChyReq) (s : State), s.Executes 0x22 r → s.chy.session = some x → r.word 0 = x.id → s.pwr.recovery = false →
    (s.commitCause x = 0 → Completes (exec .stageCommit s) fun t => FlashFailed s t r ∨
      ServedWith cand s s t r stOk [] ∧ t.rd Reg.CHY_STAT_CAND = 2 ∧ t.rd Reg.CHY_STAT_SRC = 0 ∧
      t.rd Reg.CHY_CAND = imageInstar s.chy.staged ∧ t.chy.session = none ∧ t.chy.staged = s.chy.staged) ∧
    (s.commitCause x ≠ 0 → s.commitCause x ≠ 9 → 4 ≤ r.rpCap → Completes (exec .stageCommit s) fun t => FlashFailed s t r ∨
      ServedWith cand s s t r stDenied (leBytes 4 (s.commitCause x)) ∧ t.rd Reg.CHY_STAT_CAND = 4 ∧ t.chy.session = none)) ∧
  (∀ (x : SessionSt) (r : ChyReq) (s : State), s.Executes 0x23 r → s.chy.session = some x → r.word 0 = x.id →
    Completes (exec .stageAbort s) fun t => FlashFailed s t r ∨
      ServedWith cand s s t r stOk [] ∧ t.rd Reg.CHY_STAT_CAND = 4 ∧ t.rd Reg.CHY_STAT_SRC = 0 ∧
      t.chy = { s.chy with current := none, session := none }) ∧
  (∀ (ok : Bool) (r : ChyReq) (s : State), s.chy.session = none →
    let refused (t : State) : Prop := ServedWith none' s s t r stNoSession [] ∧ t.chy = s.chy.answered r s.time.elapsed
    (s.Executes 0x21 r → Completes (exec (.stageWrite ok) s) refused) ∧ (s.Executes 0x22 r → Completes (exec .stageCommit s) refused) ∧
    (s.Executes 0x23 r → Completes (exec .stageAbort s) refused)) ∧
  (∀ (x : SessionSt) (s : State), s.chy.session = some x → s.chy.current.any (·.ofSession x) = false →
    s.chyUp = true → Completes (exec .stageExpired s) fun t =>
    t.rd Reg.CHY_STAT_CAND = 4 ∧ t.rd Reg.CHY_STAT_SRC = 0 ∧ t.chy.session = none ∧ x.idleSince + 60000000000 ≤ t.time.elapsed ∧
    Frame (fun o => cand o ∨ TimeReg o ∨ ReportReg o) s t
      { s with regs := t.regs, time := t.time, host := t.host, chy := t.chy, out := t.out }) ∧
  (∀ (m : RoostMsg) (ok : Bool) (n : Nat) (s : State), s.Takes 15 m → s.chyUp = true → s.peerOf m.sender.toNat = some n →
    s.memberPeer n = true → s.peerRank n = 0 →
    let sub : Nat := msgField m 0 1
    let acts (t : State) : Prop :=
      t.roo.messages = (s.roo.messages + 1) % 2 ^ 32 ∧
      RooFrame cand s t
    (sub = 1 → s.life ≠ 2 → lengthOk (msgField m 1 4) = true → s.rd Reg.CHY_STAT_CAND ≠ 1 → s.rd Reg.CHY_STAT_CAND ≠ 3 →
      Completes (exec (.updateRx m ok) s) fun t => (acts t ∧ t.chy = s.chy) ∨ (acts t ∧ t.rd Reg.CHY_STAT_CAND = 1 ∧
        t.rd Reg.CHY_STAT_SRC = 3 ∧ t.chy.staged = [] ∧
        ∃ x : SessionSt, t.chy.session = some x ∧ x.source = 3 ∧ x.length = msgField m 1 4 ∧ x.digest = (m.payload.drop 5).take 48 ∧
          x.reboot = bitOf (msgField m 53 1) 0 ∧ x.autoEclose = bitOf (msgField m 53 1) 1)) ∧
    (∀ x : SessionSt, s.chy.session = some x → x.source = 3 →
      (sub = 2 → msgField m 1 4 = s.chy.staged.length → s.chy.staged.length + (m.payload.drop 5).length ≤ x.length →
        (m.payload.drop 5).length ≤ 8192 → ok = true → Completes (exec (.updateRx m ok) s) fun t =>
          t.chy.staged = s.chy.staged ++ m.payload.drop 5 ∧
          t.chy.session = some { x with idleSince := t.time.elapsed } ∧ RooFrame cand s t) ∧
      (sub = 3 → x.reboot = false → s.commitCause x = 0 → Completes (exec (.updateRx m ok) s) fun t => acts t ∧
        (t.chy = { s.chy with session := some { x with idleSince := t.time.elapsed } } ∨
         t.rd Reg.CHY_STAT_CAND = 2 ∧ t.chy.session = none ∧ t.chy.autoEclose = x.autoEclose)) ∧
      (sub = 4 → Completes (exec (.updateRx m ok) s) fun t => acts t ∧ t.rd Reg.CHY_STAT_CAND = 4 ∧ t.chy.session = none)))

/-- Eclosion and the push: within its window a candidate ecloses on request and by itself after 60 s of READY, which makes it the eclosed
image, raises the SVN floor and empties the old slot; the window's end only closes it; a push sends OPEN to every peer and waits, and ends
with NO_ROLE when the role is not held; ECLOSE answers FLASH_ERROR and does nothing where its write of flash does not verify (R502, R519,
R523; log 178). The model's own choices that it meets: logs 3, 84, 112. -/
def Obligations.EclosionAndPush : Prop :=
  let slot (o : Nat) : Prop := o = 0x200000 ∨ o = 0x200008 ∨ o = 0x20000C
  let ecloses (s t : State) : Prop :=
    t.chy.eclosed = s.chy.staged ∧ t.chy.staged = [] ∧ t.chy.otherSettings = [] ∧ t.chy.windowOpen = false ∧
    t.chy.autoEclose = false ∧ t.rd Reg.CHY_STAT_CAND = 0 ∧ t.rd Reg.CHY_CAND = 0 ∧
    t.flag Reg.CHY_STAT_SLOT = !s.flag Reg.CHY_STAT_SLOT ∧
    (imageSvn s.chy.staged ≤ 64 → t.rd Reg.CHY_FLOOR = max (s.rd Reg.CHY_FLOOR) (imageSvn s.chy.staged)) ∧
    t.rd Reg.CHY_LOGSEQ = (s.rd Reg.CHY_LOGSEQ + 1) % 2 ^ 32
  (∀ (r : ChyReq) (s : State), s.Executes 0x24 r →
    (s.mayEclose = true → Completes (exec .eclose s) fun t => FlashFailed s t r ∨ (ServedWith slot s s t r stOk [] ∧ ecloses s t)) ∧
    (s.mayEclose = false → 4 ≤ r.rpCap → Completes (exec .eclose s) fun t =>
      ServedWith (fun _ => False) s s t r stDenied (leBytes 4 7) ∧ t.chy = s.chy.answered r s.time.elapsed)) ∧
  (∀ (τ : Nat) (s : State), s.chy.readySince = some τ → s.chyUp = true → s.chy.autoEclose = true → s.rd Reg.CHY_STAT_CAND = 3 →
    s.rd Reg.CHY_ECLWIN = 0 → Completes (exec .autoEcloseTimer s) fun t =>
      ecloses s t ∧ τ + 60000000000 ≤ t.time.elapsed ∧
      Frame (fun o => slot o ∨ TimeReg o ∨ ReportReg o) s t
        { s with regs := t.regs, time := t.time, host := t.host, chy := t.chy, out := t.out }) ∧
  (∀ (τ : Nat) (s : State), s.windowEnd = some τ → s.chyUp = true → s.chy.windowOpen = true → s.rd Reg.CHY_STAT_CAND = 3 →
    Completes (exec .eclosionTimeout s) fun t =>
      t.chy.windowOpen = false ∧ t.chy.eclosed = s.chy.eclosed ∧ t.chy.staged = s.chy.staged ∧ t.rd Reg.CHY_STAT_CAND = 3 ∧
      τ ≤ t.time.elapsed ∧ Frame (fun o => TimeReg o ∨ ReportReg o) s t
        { s with regs := t.regs, time := t.time, host := t.host, chy := t.chy, out := t.out }) ∧
  (∀ (r : ChyReq) (peers : List Nat) (s : State), s.Executes 0x25 r → s.chy.push = none → r.params.length = 12 → r.word 0 ≤ 1 →
    r.word 1 ≤ 1 → r.word 2 ≤ 1 → peers = ([0, 1].filter s.peerValid).map s.peerSerial → 12 * peers.length ≤ r.rpCap →
    (s.holdsRoles = false → Completes (exec .push s) fun t =>
      ServedWith (fun _ => False) s s t r stNoRole [] ∧ t.chy = s.chy.answered r s.time.elapsed) ∧
    (s.holdsRoles = true → r.word 0 = 0 → s.rd Reg.CHY_STAT_CAND ≠ 2 → Completes (exec .push s) fun t =>
      ServedWith (fun _ => False) s s t r stBadParam [] ∧ t.chy = s.chy.answered r s.time.elapsed) ∧
    (s.holdsRoles = true → (r.word 0 = 0 → s.rd Reg.CHY_STAT_CAND = 2) → peers = [] → Completes (exec .push s) fun t =>
      ServedWith (fun _ => False) s s t r stOk [] ∧ t.chy = s.chy.answered r s.time.elapsed) ∧
    (s.holdsRoles = true → (r.word 0 = 0 → s.rd Reg.CHY_STAT_CAND = 2) → peers ≠ [] → Completes (exec .push s) fun t =>
      t.chy = { s.chy with
        push := some { image := (if r.word 0 = 0 then s.chy.staged else s.chy.eclosed), flags := r.word 1 + 2 * r.word 2,
                       peers := peers.map (fun d =>
                         { serial := d, opened := false, sent := 0, acked := 0, committing := false, status := none }) } } ∧
      t.roo.messages = (s.roo.messages + peers.length) % 2 ^ 32 ∧ RooFrame (fun _ => False) s t)) ∧
  (∀ (r : ChyReq) (p : PushSt) (s : State), s.Executes 0x25 r → s.chy.push = some p → s.holdsRoles = false →
    s.roo.messages < 2 ^ 32 → Completes (exec .push s) fun t =>
      t.chy.push = none ∧ t.chy.current = none ∧ t.rd Reg.CHY_REQS = satAdd 32 (s.rd Reg.CHY_REQS) 1 ∧
      t.roo.messages = (s.roo.messages + (p.peers.filter (fun q => q.status.isNone)).length) % 2 ^ 32 ∧
      (r.svc = true → t.out.getLast? = some (.reply (wordsBytes [r.op, r.tag, stNoRole, 0]))) ∧
      (r.svc = false → t.word32At (r.blk + 12) = stNoRole + 2 ^ 31))

/-- Restarts and tampering: a voter mismatch, an SRAM error, the watchdog and a write of RESTART stop Chrysalis and say why; the restart
ends within its bound, or halts it the third time in 10 s; a tamper event counts, names its source, is logged, and with its action set
clears every key (R496, R525, R526, R549). The model's own choices that it meets: logs 3, 38, 113. -/
def Obligations.RestartsAndTampering : Prop :=
  (∀ s : State, s.chy.restart = none → s.flag Reg.CHY_STAT_HALTED = false → s.flag Reg.CHY_STAT_RUN = true →
    let stops (cause : Nat) (t : State) : Prop :=
      t.chy = { s.chy with restart := some (cause, s.time.elapsed), restartTimes := t.chy.restartTimes } ∧
      t.chy.restartTimes = s.chy.restartTimes.filter (fun u => decide (s.time.elapsed < u + 10000000000)) ++ [s.time.elapsed] ∧
      t.flag Reg.CHY_STAT_RUN = false ∧ t.rd Reg.CHY_RESTARTS_LASTCAUSE = cause ∧
      t.rd Reg.CHY_RESTARTS_RESTARTS = satAdd 16 (s.rd Reg.CHY_RESTARTS_RESTARTS) 1 ∧
      Frame (fun o => o = 0x200000 ∨ o = 0x20001C) s t { s with regs := t.regs, chy := t.chy }
    Completes (exec .chyVoterMismatch s) (stops 1) ∧ Completes (exec .chySramUe s) (stops 2) ∧
    Completes (exec .chyWatchdog s) (stops 3) ∧ Completes (exec .chyRestartWrite s) (stops 4)) ∧
  (∀ (reload : Bool) (cause began : Nat) (s : State), s.chy.restart = some (cause, began) → s.pwr.starting = none →
    (s.chy.restartTimes.length < 3 → s.pwr.recovery = false → s.chy.current = none → Completes (exec (.chyRestart reload) s) fun t =>
      t.flag Reg.CHY_STAT_RUN = true ∧ t.chy.restart = none ∧ t.chy.push = none ∧
      t.rd Reg.CHY_LOGSEQ = (s.rd Reg.CHY_LOGSEQ + 1) % 2 ^ 32 ∧
      t.time.elapsed ≤ s.time.elapsed + (if reload then 400000000 else 10000000) + 1 ∧
      Frame (fun o => o = 0x200000 ∨ TimeReg o ∨ ReportReg o) s t
        { s with regs := t.regs, time := t.time, host := t.host, chy := t.chy, out := t.out, fresh := t.fresh }) ∧
    (∀ r : ChyReq, s.chy.restartTimes.length < 3 → s.pwr.recovery = false → s.chy.current = some r → s.StoreSound →
      Completes (exec (.chyRestart reload) s) fun t =>
        t.flag Reg.CHY_STAT_RUN = true ∧ t.chy.restart = none ∧ t.chy.current = none ∧
        t.rd Reg.CHY_REQS = satAdd 32 (s.rd Reg.CHY_REQS) 1 ∧
        (r.svc = true → t.out.getLast? = some (.reply (wordsBytes [r.op, r.tag, stRestarted, 0]))) ∧
        (r.svc = false → t.word32At (r.blk + 12) = stRestarted + 2 ^ 31)) ∧
    (3 ≤ s.chy.restartTimes.length → Completes (exec (.chyRestart reload) s) fun t =>
      t.chy = { s.chy with restart := none } ∧ t.flag Reg.CHY_STAT_HALTED = true ∧
      Frame (· = 0x200000) s t { s with regs := t.regs, chy := t.chy })) ∧
  (∀ (clock : Bool) (s : State), Completes (exec (.tamper clock) s) fun t =>
    t.rd Reg.CHY_TAMPER_COUNT = satAdd 8 (s.rd Reg.CHY_TAMPER_COUNT) 1 ∧ t.rd Reg.CHY_TAMPER_LAST = (if clock then 2 else 1) ∧
    (s.rd Reg.CHY_TAMPER_ACT = 1 → t.heldSlots = []) ∧ (s.rd Reg.CHY_TAMPER_ACT ≠ 1 → t.heldSlots = s.heldSlots ∧
      t.rd Reg.CHY_LOGSEQ = (s.rd Reg.CHY_LOGSEQ + 1) % 2 ^ 32 ∧
      ∃ e : LogEntry, t.chy.log.getLast? = some e ∧ e.code = 0x1802 ∧ e.seq = s.rd Reg.CHY_LOGSEQ ∧
        e.data = wordsBytes [if clock then 2 else 1, s.rd Reg.PWR_RTC, s.rd Reg.CHY_TAMPER_ACT]) ∧
    Frame (fun o => o = Reg.CHY_TAMPER_COUNT.off ∨ o = Reg.CHY_KEYS.off ∨ o = Reg.ROO_STAT_KEY.off ∨ (0x180000 ≤ o ∧ o < 0x1A0000) ∨
        ReportReg o) s t
      { s with regs := t.regs, mscs := t.mscs, host := t.host, chy := t.chy, out := t.out })

/-- MKA on a port that runs it: a new peer's frame makes it live and the session up, a known peer's refreshes it, a frame whose check
fails does nothing, a SAK from the key server is installed under its AN; a hello leaves every 2 s; and a peer silent for 6 s is dropped,
the last one taking the session and the SAs with it (R508). The model's own choices that it meets: logs 3, 42. -/
def Obligations.MkaSessions : Prop :=
  let msc (p o : Nat) : Prop := (0x180000 + 0x4000 * p ≤ o ∧ o < 0x184000 + 0x4000 * p) ∨ ReportReg o
  (∀ (p : Fin 8) (sci : BitVec 64) (prio : BitVec 8) (sak : Option (BitVec 2)) (s : State),
    exec (.mkaFrameRx p sci prio false sak) s = .next s) ∧
  (∀ (p : Fin 8) (sci : BitVec 64) (prio : BitVec 8) (sak : Option (BitVec 2)) (peers : List (Nat × Nat × Nat)) (s : State),
    s.mkaRuns p = true → peers = mkaHeard (s.mka p).peers sci.toNat prio.toNat s.time.elapsed →
    let heard : State := s.setMka p { s.mka p with peers := peers }
    (peers.length = (s.mka p).peers.length → sak = none → exec (.mkaFrameRx p sci prio true sak) s = .next heard) ∧
    (peers.length ≠ (s.mka p).peers.length → heard.keyServer p = false → sak = none →
      Completes (exec (.mkaFrameRx p sci prio true sak) s) fun t =>
        t.mka p = { s.mka p with peers := peers } ∧ t.flag (Reg.MSC_STAT_MKA_UP p) = true ∧
        peers = (s.mka p).peers ++ [(sci.toNat, prio.toNat, s.time.elapsed)] ∧
        Frame (msc p) s t { s with regs := t.regs, host := t.host, chy := t.chy, out := t.out }) ∧
    (peers.length ≠ (s.mka p).peers.length → heard.keyServer p = true → sak = none →
      Completes (exec (.mkaFrameRx p sci prio true sak) s) fun t => ∃ an : Nat,
        an = (match (s.mka p).an with | some a => (a + 1) % 4 | none => 0) ∧ t.mka p = { s.mka p with peers := peers, an := some an } ∧
        t.flag (Reg.MSC_STAT_MKA_UP p) = true ∧ t.flag (Reg.MSC_STAT_TX_SA p) = true ∧ t.rd (Reg.MSC_STAT_TX_AN p) = an ∧
        t.rd64 (Reg.MSC_NEXTPN_LO p) (Reg.MSC_NEXTPN_HI p) = 1 ∧
        Frame (msc p) s t
          { s with regs := t.regs, mscs := t.mscs, macs := t.macs, host := t.host, chy := t.chy, out := t.out, fresh := t.fresh }) ∧
    (∀ an : BitVec 2, peers.length = (s.mka p).peers.length → heard.keyServer p = false → sak = some an →
      Completes (exec (.mkaFrameRx p sci prio true sak) s) fun t =>
        t.mka p = { s.mka p with peers := peers, an := some an.toNat } ∧ t.flag (Reg.MSC_STAT_TX_SA p) = true ∧
        t.rd (Reg.MSC_STAT_TX_AN p) = an.toNat ∧ (t.msc p).tx = [{ an := an.toNat, pn := 1, high := false }] ∧
        (t.msc p).rx.map (·.sci) = peers.map (·.1) ∧ Frame (msc p) s t { s with regs := t.regs, mscs := t.mscs, chy := t.chy })) ∧
  (∀ (p : Fin 8) (s : State), s.mkaRuns p = true → Completes (exec (.mkaHello p) s) fun t =>
    t.mka p = { s.mka p with nextHello := t.time.elapsed + 2000000000 } ∧ (s.mka p).nextHello ≤ t.time.elapsed ∧
    (s.isOff 0x10 = false → s.flag (Reg.MAC_CTRL_ENABLE p) = true → s.flag (Reg.MAC_STAT_LINK p) = true →
      ∃ f : TxFrame, (t.mac p).tx = (s.mac p).tx ++ [f] ∧ f.kind = .mka) ∧
    Frame TimeReg s t { s with regs := t.regs, time := t.time, macs := t.macs, chy := t.chy, fresh := t.fresh }) ∧
  (∀ (p : Fin 8) (e : Nat × Nat × Nat) (s : State), s.chyUp = true → s.isOff 0x11 = false → (s.mka p).peers = [e] →
    Completes (exec (.mkaLifeTime p) s) fun t =>
    (t.mka p).peers = [] ∧ e.2.2 + 6000000000 ≤ t.time.elapsed ∧ t.flag (Reg.MSC_STAT_MKA_UP p) = false ∧
    t.flag (Reg.MSC_STAT_TX_SA p) = false ∧ t.rd (Reg.MSC_STAT_RX_SCS p) = 0 ∧ t.msc p = mscIdle ∧
    Frame (fun o => msc p o ∨ TimeReg o) s t
      { s with regs := t.regs, time := t.time, mscs := t.mscs, host := t.host, chy := t.chy, out := t.out })
end

