-- ==== Sys2Proof/Laws/Chrysalis.lean ====
section
/-! SUPPORT. What the shared operations of Chrysalis give. -/
namespace Sys2Proof.Machine

/-- With no bad entry, the pick is the first entries and none is passed over. -/
theorem pickLog_none (l : List LogEntry) (n : Nat) : pickLog (fun _ => false) l n = (l.take n, 0) := by
  induction l generalizing n with
  | nil => simp [pickLog]
  | cons e t ih => cases n <;> simp [pickLog, ih]

/-- Every entry picked is held, and none of them is bad. -/
theorem pickLog_mem {bad : LogEntry → Bool} {l : List LogEntry} {n : Nat} {e : LogEntry} (h : e ∈ (pickLog bad l n).1) :
    e ∈ l ∧ bad e = false := by
  induction l generalizing n with
  | nil => simp [pickLog] at h
  | cons a t ih =>
    cases n with
    | zero => simp [pickLog] at h
    | succ k =>
      by_cases hb : bad a = true
      · have := ih (n := k + 1) (by simpa [pickLog, hb] using h)
        exact ⟨List.mem_cons_of_mem _ this.1, this.2⟩
      · simp [pickLog, hb] at h
        rcases h with rfl | h
        · exact ⟨List.mem_cons_self, by simpa using hb⟩
        · exact ⟨List.mem_cons_of_mem _ (ih h).1, (ih h).2⟩

/-- At most the number asked for is picked. -/
theorem pickLog_length (bad : LogEntry → Bool) (l : List LogEntry) (n : Nat) : (pickLog bad l n).1.length ≤ n := by
  induction l generalizing n with
  | nil => simp [pickLog]
  | cons a t ih =>
    cases n with
    | zero => simp [pickLog]
    | succ k =>
      by_cases hb : bad a = true
      · simpa [pickLog, hb] using ih (k + 1)
      · simpa [pickLog, hb] using ih k

/-- An answer leaves a session that the request is none of as it was (R521). -/
theorem ChyReq.serves_other {r : ChyReq} {x : SessionSt} (now : Nat) (h : r.ofSession x = false) : r.serves now x = x := by
  simp [ChyReq.serves, h]

/-- An answer to a request of the session begins its idleness (R521). -/
theorem ChyReq.serves_own {r : ChyReq} {x : SessionSt} (now : Nat) (h : r.ofSession x = true) :
    r.serves now x = { x with idleSince := now } := by
  simp [ChyReq.serves, h]

end Sys2Proof.Machine
end

