-- ==== Sys2Proof/Laws/State.lean ====
section
/-! SUPPORT. Each update of one part of the state: that part's new value, and every other part as it was. -/
namespace Sys2Proof.Machine

section
variable (s : State) (f : Fld) (v : Nat)
@[simp] theorem State.wr_latches : (s.wr f v).latches = s.latches := rfl
@[simp] theorem State.wr_time : (s.wr f v).time = s.time := rfl
@[simp] theorem State.wr_ant : (s.wr f v).ant = s.ant := rfl
@[simp] theorem State.wr_ctxs : (s.wr f v).ctxs = s.ctxs := rfl
@[simp] theorem State.wr_refs : (s.wr f v).refs = s.refs := rfl
@[simp] theorem State.wr_cal : (s.wr f v).cal = s.cal := rfl
@[simp] theorem State.wr_pulses : (s.wr f v).pulses = s.pulses := rfl
@[simp] theorem State.wr_gpis : (s.wr f v).gpis = s.gpis := rfl
@[simp] theorem State.wr_otu : (s.wr f v).otu = s.otu := rfl
@[simp] theorem State.wr_emi : (s.wr f v).emi = s.emi := rfl
@[simp] theorem State.wr_wings : (s.wr f v).wings = s.wings := rfl
@[simp] theorem State.wr_dmxs : (s.wr f v).dmxs = s.dmxs := rfl
@[simp] theorem State.wr_selfCal : (s.wr f v).selfCal = s.selfCal := rfl
@[simp] theorem State.wr_pix : (s.wr f v).pix = s.pix := rfl
@[simp] theorem State.wr_vins : (s.wr f v).vins = s.vins := rfl
@[simp] theorem State.wr_flows : (s.wr f v).flows = s.flows := rfl
@[simp] theorem State.wr_trk : (s.wr f v).trk = s.trk := rfl
@[simp] theorem State.wr_ltc : (s.wr f v).ltc = s.ltc := rfl
@[simp] theorem State.wr_aesHeard : (s.wr f v).aesHeard = s.aesHeard := rfl
@[simp] theorem State.wr_host : (s.wr f v).host = s.host := rfl
@[simp] theorem State.wr_store : (s.wr f v).store = s.store := rfl
@[simp] theorem State.wr_arb : (s.wr f v).arb = s.arb := rfl
@[simp] theorem State.wr_sealedRegions : (s.wr f v).sealedRegions = s.sealedRegions := rfl
@[simp] theorem State.wr_roo : (s.wr f v).roo = s.roo := rfl
@[simp] theorem State.wr_macs : (s.wr f v).macs = s.macs := rfl
@[simp] theorem State.wr_mscs : (s.wr f v).mscs = s.mscs := rfl
@[simp] theorem State.wr_hawks : (s.wr f v).hawks = s.hawks := rfl
@[simp] theorem State.wr_l2 : (s.wr f v).l2 = s.l2 := rfl
@[simp] theorem State.wr_tsk : (s.wr f v).tsk = s.tsk := rfl
@[simp] theorem State.wr_queues : (s.wr f v).queues = s.queues := rfl
@[simp] theorem State.wr_queuePops : (s.wr f v).queuePops = s.queuePops := rfl
@[simp] theorem State.wr_thm : (s.wr f v).thm = s.thm := rfl
@[simp] theorem State.wr_pwr : (s.wr f v).pwr = s.pwr := rfl
@[simp] theorem State.wr_chy : (s.wr f v).chy = s.chy := rfl
@[simp] theorem State.wr_jtag : (s.wr f v).jtag = s.jtag := rfl
@[simp] theorem State.wr_off : (s.wr f v).off = s.off := rfl
@[simp] theorem State.wr_out : (s.wr f v).out = s.out := rfl
@[simp] theorem State.wr_fresh : (s.wr f v).fresh = s.fresh := rfl
@[simp] theorem State.wr_pending : (s.wr f v).pending = s.pending := rfl
end

section
variable (s : State) (f : Fld) (b : Bool)
@[simp] theorem State.setFlag_latches : (s.setFlag f b).latches = s.latches := rfl
@[simp] theorem State.setFlag_time : (s.setFlag f b).time = s.time := rfl
@[simp] theorem State.setFlag_ant : (s.setFlag f b).ant = s.ant := rfl
@[simp] theorem State.setFlag_ctxs : (s.setFlag f b).ctxs = s.ctxs := rfl
@[simp] theorem State.setFlag_refs : (s.setFlag f b).refs = s.refs := rfl
@[simp] theorem State.setFlag_cal : (s.setFlag f b).cal = s.cal := rfl
@[simp] theorem State.setFlag_pulses : (s.setFlag f b).pulses = s.pulses := rfl
@[simp] theorem State.setFlag_gpis : (s.setFlag f b).gpis = s.gpis := rfl
@[simp] theorem State.setFlag_otu : (s.setFlag f b).otu = s.otu := rfl
@[simp] theorem State.setFlag_emi : (s.setFlag f b).emi = s.emi := rfl
@[simp] theorem State.setFlag_wings : (s.setFlag f b).wings = s.wings := rfl
@[simp] theorem State.setFlag_dmxs : (s.setFlag f b).dmxs = s.dmxs := rfl
@[simp] theorem State.setFlag_selfCal : (s.setFlag f b).selfCal = s.selfCal := rfl
@[simp] theorem State.setFlag_pix : (s.setFlag f b).pix = s.pix := rfl
@[simp] theorem State.setFlag_vins : (s.setFlag f b).vins = s.vins := rfl
@[simp] theorem State.setFlag_flows : (s.setFlag f b).flows = s.flows := rfl
@[simp] theorem State.setFlag_trk : (s.setFlag f b).trk = s.trk := rfl
@[simp] theorem State.setFlag_ltc : (s.setFlag f b).ltc = s.ltc := rfl
@[simp] theorem State.setFlag_aesHeard : (s.setFlag f b).aesHeard = s.aesHeard := rfl
@[simp] theorem State.setFlag_host : (s.setFlag f b).host = s.host := rfl
@[simp] theorem State.setFlag_store : (s.setFlag f b).store = s.store := rfl
@[simp] theorem State.setFlag_arb : (s.setFlag f b).arb = s.arb := rfl
@[simp] theorem State.setFlag_sealedRegions : (s.setFlag f b).sealedRegions = s.sealedRegions := rfl
@[simp] theorem State.setFlag_roo : (s.setFlag f b).roo = s.roo := rfl
@[simp] theorem State.setFlag_macs : (s.setFlag f b).macs = s.macs := rfl
@[simp] theorem State.setFlag_mscs : (s.setFlag f b).mscs = s.mscs := rfl
@[simp] theorem State.setFlag_hawks : (s.setFlag f b).hawks = s.hawks := rfl
@[simp] theorem State.setFlag_l2 : (s.setFlag f b).l2 = s.l2 := rfl
@[simp] theorem State.setFlag_tsk : (s.setFlag f b).tsk = s.tsk := rfl
@[simp] theorem State.setFlag_queues : (s.setFlag f b).queues = s.queues := rfl
@[simp] theorem State.setFlag_queuePops : (s.setFlag f b).queuePops = s.queuePops := rfl
@[simp] theorem State.setFlag_thm : (s.setFlag f b).thm = s.thm := rfl
@[simp] theorem State.setFlag_pwr : (s.setFlag f b).pwr = s.pwr := rfl
@[simp] theorem State.setFlag_chy : (s.setFlag f b).chy = s.chy := rfl
@[simp] theorem State.setFlag_jtag : (s.setFlag f b).jtag = s.jtag := rfl
@[simp] theorem State.setFlag_off : (s.setFlag f b).off = s.off := rfl
@[simp] theorem State.setFlag_out : (s.setFlag f b).out = s.out := rfl
@[simp] theorem State.setFlag_fresh : (s.setFlag f b).fresh = s.fresh := rfl
@[simp] theorem State.setFlag_pending : (s.setFlag f b).pending = s.pending := rfl
end

section
variable (s : State) (f : Fld) (n : Nat)
@[simp] theorem State.count_latches : (s.count f n).latches = s.latches := rfl
@[simp] theorem State.count_time : (s.count f n).time = s.time := rfl
@[simp] theorem State.count_ant : (s.count f n).ant = s.ant := rfl
@[simp] theorem State.count_ctxs : (s.count f n).ctxs = s.ctxs := rfl
@[simp] theorem State.count_refs : (s.count f n).refs = s.refs := rfl
@[simp] theorem State.count_cal : (s.count f n).cal = s.cal := rfl
@[simp] theorem State.count_pulses : (s.count f n).pulses = s.pulses := rfl
@[simp] theorem State.count_gpis : (s.count f n).gpis = s.gpis := rfl
@[simp] theorem State.count_otu : (s.count f n).otu = s.otu := rfl
@[simp] theorem State.count_emi : (s.count f n).emi = s.emi := rfl
@[simp] theorem State.count_wings : (s.count f n).wings = s.wings := rfl
@[simp] theorem State.count_dmxs : (s.count f n).dmxs = s.dmxs := rfl
@[simp] theorem State.count_selfCal : (s.count f n).selfCal = s.selfCal := rfl
@[simp] theorem State.count_pix : (s.count f n).pix = s.pix := rfl
@[simp] theorem State.count_vins : (s.count f n).vins = s.vins := rfl
@[simp] theorem State.count_flows : (s.count f n).flows = s.flows := rfl
@[simp] theorem State.count_trk : (s.count f n).trk = s.trk := rfl
@[simp] theorem State.count_ltc : (s.count f n).ltc = s.ltc := rfl
@[simp] theorem State.count_aesHeard : (s.count f n).aesHeard = s.aesHeard := rfl
@[simp] theorem State.count_host : (s.count f n).host = s.host := rfl
@[simp] theorem State.count_store : (s.count f n).store = s.store := rfl
@[simp] theorem State.count_arb : (s.count f n).arb = s.arb := rfl
@[simp] theorem State.count_sealedRegions : (s.count f n).sealedRegions = s.sealedRegions := rfl
@[simp] theorem State.count_roo : (s.count f n).roo = s.roo := rfl
@[simp] theorem State.count_macs : (s.count f n).macs = s.macs := rfl
@[simp] theorem State.count_mscs : (s.count f n).mscs = s.mscs := rfl
@[simp] theorem State.count_hawks : (s.count f n).hawks = s.hawks := rfl
@[simp] theorem State.count_l2 : (s.count f n).l2 = s.l2 := rfl
@[simp] theorem State.count_tsk : (s.count f n).tsk = s.tsk := rfl
@[simp] theorem State.count_queues : (s.count f n).queues = s.queues := rfl
@[simp] theorem State.count_queuePops : (s.count f n).queuePops = s.queuePops := rfl
@[simp] theorem State.count_thm : (s.count f n).thm = s.thm := rfl
@[simp] theorem State.count_pwr : (s.count f n).pwr = s.pwr := rfl
@[simp] theorem State.count_chy : (s.count f n).chy = s.chy := rfl
@[simp] theorem State.count_jtag : (s.count f n).jtag = s.jtag := rfl
@[simp] theorem State.count_off : (s.count f n).off = s.off := rfl
@[simp] theorem State.count_out : (s.count f n).out = s.out := rfl
@[simp] theorem State.count_fresh : (s.count f n).fresh = s.fresh := rfl
@[simp] theorem State.count_pending : (s.count f n).pending = s.pending := rfl
end

section
variable (s : State) (lo hi : Fld) (v : Nat)
@[simp] theorem State.wr64_latches : (s.wr64 lo hi v).latches = s.latches := rfl
@[simp] theorem State.wr64_time : (s.wr64 lo hi v).time = s.time := rfl
@[simp] theorem State.wr64_ant : (s.wr64 lo hi v).ant = s.ant := rfl
@[simp] theorem State.wr64_ctxs : (s.wr64 lo hi v).ctxs = s.ctxs := rfl
@[simp] theorem State.wr64_refs : (s.wr64 lo hi v).refs = s.refs := rfl
@[simp] theorem State.wr64_cal : (s.wr64 lo hi v).cal = s.cal := rfl
@[simp] theorem State.wr64_pulses : (s.wr64 lo hi v).pulses = s.pulses := rfl
@[simp] theorem State.wr64_gpis : (s.wr64 lo hi v).gpis = s.gpis := rfl
@[simp] theorem State.wr64_otu : (s.wr64 lo hi v).otu = s.otu := rfl
@[simp] theorem State.wr64_emi : (s.wr64 lo hi v).emi = s.emi := rfl
@[simp] theorem State.wr64_wings : (s.wr64 lo hi v).wings = s.wings := rfl
@[simp] theorem State.wr64_dmxs : (s.wr64 lo hi v).dmxs = s.dmxs := rfl
@[simp] theorem State.wr64_selfCal : (s.wr64 lo hi v).selfCal = s.selfCal := rfl
@[simp] theorem State.wr64_pix : (s.wr64 lo hi v).pix = s.pix := rfl
@[simp] theorem State.wr64_vins : (s.wr64 lo hi v).vins = s.vins := rfl
@[simp] theorem State.wr64_flows : (s.wr64 lo hi v).flows = s.flows := rfl
@[simp] theorem State.wr64_trk : (s.wr64 lo hi v).trk = s.trk := rfl
@[simp] theorem State.wr64_ltc : (s.wr64 lo hi v).ltc = s.ltc := rfl
@[simp] theorem State.wr64_aesHeard : (s.wr64 lo hi v).aesHeard = s.aesHeard := rfl
@[simp] theorem State.wr64_host : (s.wr64 lo hi v).host = s.host := rfl
@[simp] theorem State.wr64_store : (s.wr64 lo hi v).store = s.store := rfl
@[simp] theorem State.wr64_arb : (s.wr64 lo hi v).arb = s.arb := rfl
@[simp] theorem State.wr64_sealedRegions : (s.wr64 lo hi v).sealedRegions = s.sealedRegions := rfl
@[simp] theorem State.wr64_roo : (s.wr64 lo hi v).roo = s.roo := rfl
@[simp] theorem State.wr64_macs : (s.wr64 lo hi v).macs = s.macs := rfl
@[simp] theorem State.wr64_mscs : (s.wr64 lo hi v).mscs = s.mscs := rfl
@[simp] theorem State.wr64_hawks : (s.wr64 lo hi v).hawks = s.hawks := rfl
@[simp] theorem State.wr64_l2 : (s.wr64 lo hi v).l2 = s.l2 := rfl
@[simp] theorem State.wr64_tsk : (s.wr64 lo hi v).tsk = s.tsk := rfl
@[simp] theorem State.wr64_queues : (s.wr64 lo hi v).queues = s.queues := rfl
@[simp] theorem State.wr64_queuePops : (s.wr64 lo hi v).queuePops = s.queuePops := rfl
@[simp] theorem State.wr64_thm : (s.wr64 lo hi v).thm = s.thm := rfl
@[simp] theorem State.wr64_pwr : (s.wr64 lo hi v).pwr = s.pwr := rfl
@[simp] theorem State.wr64_chy : (s.wr64 lo hi v).chy = s.chy := rfl
@[simp] theorem State.wr64_jtag : (s.wr64 lo hi v).jtag = s.jtag := rfl
@[simp] theorem State.wr64_off : (s.wr64 lo hi v).off = s.off := rfl
@[simp] theorem State.wr64_out : (s.wr64 lo hi v).out = s.out := rfl
@[simp] theorem State.wr64_fresh : (s.wr64 lo hi v).fresh = s.fresh := rfl
@[simp] theorem State.wr64_pending : (s.wr64 lo hi v).pending = s.pending := rfl
end

section
variable (s : State) (l : List Instr)
@[simp] theorem State.withPending_regs : (s.withPending l).regs = s.regs := rfl
@[simp] theorem State.withPending_latches : (s.withPending l).latches = s.latches := rfl
@[simp] theorem State.withPending_time : (s.withPending l).time = s.time := rfl
@[simp] theorem State.withPending_ant : (s.withPending l).ant = s.ant := rfl
@[simp] theorem State.withPending_ctxs : (s.withPending l).ctxs = s.ctxs := rfl
@[simp] theorem State.withPending_refs : (s.withPending l).refs = s.refs := rfl
@[simp] theorem State.withPending_cal : (s.withPending l).cal = s.cal := rfl
@[simp] theorem State.withPending_pulses : (s.withPending l).pulses = s.pulses := rfl
@[simp] theorem State.withPending_gpis : (s.withPending l).gpis = s.gpis := rfl
@[simp] theorem State.withPending_otu : (s.withPending l).otu = s.otu := rfl
@[simp] theorem State.withPending_emi : (s.withPending l).emi = s.emi := rfl
@[simp] theorem State.withPending_wings : (s.withPending l).wings = s.wings := rfl
@[simp] theorem State.withPending_dmxs : (s.withPending l).dmxs = s.dmxs := rfl
@[simp] theorem State.withPending_selfCal : (s.withPending l).selfCal = s.selfCal := rfl
@[simp] theorem State.withPending_pix : (s.withPending l).pix = s.pix := rfl
@[simp] theorem State.withPending_vins : (s.withPending l).vins = s.vins := rfl
@[simp] theorem State.withPending_flows : (s.withPending l).flows = s.flows := rfl
@[simp] theorem State.withPending_trk : (s.withPending l).trk = s.trk := rfl
@[simp] theorem State.withPending_ltc : (s.withPending l).ltc = s.ltc := rfl
@[simp] theorem State.withPending_aesHeard : (s.withPending l).aesHeard = s.aesHeard := rfl
@[simp] theorem State.withPending_host : (s.withPending l).host = s.host := rfl
@[simp] theorem State.withPending_store : (s.withPending l).store = s.store := rfl
@[simp] theorem State.withPending_arb : (s.withPending l).arb = s.arb := rfl
@[simp] theorem State.withPending_sealedRegions : (s.withPending l).sealedRegions = s.sealedRegions := rfl
@[simp] theorem State.withPending_roo : (s.withPending l).roo = s.roo := rfl
@[simp] theorem State.withPending_macs : (s.withPending l).macs = s.macs := rfl
@[simp] theorem State.withPending_mscs : (s.withPending l).mscs = s.mscs := rfl
@[simp] theorem State.withPending_hawks : (s.withPending l).hawks = s.hawks := rfl
@[simp] theorem State.withPending_l2 : (s.withPending l).l2 = s.l2 := rfl
@[simp] theorem State.withPending_tsk : (s.withPending l).tsk = s.tsk := rfl
@[simp] theorem State.withPending_queues : (s.withPending l).queues = s.queues := rfl
@[simp] theorem State.withPending_queuePops : (s.withPending l).queuePops = s.queuePops := rfl
@[simp] theorem State.withPending_thm : (s.withPending l).thm = s.thm := rfl
@[simp] theorem State.withPending_pwr : (s.withPending l).pwr = s.pwr := rfl
@[simp] theorem State.withPending_chy : (s.withPending l).chy = s.chy := rfl
@[simp] theorem State.withPending_jtag : (s.withPending l).jtag = s.jtag := rfl
@[simp] theorem State.withPending_off : (s.withPending l).off = s.off := rfl
@[simp] theorem State.withPending_out : (s.withPending l).out = s.out := rfl
@[simp] theorem State.withPending_fresh : (s.withPending l).fresh = s.fresh := rfl
@[simp] theorem State.withPending_pending : (s.withPending l).pending = l := rfl
end

section
variable (s : State) (c : Nat) (x : SourceSt)
@[simp] theorem State.setSource_regs : (s.setSource c x).regs = s.regs := rfl
@[simp] theorem State.setSource_latches : (s.setSource c x).latches = s.latches := rfl
@[simp] theorem State.setSource_time : (s.setSource c x).time = s.time := rfl
@[simp] theorem State.setSource_ant : (s.setSource c x).ant = { s.ant with sources := tblSet s.ant.sources sourceIdle c x } := rfl
@[simp] theorem State.setSource_ctxs : (s.setSource c x).ctxs = s.ctxs := rfl
@[simp] theorem State.setSource_refs : (s.setSource c x).refs = s.refs := rfl
@[simp] theorem State.setSource_cal : (s.setSource c x).cal = s.cal := rfl
@[simp] theorem State.setSource_pulses : (s.setSource c x).pulses = s.pulses := rfl
@[simp] theorem State.setSource_gpis : (s.setSource c x).gpis = s.gpis := rfl
@[simp] theorem State.setSource_otu : (s.setSource c x).otu = s.otu := rfl
@[simp] theorem State.setSource_emi : (s.setSource c x).emi = s.emi := rfl
@[simp] theorem State.setSource_wings : (s.setSource c x).wings = s.wings := rfl
@[simp] theorem State.setSource_dmxs : (s.setSource c x).dmxs = s.dmxs := rfl
@[simp] theorem State.setSource_selfCal : (s.setSource c x).selfCal = s.selfCal := rfl
@[simp] theorem State.setSource_pix : (s.setSource c x).pix = s.pix := rfl
@[simp] theorem State.setSource_vins : (s.setSource c x).vins = s.vins := rfl
@[simp] theorem State.setSource_flows : (s.setSource c x).flows = s.flows := rfl
@[simp] theorem State.setSource_trk : (s.setSource c x).trk = s.trk := rfl
@[simp] theorem State.setSource_ltc : (s.setSource c x).ltc = s.ltc := rfl
@[simp] theorem State.setSource_aesHeard : (s.setSource c x).aesHeard = s.aesHeard := rfl
@[simp] theorem State.setSource_host : (s.setSource c x).host = s.host := rfl
@[simp] theorem State.setSource_store : (s.setSource c x).store = s.store := rfl
@[simp] theorem State.setSource_arb : (s.setSource c x).arb = s.arb := rfl
@[simp] theorem State.setSource_sealedRegions : (s.setSource c x).sealedRegions = s.sealedRegions := rfl
@[simp] theorem State.setSource_roo : (s.setSource c x).roo = s.roo := rfl
@[simp] theorem State.setSource_macs : (s.setSource c x).macs = s.macs := rfl
@[simp] theorem State.setSource_mscs : (s.setSource c x).mscs = s.mscs := rfl
@[simp] theorem State.setSource_hawks : (s.setSource c x).hawks = s.hawks := rfl
@[simp] theorem State.setSource_l2 : (s.setSource c x).l2 = s.l2 := rfl
@[simp] theorem State.setSource_tsk : (s.setSource c x).tsk = s.tsk := rfl
@[simp] theorem State.setSource_queues : (s.setSource c x).queues = s.queues := rfl
@[simp] theorem State.setSource_queuePops : (s.setSource c x).queuePops = s.queuePops := rfl
@[simp] theorem State.setSource_thm : (s.setSource c x).thm = s.thm := rfl
@[simp] theorem State.setSource_pwr : (s.setSource c x).pwr = s.pwr := rfl
@[simp] theorem State.setSource_chy : (s.setSource c x).chy = s.chy := rfl
@[simp] theorem State.setSource_jtag : (s.setSource c x).jtag = s.jtag := rfl
@[simp] theorem State.setSource_off : (s.setSource c x).off = s.off := rfl
@[simp] theorem State.setSource_out : (s.setSource c x).out = s.out := rfl
@[simp] theorem State.setSource_fresh : (s.setSource c x).fresh = s.fresh := rfl
@[simp] theorem State.setSource_pending : (s.setSource c x).pending = s.pending := rfl
end

section
variable (s : State) (n : Nat) (x : CtxSt)
@[simp] theorem State.setCtx_regs : (s.setCtx n x).regs = s.regs := rfl
@[simp] theorem State.setCtx_latches : (s.setCtx n x).latches = s.latches := rfl
@[simp] theorem State.setCtx_time : (s.setCtx n x).time = s.time := rfl
@[simp] theorem State.setCtx_ant : (s.setCtx n x).ant = s.ant := rfl
@[simp] theorem State.setCtx_ctxs : (s.setCtx n x).ctxs = tblSet s.ctxs ctxIdle n x := rfl
@[simp] theorem State.setCtx_refs : (s.setCtx n x).refs = s.refs := rfl
@[simp] theorem State.setCtx_cal : (s.setCtx n x).cal = s.cal := rfl
@[simp] theorem State.setCtx_pulses : (s.setCtx n x).pulses = s.pulses := rfl
@[simp] theorem State.setCtx_gpis : (s.setCtx n x).gpis = s.gpis := rfl
@[simp] theorem State.setCtx_otu : (s.setCtx n x).otu = s.otu := rfl
@[simp] theorem State.setCtx_emi : (s.setCtx n x).emi = s.emi := rfl
@[simp] theorem State.setCtx_wings : (s.setCtx n x).wings = s.wings := rfl
@[simp] theorem State.setCtx_dmxs : (s.setCtx n x).dmxs = s.dmxs := rfl
@[simp] theorem State.setCtx_selfCal : (s.setCtx n x).selfCal = s.selfCal := rfl
@[simp] theorem State.setCtx_pix : (s.setCtx n x).pix = s.pix := rfl
@[simp] theorem State.setCtx_vins : (s.setCtx n x).vins = s.vins := rfl
@[simp] theorem State.setCtx_flows : (s.setCtx n x).flows = s.flows := rfl
@[simp] theorem State.setCtx_trk : (s.setCtx n x).trk = s.trk := rfl
@[simp] theorem State.setCtx_ltc : (s.setCtx n x).ltc = s.ltc := rfl
@[simp] theorem State.setCtx_aesHeard : (s.setCtx n x).aesHeard = s.aesHeard := rfl
@[simp] theorem State.setCtx_host : (s.setCtx n x).host = s.host := rfl
@[simp] theorem State.setCtx_store : (s.setCtx n x).store = s.store := rfl
@[simp] theorem State.setCtx_arb : (s.setCtx n x).arb = s.arb := rfl
@[simp] theorem State.setCtx_sealedRegions : (s.setCtx n x).sealedRegions = s.sealedRegions := rfl
@[simp] theorem State.setCtx_roo : (s.setCtx n x).roo = s.roo := rfl
@[simp] theorem State.setCtx_macs : (s.setCtx n x).macs = s.macs := rfl
@[simp] theorem State.setCtx_mscs : (s.setCtx n x).mscs = s.mscs := rfl
@[simp] theorem State.setCtx_hawks : (s.setCtx n x).hawks = s.hawks := rfl
@[simp] theorem State.setCtx_l2 : (s.setCtx n x).l2 = s.l2 := rfl
@[simp] theorem State.setCtx_tsk : (s.setCtx n x).tsk = s.tsk := rfl
@[simp] theorem State.setCtx_queues : (s.setCtx n x).queues = s.queues := rfl
@[simp] theorem State.setCtx_queuePops : (s.setCtx n x).queuePops = s.queuePops := rfl
@[simp] theorem State.setCtx_thm : (s.setCtx n x).thm = s.thm := rfl
@[simp] theorem State.setCtx_pwr : (s.setCtx n x).pwr = s.pwr := rfl
@[simp] theorem State.setCtx_chy : (s.setCtx n x).chy = s.chy := rfl
@[simp] theorem State.setCtx_jtag : (s.setCtx n x).jtag = s.jtag := rfl
@[simp] theorem State.setCtx_off : (s.setCtx n x).off = s.off := rfl
@[simp] theorem State.setCtx_out : (s.setCtx n x).out = s.out := rfl
@[simp] theorem State.setCtx_fresh : (s.setCtx n x).fresh = s.fresh := rfl
@[simp] theorem State.setCtx_pending : (s.setCtx n x).pending = s.pending := rfl
end

section
variable (s : State) (k : Nat) (x : PulseSt)
@[simp] theorem State.setPulse_regs : (s.setPulse k x).regs = s.regs := rfl
@[simp] theorem State.setPulse_latches : (s.setPulse k x).latches = s.latches := rfl
@[simp] theorem State.setPulse_time : (s.setPulse k x).time = s.time := rfl
@[simp] theorem State.setPulse_ant : (s.setPulse k x).ant = s.ant := rfl
@[simp] theorem State.setPulse_ctxs : (s.setPulse k x).ctxs = s.ctxs := rfl
@[simp] theorem State.setPulse_refs : (s.setPulse k x).refs = s.refs := rfl
@[simp] theorem State.setPulse_cal : (s.setPulse k x).cal = s.cal := rfl
@[simp] theorem State.setPulse_pulses : (s.setPulse k x).pulses = tblSet s.pulses pulseIdle k x := rfl
@[simp] theorem State.setPulse_gpis : (s.setPulse k x).gpis = s.gpis := rfl
@[simp] theorem State.setPulse_otu : (s.setPulse k x).otu = s.otu := rfl
@[simp] theorem State.setPulse_emi : (s.setPulse k x).emi = s.emi := rfl
@[simp] theorem State.setPulse_wings : (s.setPulse k x).wings = s.wings := rfl
@[simp] theorem State.setPulse_dmxs : (s.setPulse k x).dmxs = s.dmxs := rfl
@[simp] theorem State.setPulse_selfCal : (s.setPulse k x).selfCal = s.selfCal := rfl
@[simp] theorem State.setPulse_pix : (s.setPulse k x).pix = s.pix := rfl
@[simp] theorem State.setPulse_vins : (s.setPulse k x).vins = s.vins := rfl
@[simp] theorem State.setPulse_flows : (s.setPulse k x).flows = s.flows := rfl
@[simp] theorem State.setPulse_trk : (s.setPulse k x).trk = s.trk := rfl
@[simp] theorem State.setPulse_ltc : (s.setPulse k x).ltc = s.ltc := rfl
@[simp] theorem State.setPulse_aesHeard : (s.setPulse k x).aesHeard = s.aesHeard := rfl
@[simp] theorem State.setPulse_host : (s.setPulse k x).host = s.host := rfl
@[simp] theorem State.setPulse_store : (s.setPulse k x).store = s.store := rfl
@[simp] theorem State.setPulse_arb : (s.setPulse k x).arb = s.arb := rfl
@[simp] theorem State.setPulse_sealedRegions : (s.setPulse k x).sealedRegions = s.sealedRegions := rfl
@[simp] theorem State.setPulse_roo : (s.setPulse k x).roo = s.roo := rfl
@[simp] theorem State.setPulse_macs : (s.setPulse k x).macs = s.macs := rfl
@[simp] theorem State.setPulse_mscs : (s.setPulse k x).mscs = s.mscs := rfl
@[simp] theorem State.setPulse_hawks : (s.setPulse k x).hawks = s.hawks := rfl
@[simp] theorem State.setPulse_l2 : (s.setPulse k x).l2 = s.l2 := rfl
@[simp] theorem State.setPulse_tsk : (s.setPulse k x).tsk = s.tsk := rfl
@[simp] theorem State.setPulse_queues : (s.setPulse k x).queues = s.queues := rfl
@[simp] theorem State.setPulse_queuePops : (s.setPulse k x).queuePops = s.queuePops := rfl
@[simp] theorem State.setPulse_thm : (s.setPulse k x).thm = s.thm := rfl
@[simp] theorem State.setPulse_pwr : (s.setPulse k x).pwr = s.pwr := rfl
@[simp] theorem State.setPulse_chy : (s.setPulse k x).chy = s.chy := rfl
@[simp] theorem State.setPulse_jtag : (s.setPulse k x).jtag = s.jtag := rfl
@[simp] theorem State.setPulse_off : (s.setPulse k x).off = s.off := rfl
@[simp] theorem State.setPulse_out : (s.setPulse k x).out = s.out := rfl
@[simp] theorem State.setPulse_fresh : (s.setPulse k x).fresh = s.fresh := rfl
@[simp] theorem State.setPulse_pending : (s.setPulse k x).pending = s.pending := rfl
end

section
variable (s : State) (n : Nat) (x : RefSt)
@[simp] theorem State.setRef_regs : (s.setRef n x).regs = s.regs := rfl
@[simp] theorem State.setRef_latches : (s.setRef n x).latches = s.latches := rfl
@[simp] theorem State.setRef_time : (s.setRef n x).time = s.time := rfl
@[simp] theorem State.setRef_ant : (s.setRef n x).ant = s.ant := rfl
@[simp] theorem State.setRef_ctxs : (s.setRef n x).ctxs = s.ctxs := rfl
@[simp] theorem State.setRef_refs : (s.setRef n x).refs = tblSet s.refs refIdle n x := rfl
@[simp] theorem State.setRef_cal : (s.setRef n x).cal = s.cal := rfl
@[simp] theorem State.setRef_pulses : (s.setRef n x).pulses = s.pulses := rfl
@[simp] theorem State.setRef_gpis : (s.setRef n x).gpis = s.gpis := rfl
@[simp] theorem State.setRef_otu : (s.setRef n x).otu = s.otu := rfl
@[simp] theorem State.setRef_emi : (s.setRef n x).emi = s.emi := rfl
@[simp] theorem State.setRef_wings : (s.setRef n x).wings = s.wings := rfl
@[simp] theorem State.setRef_dmxs : (s.setRef n x).dmxs = s.dmxs := rfl
@[simp] theorem State.setRef_selfCal : (s.setRef n x).selfCal = s.selfCal := rfl
@[simp] theorem State.setRef_pix : (s.setRef n x).pix = s.pix := rfl
@[simp] theorem State.setRef_vins : (s.setRef n x).vins = s.vins := rfl
@[simp] theorem State.setRef_flows : (s.setRef n x).flows = s.flows := rfl
@[simp] theorem State.setRef_trk : (s.setRef n x).trk = s.trk := rfl
@[simp] theorem State.setRef_ltc : (s.setRef n x).ltc = s.ltc := rfl
@[simp] theorem State.setRef_aesHeard : (s.setRef n x).aesHeard = s.aesHeard := rfl
@[simp] theorem State.setRef_host : (s.setRef n x).host = s.host := rfl
@[simp] theorem State.setRef_store : (s.setRef n x).store = s.store := rfl
@[simp] theorem State.setRef_arb : (s.setRef n x).arb = s.arb := rfl
@[simp] theorem State.setRef_sealedRegions : (s.setRef n x).sealedRegions = s.sealedRegions := rfl
@[simp] theorem State.setRef_roo : (s.setRef n x).roo = s.roo := rfl
@[simp] theorem State.setRef_macs : (s.setRef n x).macs = s.macs := rfl
@[simp] theorem State.setRef_mscs : (s.setRef n x).mscs = s.mscs := rfl
@[simp] theorem State.setRef_hawks : (s.setRef n x).hawks = s.hawks := rfl
@[simp] theorem State.setRef_l2 : (s.setRef n x).l2 = s.l2 := rfl
@[simp] theorem State.setRef_tsk : (s.setRef n x).tsk = s.tsk := rfl
@[simp] theorem State.setRef_queues : (s.setRef n x).queues = s.queues := rfl
@[simp] theorem State.setRef_queuePops : (s.setRef n x).queuePops = s.queuePops := rfl
@[simp] theorem State.setRef_thm : (s.setRef n x).thm = s.thm := rfl
@[simp] theorem State.setRef_pwr : (s.setRef n x).pwr = s.pwr := rfl
@[simp] theorem State.setRef_chy : (s.setRef n x).chy = s.chy := rfl
@[simp] theorem State.setRef_jtag : (s.setRef n x).jtag = s.jtag := rfl
@[simp] theorem State.setRef_off : (s.setRef n x).off = s.off := rfl
@[simp] theorem State.setRef_out : (s.setRef n x).out = s.out := rfl
@[simp] theorem State.setRef_fresh : (s.setRef n x).fresh = s.fresh := rfl
@[simp] theorem State.setRef_pending : (s.setRef n x).pending = s.pending := rfl
end

section
variable (s : State) (a : Nat) (l : Option LineSt)
@[simp] theorem State.setL2_regs : (s.setL2 a l).regs = s.regs := rfl
@[simp] theorem State.setL2_latches : (s.setL2 a l).latches = s.latches := rfl
@[simp] theorem State.setL2_time : (s.setL2 a l).time = s.time := rfl
@[simp] theorem State.setL2_ant : (s.setL2 a l).ant = s.ant := rfl
@[simp] theorem State.setL2_ctxs : (s.setL2 a l).ctxs = s.ctxs := rfl
@[simp] theorem State.setL2_refs : (s.setL2 a l).refs = s.refs := rfl
@[simp] theorem State.setL2_cal : (s.setL2 a l).cal = s.cal := rfl
@[simp] theorem State.setL2_pulses : (s.setL2 a l).pulses = s.pulses := rfl
@[simp] theorem State.setL2_gpis : (s.setL2 a l).gpis = s.gpis := rfl
@[simp] theorem State.setL2_otu : (s.setL2 a l).otu = s.otu := rfl
@[simp] theorem State.setL2_emi : (s.setL2 a l).emi = s.emi := rfl
@[simp] theorem State.setL2_wings : (s.setL2 a l).wings = s.wings := rfl
@[simp] theorem State.setL2_dmxs : (s.setL2 a l).dmxs = s.dmxs := rfl
@[simp] theorem State.setL2_selfCal : (s.setL2 a l).selfCal = s.selfCal := rfl
@[simp] theorem State.setL2_pix : (s.setL2 a l).pix = s.pix := rfl
@[simp] theorem State.setL2_vins : (s.setL2 a l).vins = s.vins := rfl
@[simp] theorem State.setL2_flows : (s.setL2 a l).flows = s.flows := rfl
@[simp] theorem State.setL2_trk : (s.setL2 a l).trk = s.trk := rfl
@[simp] theorem State.setL2_ltc : (s.setL2 a l).ltc = s.ltc := rfl
@[simp] theorem State.setL2_aesHeard : (s.setL2 a l).aesHeard = s.aesHeard := rfl
@[simp] theorem State.setL2_host : (s.setL2 a l).host = s.host := rfl
@[simp] theorem State.setL2_store : (s.setL2 a l).store = s.store := rfl
@[simp] theorem State.setL2_arb : (s.setL2 a l).arb = s.arb := rfl
@[simp] theorem State.setL2_sealedRegions : (s.setL2 a l).sealedRegions = s.sealedRegions := rfl
@[simp] theorem State.setL2_roo : (s.setL2 a l).roo = s.roo := rfl
@[simp] theorem State.setL2_macs : (s.setL2 a l).macs = s.macs := rfl
@[simp] theorem State.setL2_mscs : (s.setL2 a l).mscs = s.mscs := rfl
@[simp] theorem State.setL2_hawks : (s.setL2 a l).hawks = s.hawks := rfl
@[simp] theorem State.setL2_l2 : (s.setL2 a l).l2 = tblSet s.l2 none a l := rfl
@[simp] theorem State.setL2_tsk : (s.setL2 a l).tsk = s.tsk := rfl
@[simp] theorem State.setL2_queues : (s.setL2 a l).queues = s.queues := rfl
@[simp] theorem State.setL2_queuePops : (s.setL2 a l).queuePops = s.queuePops := rfl
@[simp] theorem State.setL2_thm : (s.setL2 a l).thm = s.thm := rfl
@[simp] theorem State.setL2_pwr : (s.setL2 a l).pwr = s.pwr := rfl
@[simp] theorem State.setL2_chy : (s.setL2 a l).chy = s.chy := rfl
@[simp] theorem State.setL2_jtag : (s.setL2 a l).jtag = s.jtag := rfl
@[simp] theorem State.setL2_off : (s.setL2 a l).off = s.off := rfl
@[simp] theorem State.setL2_out : (s.setL2 a l).out = s.out := rfl
@[simp] theorem State.setL2_fresh : (s.setL2 a l).fresh = s.fresh := rfl
@[simp] theorem State.setL2_pending : (s.setL2 a l).pending = s.pending := rfl
end

section
variable (s : State) (n : Nat) (h : HawkSt)
@[simp] theorem State.setHawk_regs : (s.setHawk n h).regs = s.regs := rfl
@[simp] theorem State.setHawk_latches : (s.setHawk n h).latches = s.latches := rfl
@[simp] theorem State.setHawk_time : (s.setHawk n h).time = s.time := rfl
@[simp] theorem State.setHawk_ant : (s.setHawk n h).ant = s.ant := rfl
@[simp] theorem State.setHawk_ctxs : (s.setHawk n h).ctxs = s.ctxs := rfl
@[simp] theorem State.setHawk_refs : (s.setHawk n h).refs = s.refs := rfl
@[simp] theorem State.setHawk_cal : (s.setHawk n h).cal = s.cal := rfl
@[simp] theorem State.setHawk_pulses : (s.setHawk n h).pulses = s.pulses := rfl
@[simp] theorem State.setHawk_gpis : (s.setHawk n h).gpis = s.gpis := rfl
@[simp] theorem State.setHawk_otu : (s.setHawk n h).otu = s.otu := rfl
@[simp] theorem State.setHawk_emi : (s.setHawk n h).emi = s.emi := rfl
@[simp] theorem State.setHawk_wings : (s.setHawk n h).wings = s.wings := rfl
@[simp] theorem State.setHawk_dmxs : (s.setHawk n h).dmxs = s.dmxs := rfl
@[simp] theorem State.setHawk_selfCal : (s.setHawk n h).selfCal = s.selfCal := rfl
@[simp] theorem State.setHawk_pix : (s.setHawk n h).pix = s.pix := rfl
@[simp] theorem State.setHawk_vins : (s.setHawk n h).vins = s.vins := rfl
@[simp] theorem State.setHawk_flows : (s.setHawk n h).flows = s.flows := rfl
@[simp] theorem State.setHawk_trk : (s.setHawk n h).trk = s.trk := rfl
@[simp] theorem State.setHawk_ltc : (s.setHawk n h).ltc = s.ltc := rfl
@[simp] theorem State.setHawk_aesHeard : (s.setHawk n h).aesHeard = s.aesHeard := rfl
@[simp] theorem State.setHawk_host : (s.setHawk n h).host = s.host := rfl
@[simp] theorem State.setHawk_store : (s.setHawk n h).store = s.store := rfl
@[simp] theorem State.setHawk_arb : (s.setHawk n h).arb = s.arb := rfl
@[simp] theorem State.setHawk_sealedRegions : (s.setHawk n h).sealedRegions = s.sealedRegions := rfl
@[simp] theorem State.setHawk_roo : (s.setHawk n h).roo = s.roo := rfl
@[simp] theorem State.setHawk_macs : (s.setHawk n h).macs = s.macs := rfl
@[simp] theorem State.setHawk_mscs : (s.setHawk n h).mscs = s.mscs := rfl
@[simp] theorem State.setHawk_hawks : (s.setHawk n h).hawks = tblSet s.hawks hawkIdle n h := rfl
@[simp] theorem State.setHawk_l2 : (s.setHawk n h).l2 = s.l2 := rfl
@[simp] theorem State.setHawk_tsk : (s.setHawk n h).tsk = s.tsk := rfl
@[simp] theorem State.setHawk_queues : (s.setHawk n h).queues = s.queues := rfl
@[simp] theorem State.setHawk_queuePops : (s.setHawk n h).queuePops = s.queuePops := rfl
@[simp] theorem State.setHawk_thm : (s.setHawk n h).thm = s.thm := rfl
@[simp] theorem State.setHawk_pwr : (s.setHawk n h).pwr = s.pwr := rfl
@[simp] theorem State.setHawk_chy : (s.setHawk n h).chy = s.chy := rfl
@[simp] theorem State.setHawk_jtag : (s.setHawk n h).jtag = s.jtag := rfl
@[simp] theorem State.setHawk_off : (s.setHawk n h).off = s.off := rfl
@[simp] theorem State.setHawk_out : (s.setHawk n h).out = s.out := rfl
@[simp] theorem State.setHawk_fresh : (s.setHawk n h).fresh = s.fresh := rfl
@[simp] theorem State.setHawk_pending : (s.setHawk n h).pending = s.pending := rfl
end

section
variable (s : State) (p : Nat) (x : MkaSt)
@[simp] theorem State.setMka_regs : (s.setMka p x).regs = s.regs := rfl
@[simp] theorem State.setMka_latches : (s.setMka p x).latches = s.latches := rfl
@[simp] theorem State.setMka_time : (s.setMka p x).time = s.time := rfl
@[simp] theorem State.setMka_ant : (s.setMka p x).ant = s.ant := rfl
@[simp] theorem State.setMka_ctxs : (s.setMka p x).ctxs = s.ctxs := rfl
@[simp] theorem State.setMka_refs : (s.setMka p x).refs = s.refs := rfl
@[simp] theorem State.setMka_cal : (s.setMka p x).cal = s.cal := rfl
@[simp] theorem State.setMka_pulses : (s.setMka p x).pulses = s.pulses := rfl
@[simp] theorem State.setMka_gpis : (s.setMka p x).gpis = s.gpis := rfl
@[simp] theorem State.setMka_otu : (s.setMka p x).otu = s.otu := rfl
@[simp] theorem State.setMka_emi : (s.setMka p x).emi = s.emi := rfl
@[simp] theorem State.setMka_wings : (s.setMka p x).wings = s.wings := rfl
@[simp] theorem State.setMka_dmxs : (s.setMka p x).dmxs = s.dmxs := rfl
@[simp] theorem State.setMka_selfCal : (s.setMka p x).selfCal = s.selfCal := rfl
@[simp] theorem State.setMka_pix : (s.setMka p x).pix = s.pix := rfl
@[simp] theorem State.setMka_vins : (s.setMka p x).vins = s.vins := rfl
@[simp] theorem State.setMka_flows : (s.setMka p x).flows = s.flows := rfl
@[simp] theorem State.setMka_trk : (s.setMka p x).trk = s.trk := rfl
@[simp] theorem State.setMka_ltc : (s.setMka p x).ltc = s.ltc := rfl
@[simp] theorem State.setMka_aesHeard : (s.setMka p x).aesHeard = s.aesHeard := rfl
@[simp] theorem State.setMka_host : (s.setMka p x).host = s.host := rfl
@[simp] theorem State.setMka_store : (s.setMka p x).store = s.store := rfl
@[simp] theorem State.setMka_arb : (s.setMka p x).arb = s.arb := rfl
@[simp] theorem State.setMka_sealedRegions : (s.setMka p x).sealedRegions = s.sealedRegions := rfl
@[simp] theorem State.setMka_roo : (s.setMka p x).roo = s.roo := rfl
@[simp] theorem State.setMka_macs : (s.setMka p x).macs = s.macs := rfl
@[simp] theorem State.setMka_mscs : (s.setMka p x).mscs = s.mscs := rfl
@[simp] theorem State.setMka_hawks : (s.setMka p x).hawks = s.hawks := rfl
@[simp] theorem State.setMka_l2 : (s.setMka p x).l2 = s.l2 := rfl
@[simp] theorem State.setMka_tsk : (s.setMka p x).tsk = s.tsk := rfl
@[simp] theorem State.setMka_queues : (s.setMka p x).queues = s.queues := rfl
@[simp] theorem State.setMka_queuePops : (s.setMka p x).queuePops = s.queuePops := rfl
@[simp] theorem State.setMka_thm : (s.setMka p x).thm = s.thm := rfl
@[simp] theorem State.setMka_pwr : (s.setMka p x).pwr = s.pwr := rfl
@[simp] theorem State.setMka_chy : (s.setMka p x).chy = { s.chy with mka := tblSet s.chy.mka mkaIdle p x } := rfl
@[simp] theorem State.setMka_jtag : (s.setMka p x).jtag = s.jtag := rfl
@[simp] theorem State.setMka_off : (s.setMka p x).off = s.off := rfl
@[simp] theorem State.setMka_out : (s.setMka p x).out = s.out := rfl
@[simp] theorem State.setMka_fresh : (s.setMka p x).fresh = s.fresh := rfl
@[simp] theorem State.setMka_pending : (s.setMka p x).pending = s.pending := rfl
end

section
variable (s : State) (p : Nat) (m : MacSt)
@[simp] theorem State.setMac_regs : (s.setMac p m).regs = s.regs := rfl
@[simp] theorem State.setMac_latches : (s.setMac p m).latches = s.latches := rfl
@[simp] theorem State.setMac_time : (s.setMac p m).time = s.time := rfl
@[simp] theorem State.setMac_ant : (s.setMac p m).ant = s.ant := rfl
@[simp] theorem State.setMac_ctxs : (s.setMac p m).ctxs = s.ctxs := rfl
@[simp] theorem State.setMac_refs : (s.setMac p m).refs = s.refs := rfl
@[simp] theorem State.setMac_cal : (s.setMac p m).cal = s.cal := rfl
@[simp] theorem State.setMac_pulses : (s.setMac p m).pulses = s.pulses := rfl
@[simp] theorem State.setMac_gpis : (s.setMac p m).gpis = s.gpis := rfl
@[simp] theorem State.setMac_otu : (s.setMac p m).otu = s.otu := rfl
@[simp] theorem State.setMac_emi : (s.setMac p m).emi = s.emi := rfl
@[simp] theorem State.setMac_wings : (s.setMac p m).wings = s.wings := rfl
@[simp] theorem State.setMac_dmxs : (s.setMac p m).dmxs = s.dmxs := rfl
@[simp] theorem State.setMac_selfCal : (s.setMac p m).selfCal = s.selfCal := rfl
@[simp] theorem State.setMac_pix : (s.setMac p m).pix = s.pix := rfl
@[simp] theorem State.setMac_vins : (s.setMac p m).vins = s.vins := rfl
@[simp] theorem State.setMac_flows : (s.setMac p m).flows = s.flows := rfl
@[simp] theorem State.setMac_trk : (s.setMac p m).trk = s.trk := rfl
@[simp] theorem State.setMac_ltc : (s.setMac p m).ltc = s.ltc := rfl
@[simp] theorem State.setMac_aesHeard : (s.setMac p m).aesHeard = s.aesHeard := rfl
@[simp] theorem State.setMac_host : (s.setMac p m).host = s.host := rfl
@[simp] theorem State.setMac_store : (s.setMac p m).store = s.store := rfl
@[simp] theorem State.setMac_arb : (s.setMac p m).arb = s.arb := rfl
@[simp] theorem State.setMac_sealedRegions : (s.setMac p m).sealedRegions = s.sealedRegions := rfl
@[simp] theorem State.setMac_roo : (s.setMac p m).roo = s.roo := rfl
@[simp] theorem State.setMac_macs : (s.setMac p m).macs = tblSet s.macs macIdle p m := rfl
@[simp] theorem State.setMac_mscs : (s.setMac p m).mscs = s.mscs := rfl
@[simp] theorem State.setMac_hawks : (s.setMac p m).hawks = s.hawks := rfl
@[simp] theorem State.setMac_l2 : (s.setMac p m).l2 = s.l2 := rfl
@[simp] theorem State.setMac_tsk : (s.setMac p m).tsk = s.tsk := rfl
@[simp] theorem State.setMac_queues : (s.setMac p m).queues = s.queues := rfl
@[simp] theorem State.setMac_queuePops : (s.setMac p m).queuePops = s.queuePops := rfl
@[simp] theorem State.setMac_thm : (s.setMac p m).thm = s.thm := rfl
@[simp] theorem State.setMac_pwr : (s.setMac p m).pwr = s.pwr := rfl
@[simp] theorem State.setMac_chy : (s.setMac p m).chy = s.chy := rfl
@[simp] theorem State.setMac_jtag : (s.setMac p m).jtag = s.jtag := rfl
@[simp] theorem State.setMac_off : (s.setMac p m).off = s.off := rfl
@[simp] theorem State.setMac_out : (s.setMac p m).out = s.out := rfl
@[simp] theorem State.setMac_fresh : (s.setMac p m).fresh = s.fresh := rfl
@[simp] theorem State.setMac_pending : (s.setMac p m).pending = s.pending := rfl
end

section
variable (s : State) (p : Nat) (m : MscSt)
@[simp] theorem State.setMsc_regs : (s.setMsc p m).regs = s.regs := rfl
@[simp] theorem State.setMsc_latches : (s.setMsc p m).latches = s.latches := rfl
@[simp] theorem State.setMsc_time : (s.setMsc p m).time = s.time := rfl
@[simp] theorem State.setMsc_ant : (s.setMsc p m).ant = s.ant := rfl
@[simp] theorem State.setMsc_ctxs : (s.setMsc p m).ctxs = s.ctxs := rfl
@[simp] theorem State.setMsc_refs : (s.setMsc p m).refs = s.refs := rfl
@[simp] theorem State.setMsc_cal : (s.setMsc p m).cal = s.cal := rfl
@[simp] theorem State.setMsc_pulses : (s.setMsc p m).pulses = s.pulses := rfl
@[simp] theorem State.setMsc_gpis : (s.setMsc p m).gpis = s.gpis := rfl
@[simp] theorem State.setMsc_otu : (s.setMsc p m).otu = s.otu := rfl
@[simp] theorem State.setMsc_emi : (s.setMsc p m).emi = s.emi := rfl
@[simp] theorem State.setMsc_wings : (s.setMsc p m).wings = s.wings := rfl
@[simp] theorem State.setMsc_dmxs : (s.setMsc p m).dmxs = s.dmxs := rfl
@[simp] theorem State.setMsc_selfCal : (s.setMsc p m).selfCal = s.selfCal := rfl
@[simp] theorem State.setMsc_pix : (s.setMsc p m).pix = s.pix := rfl
@[simp] theorem State.setMsc_vins : (s.setMsc p m).vins = s.vins := rfl
@[simp] theorem State.setMsc_flows : (s.setMsc p m).flows = s.flows := rfl
@[simp] theorem State.setMsc_trk : (s.setMsc p m).trk = s.trk := rfl
@[simp] theorem State.setMsc_ltc : (s.setMsc p m).ltc = s.ltc := rfl
@[simp] theorem State.setMsc_aesHeard : (s.setMsc p m).aesHeard = s.aesHeard := rfl
@[simp] theorem State.setMsc_host : (s.setMsc p m).host = s.host := rfl
@[simp] theorem State.setMsc_store : (s.setMsc p m).store = s.store := rfl
@[simp] theorem State.setMsc_arb : (s.setMsc p m).arb = s.arb := rfl
@[simp] theorem State.setMsc_sealedRegions : (s.setMsc p m).sealedRegions = s.sealedRegions := rfl
@[simp] theorem State.setMsc_roo : (s.setMsc p m).roo = s.roo := rfl
@[simp] theorem State.setMsc_macs : (s.setMsc p m).macs = s.macs := rfl
@[simp] theorem State.setMsc_mscs : (s.setMsc p m).mscs = tblSet s.mscs mscIdle p m := rfl
@[simp] theorem State.setMsc_hawks : (s.setMsc p m).hawks = s.hawks := rfl
@[simp] theorem State.setMsc_l2 : (s.setMsc p m).l2 = s.l2 := rfl
@[simp] theorem State.setMsc_tsk : (s.setMsc p m).tsk = s.tsk := rfl
@[simp] theorem State.setMsc_queues : (s.setMsc p m).queues = s.queues := rfl
@[simp] theorem State.setMsc_queuePops : (s.setMsc p m).queuePops = s.queuePops := rfl
@[simp] theorem State.setMsc_thm : (s.setMsc p m).thm = s.thm := rfl
@[simp] theorem State.setMsc_pwr : (s.setMsc p m).pwr = s.pwr := rfl
@[simp] theorem State.setMsc_chy : (s.setMsc p m).chy = s.chy := rfl
@[simp] theorem State.setMsc_jtag : (s.setMsc p m).jtag = s.jtag := rfl
@[simp] theorem State.setMsc_off : (s.setMsc p m).off = s.off := rfl
@[simp] theorem State.setMsc_out : (s.setMsc p m).out = s.out := rfl
@[simp] theorem State.setMsc_fresh : (s.setMsc p m).fresh = s.fresh := rfl
@[simp] theorem State.setMsc_pending : (s.setMsc p m).pending = s.pending := rfl
end

section
variable (s : State) (f : Nat) (x : FlowSt)
@[simp] theorem State.setFlow_regs : (s.setFlow f x).regs = s.regs := rfl
@[simp] theorem State.setFlow_latches : (s.setFlow f x).latches = s.latches := rfl
@[simp] theorem State.setFlow_time : (s.setFlow f x).time = s.time := rfl
@[simp] theorem State.setFlow_ant : (s.setFlow f x).ant = s.ant := rfl
@[simp] theorem State.setFlow_ctxs : (s.setFlow f x).ctxs = s.ctxs := rfl
@[simp] theorem State.setFlow_refs : (s.setFlow f x).refs = s.refs := rfl
@[simp] theorem State.setFlow_cal : (s.setFlow f x).cal = s.cal := rfl
@[simp] theorem State.setFlow_pulses : (s.setFlow f x).pulses = s.pulses := rfl
@[simp] theorem State.setFlow_gpis : (s.setFlow f x).gpis = s.gpis := rfl
@[simp] theorem State.setFlow_otu : (s.setFlow f x).otu = s.otu := rfl
@[simp] theorem State.setFlow_emi : (s.setFlow f x).emi = s.emi := rfl
@[simp] theorem State.setFlow_wings : (s.setFlow f x).wings = s.wings := rfl
@[simp] theorem State.setFlow_dmxs : (s.setFlow f x).dmxs = s.dmxs := rfl
@[simp] theorem State.setFlow_selfCal : (s.setFlow f x).selfCal = s.selfCal := rfl
@[simp] theorem State.setFlow_pix : (s.setFlow f x).pix = s.pix := rfl
@[simp] theorem State.setFlow_vins : (s.setFlow f x).vins = s.vins := rfl
@[simp] theorem State.setFlow_flows : (s.setFlow f x).flows = tblSet s.flows flowIdle f x := rfl
@[simp] theorem State.setFlow_trk : (s.setFlow f x).trk = s.trk := rfl
@[simp] theorem State.setFlow_ltc : (s.setFlow f x).ltc = s.ltc := rfl
@[simp] theorem State.setFlow_aesHeard : (s.setFlow f x).aesHeard = s.aesHeard := rfl
@[simp] theorem State.setFlow_host : (s.setFlow f x).host = s.host := rfl
@[simp] theorem State.setFlow_store : (s.setFlow f x).store = s.store := rfl
@[simp] theorem State.setFlow_arb : (s.setFlow f x).arb = s.arb := rfl
@[simp] theorem State.setFlow_sealedRegions : (s.setFlow f x).sealedRegions = s.sealedRegions := rfl
@[simp] theorem State.setFlow_roo : (s.setFlow f x).roo = s.roo := rfl
@[simp] theorem State.setFlow_macs : (s.setFlow f x).macs = s.macs := rfl
@[simp] theorem State.setFlow_mscs : (s.setFlow f x).mscs = s.mscs := rfl
@[simp] theorem State.setFlow_hawks : (s.setFlow f x).hawks = s.hawks := rfl
@[simp] theorem State.setFlow_l2 : (s.setFlow f x).l2 = s.l2 := rfl
@[simp] theorem State.setFlow_tsk : (s.setFlow f x).tsk = s.tsk := rfl
@[simp] theorem State.setFlow_queues : (s.setFlow f x).queues = s.queues := rfl
@[simp] theorem State.setFlow_queuePops : (s.setFlow f x).queuePops = s.queuePops := rfl
@[simp] theorem State.setFlow_thm : (s.setFlow f x).thm = s.thm := rfl
@[simp] theorem State.setFlow_pwr : (s.setFlow f x).pwr = s.pwr := rfl
@[simp] theorem State.setFlow_chy : (s.setFlow f x).chy = s.chy := rfl
@[simp] theorem State.setFlow_jtag : (s.setFlow f x).jtag = s.jtag := rfl
@[simp] theorem State.setFlow_off : (s.setFlow f x).off = s.off := rfl
@[simp] theorem State.setFlow_out : (s.setFlow f x).out = s.out := rfl
@[simp] theorem State.setFlow_fresh : (s.setFlow f x).fresh = s.fresh := rfl
@[simp] theorem State.setFlow_pending : (s.setFlow f x).pending = s.pending := rfl
end

section
variable (s : State) (e : EmiSt)
@[simp] theorem State.setEmi_regs : (s.setEmi e).regs = s.regs := rfl
@[simp] theorem State.setEmi_latches : (s.setEmi e).latches = s.latches := rfl
@[simp] theorem State.setEmi_time : (s.setEmi e).time = s.time := rfl
@[simp] theorem State.setEmi_ant : (s.setEmi e).ant = s.ant := rfl
@[simp] theorem State.setEmi_ctxs : (s.setEmi e).ctxs = s.ctxs := rfl
@[simp] theorem State.setEmi_refs : (s.setEmi e).refs = s.refs := rfl
@[simp] theorem State.setEmi_cal : (s.setEmi e).cal = s.cal := rfl
@[simp] theorem State.setEmi_pulses : (s.setEmi e).pulses = s.pulses := rfl
@[simp] theorem State.setEmi_gpis : (s.setEmi e).gpis = s.gpis := rfl
@[simp] theorem State.setEmi_otu : (s.setEmi e).otu = s.otu := rfl
@[simp] theorem State.setEmi_emi : (s.setEmi e).emi = e := rfl
@[simp] theorem State.setEmi_wings : (s.setEmi e).wings = s.wings := rfl
@[simp] theorem State.setEmi_dmxs : (s.setEmi e).dmxs = s.dmxs := rfl
@[simp] theorem State.setEmi_selfCal : (s.setEmi e).selfCal = s.selfCal := rfl
@[simp] theorem State.setEmi_pix : (s.setEmi e).pix = s.pix := rfl
@[simp] theorem State.setEmi_vins : (s.setEmi e).vins = s.vins := rfl
@[simp] theorem State.setEmi_flows : (s.setEmi e).flows = s.flows := rfl
@[simp] theorem State.setEmi_trk : (s.setEmi e).trk = s.trk := rfl
@[simp] theorem State.setEmi_ltc : (s.setEmi e).ltc = s.ltc := rfl
@[simp] theorem State.setEmi_aesHeard : (s.setEmi e).aesHeard = s.aesHeard := rfl
@[simp] theorem State.setEmi_host : (s.setEmi e).host = s.host := rfl
@[simp] theorem State.setEmi_store : (s.setEmi e).store = s.store := rfl
@[simp] theorem State.setEmi_arb : (s.setEmi e).arb = s.arb := rfl
@[simp] theorem State.setEmi_sealedRegions : (s.setEmi e).sealedRegions = s.sealedRegions := rfl
@[simp] theorem State.setEmi_roo : (s.setEmi e).roo = s.roo := rfl
@[simp] theorem State.setEmi_macs : (s.setEmi e).macs = s.macs := rfl
@[simp] theorem State.setEmi_mscs : (s.setEmi e).mscs = s.mscs := rfl
@[simp] theorem State.setEmi_hawks : (s.setEmi e).hawks = s.hawks := rfl
@[simp] theorem State.setEmi_l2 : (s.setEmi e).l2 = s.l2 := rfl
@[simp] theorem State.setEmi_tsk : (s.setEmi e).tsk = s.tsk := rfl
@[simp] theorem State.setEmi_queues : (s.setEmi e).queues = s.queues := rfl
@[simp] theorem State.setEmi_queuePops : (s.setEmi e).queuePops = s.queuePops := rfl
@[simp] theorem State.setEmi_thm : (s.setEmi e).thm = s.thm := rfl
@[simp] theorem State.setEmi_pwr : (s.setEmi e).pwr = s.pwr := rfl
@[simp] theorem State.setEmi_chy : (s.setEmi e).chy = s.chy := rfl
@[simp] theorem State.setEmi_jtag : (s.setEmi e).jtag = s.jtag := rfl
@[simp] theorem State.setEmi_off : (s.setEmi e).off = s.off := rfl
@[simp] theorem State.setEmi_out : (s.setEmi e).out = s.out := rfl
@[simp] theorem State.setEmi_fresh : (s.setEmi e).fresh = s.fresh := rfl
@[simp] theorem State.setEmi_pending : (s.setEmi e).pending = s.pending := rfl
end

section
variable (s : State) (off : Nat) (w : Word)
@[simp] theorem State.setWord_regs : (s.setWord off w).regs = tblSet s.regs (regReset off) off w := rfl
@[simp] theorem State.setWord_latches : (s.setWord off w).latches = s.latches := rfl
@[simp] theorem State.setWord_time : (s.setWord off w).time = s.time := rfl
@[simp] theorem State.setWord_ant : (s.setWord off w).ant = s.ant := rfl
@[simp] theorem State.setWord_ctxs : (s.setWord off w).ctxs = s.ctxs := rfl
@[simp] theorem State.setWord_refs : (s.setWord off w).refs = s.refs := rfl
@[simp] theorem State.setWord_cal : (s.setWord off w).cal = s.cal := rfl
@[simp] theorem State.setWord_pulses : (s.setWord off w).pulses = s.pulses := rfl
@[simp] theorem State.setWord_gpis : (s.setWord off w).gpis = s.gpis := rfl
@[simp] theorem State.setWord_otu : (s.setWord off w).otu = s.otu := rfl
@[simp] theorem State.setWord_emi : (s.setWord off w).emi = s.emi := rfl
@[simp] theorem State.setWord_wings : (s.setWord off w).wings = s.wings := rfl
@[simp] theorem State.setWord_dmxs : (s.setWord off w).dmxs = s.dmxs := rfl
@[simp] theorem State.setWord_selfCal : (s.setWord off w).selfCal = s.selfCal := rfl
@[simp] theorem State.setWord_pix : (s.setWord off w).pix = s.pix := rfl
@[simp] theorem State.setWord_vins : (s.setWord off w).vins = s.vins := rfl
@[simp] theorem State.setWord_flows : (s.setWord off w).flows = s.flows := rfl
@[simp] theorem State.setWord_trk : (s.setWord off w).trk = s.trk := rfl
@[simp] theorem State.setWord_ltc : (s.setWord off w).ltc = s.ltc := rfl
@[simp] theorem State.setWord_aesHeard : (s.setWord off w).aesHeard = s.aesHeard := rfl
@[simp] theorem State.setWord_host : (s.setWord off w).host = s.host := rfl
@[simp] theorem State.setWord_store : (s.setWord off w).store = s.store := rfl
@[simp] theorem State.setWord_arb : (s.setWord off w).arb = s.arb := rfl
@[simp] theorem State.setWord_sealedRegions : (s.setWord off w).sealedRegions = s.sealedRegions := rfl
@[simp] theorem State.setWord_roo : (s.setWord off w).roo = s.roo := rfl
@[simp] theorem State.setWord_macs : (s.setWord off w).macs = s.macs := rfl
@[simp] theorem State.setWord_mscs : (s.setWord off w).mscs = s.mscs := rfl
@[simp] theorem State.setWord_hawks : (s.setWord off w).hawks = s.hawks := rfl
@[simp] theorem State.setWord_l2 : (s.setWord off w).l2 = s.l2 := rfl
@[simp] theorem State.setWord_tsk : (s.setWord off w).tsk = s.tsk := rfl
@[simp] theorem State.setWord_queues : (s.setWord off w).queues = s.queues := rfl
@[simp] theorem State.setWord_queuePops : (s.setWord off w).queuePops = s.queuePops := rfl
@[simp] theorem State.setWord_thm : (s.setWord off w).thm = s.thm := rfl
@[simp] theorem State.setWord_pwr : (s.setWord off w).pwr = s.pwr := rfl
@[simp] theorem State.setWord_chy : (s.setWord off w).chy = s.chy := rfl
@[simp] theorem State.setWord_jtag : (s.setWord off w).jtag = s.jtag := rfl
@[simp] theorem State.setWord_off : (s.setWord off w).off = s.off := rfl
@[simp] theorem State.setWord_out : (s.setWord off w).out = s.out := rfl
@[simp] theorem State.setWord_fresh : (s.setWord off w).fresh = s.fresh := rfl
@[simp] theorem State.setWord_pending : (s.setWord off w).pending = s.pending := rfl
end

section
variable (s : State) (x : TimeSt)
@[simp] theorem State.setTime_regs : (s.setTime x).regs = s.regs := rfl
@[simp] theorem State.setTime_latches : (s.setTime x).latches = s.latches := rfl
@[simp] theorem State.setTime_time : (s.setTime x).time = x := rfl
@[simp] theorem State.setTime_ant : (s.setTime x).ant = s.ant := rfl
@[simp] theorem State.setTime_ctxs : (s.setTime x).ctxs = s.ctxs := rfl
@[simp] theorem State.setTime_refs : (s.setTime x).refs = s.refs := rfl
@[simp] theorem State.setTime_cal : (s.setTime x).cal = s.cal := rfl
@[simp] theorem State.setTime_pulses : (s.setTime x).pulses = s.pulses := rfl
@[simp] theorem State.setTime_gpis : (s.setTime x).gpis = s.gpis := rfl
@[simp] theorem State.setTime_otu : (s.setTime x).otu = s.otu := rfl
@[simp] theorem State.setTime_emi : (s.setTime x).emi = s.emi := rfl
@[simp] theorem State.setTime_wings : (s.setTime x).wings = s.wings := rfl
@[simp] theorem State.setTime_dmxs : (s.setTime x).dmxs = s.dmxs := rfl
@[simp] theorem State.setTime_selfCal : (s.setTime x).selfCal = s.selfCal := rfl
@[simp] theorem State.setTime_pix : (s.setTime x).pix = s.pix := rfl
@[simp] theorem State.setTime_vins : (s.setTime x).vins = s.vins := rfl
@[simp] theorem State.setTime_flows : (s.setTime x).flows = s.flows := rfl
@[simp] theorem State.setTime_trk : (s.setTime x).trk = s.trk := rfl
@[simp] theorem State.setTime_ltc : (s.setTime x).ltc = s.ltc := rfl
@[simp] theorem State.setTime_aesHeard : (s.setTime x).aesHeard = s.aesHeard := rfl
@[simp] theorem State.setTime_host : (s.setTime x).host = s.host := rfl
@[simp] theorem State.setTime_store : (s.setTime x).store = s.store := rfl
@[simp] theorem State.setTime_arb : (s.setTime x).arb = s.arb := rfl
@[simp] theorem State.setTime_sealedRegions : (s.setTime x).sealedRegions = s.sealedRegions := rfl
@[simp] theorem State.setTime_roo : (s.setTime x).roo = s.roo := rfl
@[simp] theorem State.setTime_macs : (s.setTime x).macs = s.macs := rfl
@[simp] theorem State.setTime_mscs : (s.setTime x).mscs = s.mscs := rfl
@[simp] theorem State.setTime_hawks : (s.setTime x).hawks = s.hawks := rfl
@[simp] theorem State.setTime_l2 : (s.setTime x).l2 = s.l2 := rfl
@[simp] theorem State.setTime_tsk : (s.setTime x).tsk = s.tsk := rfl
@[simp] theorem State.setTime_queues : (s.setTime x).queues = s.queues := rfl
@[simp] theorem State.setTime_queuePops : (s.setTime x).queuePops = s.queuePops := rfl
@[simp] theorem State.setTime_thm : (s.setTime x).thm = s.thm := rfl
@[simp] theorem State.setTime_pwr : (s.setTime x).pwr = s.pwr := rfl
@[simp] theorem State.setTime_chy : (s.setTime x).chy = s.chy := rfl
@[simp] theorem State.setTime_jtag : (s.setTime x).jtag = s.jtag := rfl
@[simp] theorem State.setTime_off : (s.setTime x).off = s.off := rfl
@[simp] theorem State.setTime_out : (s.setTime x).out = s.out := rfl
@[simp] theorem State.setTime_fresh : (s.setTime x).fresh = s.fresh := rfl
@[simp] theorem State.setTime_pending : (s.setTime x).pending = s.pending := rfl
end

section
variable (s : State) (n : Nat) (r : RingSt)
@[simp] theorem State.setRing_regs : (s.setRing n r).regs = s.regs := rfl
@[simp] theorem State.setRing_latches : (s.setRing n r).latches = s.latches := rfl
@[simp] theorem State.setRing_time : (s.setRing n r).time = s.time := rfl
@[simp] theorem State.setRing_ant : (s.setRing n r).ant = s.ant := rfl
@[simp] theorem State.setRing_ctxs : (s.setRing n r).ctxs = s.ctxs := rfl
@[simp] theorem State.setRing_refs : (s.setRing n r).refs = s.refs := rfl
@[simp] theorem State.setRing_cal : (s.setRing n r).cal = s.cal := rfl
@[simp] theorem State.setRing_pulses : (s.setRing n r).pulses = s.pulses := rfl
@[simp] theorem State.setRing_gpis : (s.setRing n r).gpis = s.gpis := rfl
@[simp] theorem State.setRing_otu : (s.setRing n r).otu = s.otu := rfl
@[simp] theorem State.setRing_emi : (s.setRing n r).emi = s.emi := rfl
@[simp] theorem State.setRing_wings : (s.setRing n r).wings = s.wings := rfl
@[simp] theorem State.setRing_dmxs : (s.setRing n r).dmxs = s.dmxs := rfl
@[simp] theorem State.setRing_selfCal : (s.setRing n r).selfCal = s.selfCal := rfl
@[simp] theorem State.setRing_pix : (s.setRing n r).pix = s.pix := rfl
@[simp] theorem State.setRing_vins : (s.setRing n r).vins = s.vins := rfl
@[simp] theorem State.setRing_flows : (s.setRing n r).flows = s.flows := rfl
@[simp] theorem State.setRing_trk : (s.setRing n r).trk = s.trk := rfl
@[simp] theorem State.setRing_ltc : (s.setRing n r).ltc = s.ltc := rfl
@[simp] theorem State.setRing_aesHeard : (s.setRing n r).aesHeard = s.aesHeard := rfl
@[simp] theorem State.setRing_host : (s.setRing n r).host = { s.host with rings := tblSet s.host.rings ringIdle n r } := rfl
@[simp] theorem State.setRing_store : (s.setRing n r).store = s.store := rfl
@[simp] theorem State.setRing_arb : (s.setRing n r).arb = s.arb := rfl
@[simp] theorem State.setRing_sealedRegions : (s.setRing n r).sealedRegions = s.sealedRegions := rfl
@[simp] theorem State.setRing_roo : (s.setRing n r).roo = s.roo := rfl
@[simp] theorem State.setRing_macs : (s.setRing n r).macs = s.macs := rfl
@[simp] theorem State.setRing_mscs : (s.setRing n r).mscs = s.mscs := rfl
@[simp] theorem State.setRing_hawks : (s.setRing n r).hawks = s.hawks := rfl
@[simp] theorem State.setRing_l2 : (s.setRing n r).l2 = s.l2 := rfl
@[simp] theorem State.setRing_tsk : (s.setRing n r).tsk = s.tsk := rfl
@[simp] theorem State.setRing_queues : (s.setRing n r).queues = s.queues := rfl
@[simp] theorem State.setRing_queuePops : (s.setRing n r).queuePops = s.queuePops := rfl
@[simp] theorem State.setRing_thm : (s.setRing n r).thm = s.thm := rfl
@[simp] theorem State.setRing_pwr : (s.setRing n r).pwr = s.pwr := rfl
@[simp] theorem State.setRing_chy : (s.setRing n r).chy = s.chy := rfl
@[simp] theorem State.setRing_jtag : (s.setRing n r).jtag = s.jtag := rfl
@[simp] theorem State.setRing_off : (s.setRing n r).off = s.off := rfl
@[simp] theorem State.setRing_out : (s.setRing n r).out = s.out := rfl
@[simp] theorem State.setRing_fresh : (s.setRing n r).fresh = s.fresh := rfl
@[simp] theorem State.setRing_pending : (s.setRing n r).pending = s.pending := rfl
end

section
variable (s : State) (v : Nat) (x : VectorSt)
@[simp] theorem State.setVector_regs : (s.setVector v x).regs = s.regs := rfl
@[simp] theorem State.setVector_latches : (s.setVector v x).latches = s.latches := rfl
@[simp] theorem State.setVector_time : (s.setVector v x).time = s.time := rfl
@[simp] theorem State.setVector_ant : (s.setVector v x).ant = s.ant := rfl
@[simp] theorem State.setVector_ctxs : (s.setVector v x).ctxs = s.ctxs := rfl
@[simp] theorem State.setVector_refs : (s.setVector v x).refs = s.refs := rfl
@[simp] theorem State.setVector_cal : (s.setVector v x).cal = s.cal := rfl
@[simp] theorem State.setVector_pulses : (s.setVector v x).pulses = s.pulses := rfl
@[simp] theorem State.setVector_gpis : (s.setVector v x).gpis = s.gpis := rfl
@[simp] theorem State.setVector_otu : (s.setVector v x).otu = s.otu := rfl
@[simp] theorem State.setVector_emi : (s.setVector v x).emi = s.emi := rfl
@[simp] theorem State.setVector_wings : (s.setVector v x).wings = s.wings := rfl
@[simp] theorem State.setVector_dmxs : (s.setVector v x).dmxs = s.dmxs := rfl
@[simp] theorem State.setVector_selfCal : (s.setVector v x).selfCal = s.selfCal := rfl
@[simp] theorem State.setVector_pix : (s.setVector v x).pix = s.pix := rfl
@[simp] theorem State.setVector_vins : (s.setVector v x).vins = s.vins := rfl
@[simp] theorem State.setVector_flows : (s.setVector v x).flows = s.flows := rfl
@[simp] theorem State.setVector_trk : (s.setVector v x).trk = s.trk := rfl
@[simp] theorem State.setVector_ltc : (s.setVector v x).ltc = s.ltc := rfl
@[simp] theorem State.setVector_aesHeard : (s.setVector v x).aesHeard = s.aesHeard := rfl
@[simp] theorem State.setVector_host : (s.setVector v x).host = { s.host with vectors := tblSet s.host.vectors vectorIdle v x } := rfl
@[simp] theorem State.setVector_store : (s.setVector v x).store = s.store := rfl
@[simp] theorem State.setVector_arb : (s.setVector v x).arb = s.arb := rfl
@[simp] theorem State.setVector_sealedRegions : (s.setVector v x).sealedRegions = s.sealedRegions := rfl
@[simp] theorem State.setVector_roo : (s.setVector v x).roo = s.roo := rfl
@[simp] theorem State.setVector_macs : (s.setVector v x).macs = s.macs := rfl
@[simp] theorem State.setVector_mscs : (s.setVector v x).mscs = s.mscs := rfl
@[simp] theorem State.setVector_hawks : (s.setVector v x).hawks = s.hawks := rfl
@[simp] theorem State.setVector_l2 : (s.setVector v x).l2 = s.l2 := rfl
@[simp] theorem State.setVector_tsk : (s.setVector v x).tsk = s.tsk := rfl
@[simp] theorem State.setVector_queues : (s.setVector v x).queues = s.queues := rfl
@[simp] theorem State.setVector_queuePops : (s.setVector v x).queuePops = s.queuePops := rfl
@[simp] theorem State.setVector_thm : (s.setVector v x).thm = s.thm := rfl
@[simp] theorem State.setVector_pwr : (s.setVector v x).pwr = s.pwr := rfl
@[simp] theorem State.setVector_chy : (s.setVector v x).chy = s.chy := rfl
@[simp] theorem State.setVector_jtag : (s.setVector v x).jtag = s.jtag := rfl
@[simp] theorem State.setVector_off : (s.setVector v x).off = s.off := rfl
@[simp] theorem State.setVector_out : (s.setVector v x).out = s.out := rfl
@[simp] theorem State.setVector_fresh : (s.setVector v x).fresh = s.fresh := rfl
@[simp] theorem State.setVector_pending : (s.setVector v x).pending = s.pending := rfl
end

section
variable (s : State) (o : OtuSt)
@[simp] theorem State.setOtu_regs : (s.setOtu o).regs = s.regs := rfl
@[simp] theorem State.setOtu_latches : (s.setOtu o).latches = s.latches := rfl
@[simp] theorem State.setOtu_time : (s.setOtu o).time = s.time := rfl
@[simp] theorem State.setOtu_ant : (s.setOtu o).ant = s.ant := rfl
@[simp] theorem State.setOtu_ctxs : (s.setOtu o).ctxs = s.ctxs := rfl
@[simp] theorem State.setOtu_refs : (s.setOtu o).refs = s.refs := rfl
@[simp] theorem State.setOtu_cal : (s.setOtu o).cal = s.cal := rfl
@[simp] theorem State.setOtu_pulses : (s.setOtu o).pulses = s.pulses := rfl
@[simp] theorem State.setOtu_gpis : (s.setOtu o).gpis = s.gpis := rfl
@[simp] theorem State.setOtu_otu : (s.setOtu o).otu = o := rfl
@[simp] theorem State.setOtu_emi : (s.setOtu o).emi = s.emi := rfl
@[simp] theorem State.setOtu_wings : (s.setOtu o).wings = s.wings := rfl
@[simp] theorem State.setOtu_dmxs : (s.setOtu o).dmxs = s.dmxs := rfl
@[simp] theorem State.setOtu_selfCal : (s.setOtu o).selfCal = s.selfCal := rfl
@[simp] theorem State.setOtu_pix : (s.setOtu o).pix = s.pix := rfl
@[simp] theorem State.setOtu_vins : (s.setOtu o).vins = s.vins := rfl
@[simp] theorem State.setOtu_flows : (s.setOtu o).flows = s.flows := rfl
@[simp] theorem State.setOtu_trk : (s.setOtu o).trk = s.trk := rfl
@[simp] theorem State.setOtu_ltc : (s.setOtu o).ltc = s.ltc := rfl
@[simp] theorem State.setOtu_aesHeard : (s.setOtu o).aesHeard = s.aesHeard := rfl
@[simp] theorem State.setOtu_host : (s.setOtu o).host = s.host := rfl
@[simp] theorem State.setOtu_store : (s.setOtu o).store = s.store := rfl
@[simp] theorem State.setOtu_arb : (s.setOtu o).arb = s.arb := rfl
@[simp] theorem State.setOtu_sealedRegions : (s.setOtu o).sealedRegions = s.sealedRegions := rfl
@[simp] theorem State.setOtu_roo : (s.setOtu o).roo = s.roo := rfl
@[simp] theorem State.setOtu_macs : (s.setOtu o).macs = s.macs := rfl
@[simp] theorem State.setOtu_mscs : (s.setOtu o).mscs = s.mscs := rfl
@[simp] theorem State.setOtu_hawks : (s.setOtu o).hawks = s.hawks := rfl
@[simp] theorem State.setOtu_l2 : (s.setOtu o).l2 = s.l2 := rfl
@[simp] theorem State.setOtu_tsk : (s.setOtu o).tsk = s.tsk := rfl
@[simp] theorem State.setOtu_queues : (s.setOtu o).queues = s.queues := rfl
@[simp] theorem State.setOtu_queuePops : (s.setOtu o).queuePops = s.queuePops := rfl
@[simp] theorem State.setOtu_thm : (s.setOtu o).thm = s.thm := rfl
@[simp] theorem State.setOtu_pwr : (s.setOtu o).pwr = s.pwr := rfl
@[simp] theorem State.setOtu_chy : (s.setOtu o).chy = s.chy := rfl
@[simp] theorem State.setOtu_jtag : (s.setOtu o).jtag = s.jtag := rfl
@[simp] theorem State.setOtu_off : (s.setOtu o).off = s.off := rfl
@[simp] theorem State.setOtu_out : (s.setOtu o).out = s.out := rfl
@[simp] theorem State.setOtu_fresh : (s.setOtu o).fresh = s.fresh := rfl
@[simp] theorem State.setOtu_pending : (s.setOtu o).pending = s.pending := rfl
end

section
variable (s : State) (ept pixel done stalls : Nat)
@[simp] theorem State.setCursor_regs : (s.setCursor ept pixel done stalls).regs = s.regs := rfl
@[simp] theorem State.setCursor_latches : (s.setCursor ept pixel done stalls).latches = s.latches := rfl
@[simp] theorem State.setCursor_time : (s.setCursor ept pixel done stalls).time = s.time := rfl
@[simp] theorem State.setCursor_ant : (s.setCursor ept pixel done stalls).ant = s.ant := rfl
@[simp] theorem State.setCursor_ctxs : (s.setCursor ept pixel done stalls).ctxs = s.ctxs := rfl
@[simp] theorem State.setCursor_refs : (s.setCursor ept pixel done stalls).refs = s.refs := rfl
@[simp] theorem State.setCursor_cal : (s.setCursor ept pixel done stalls).cal = s.cal := rfl
@[simp] theorem State.setCursor_pulses : (s.setCursor ept pixel done stalls).pulses = s.pulses := rfl
@[simp] theorem State.setCursor_gpis : (s.setCursor ept pixel done stalls).gpis = s.gpis := rfl
@[simp] theorem State.setCursor_otu : (s.setCursor ept pixel done stalls).otu = s.otu := rfl
@[simp] theorem State.setCursor_emi : (s.setCursor ept pixel done stalls).emi = s.emi := rfl
@[simp] theorem State.setCursor_wings : (s.setCursor ept pixel done stalls).wings = s.wings := rfl
@[simp] theorem State.setCursor_dmxs : (s.setCursor ept pixel done stalls).dmxs = s.dmxs := rfl
@[simp] theorem State.setCursor_selfCal : (s.setCursor ept pixel done stalls).selfCal = s.selfCal := rfl
@[simp] theorem State.setCursor_vins : (s.setCursor ept pixel done stalls).vins = s.vins := rfl
@[simp] theorem State.setCursor_flows : (s.setCursor ept pixel done stalls).flows = s.flows := rfl
@[simp] theorem State.setCursor_trk : (s.setCursor ept pixel done stalls).trk = s.trk := rfl
@[simp] theorem State.setCursor_ltc : (s.setCursor ept pixel done stalls).ltc = s.ltc := rfl
@[simp] theorem State.setCursor_aesHeard : (s.setCursor ept pixel done stalls).aesHeard = s.aesHeard := rfl
@[simp] theorem State.setCursor_host : (s.setCursor ept pixel done stalls).host = s.host := rfl
@[simp] theorem State.setCursor_store : (s.setCursor ept pixel done stalls).store = s.store := rfl
@[simp] theorem State.setCursor_arb : (s.setCursor ept pixel done stalls).arb = s.arb := rfl
@[simp] theorem State.setCursor_sealedRegions : (s.setCursor ept pixel done stalls).sealedRegions = s.sealedRegions := rfl
@[simp] theorem State.setCursor_roo : (s.setCursor ept pixel done stalls).roo = s.roo := rfl
@[simp] theorem State.setCursor_macs : (s.setCursor ept pixel done stalls).macs = s.macs := rfl
@[simp] theorem State.setCursor_mscs : (s.setCursor ept pixel done stalls).mscs = s.mscs := rfl
@[simp] theorem State.setCursor_hawks : (s.setCursor ept pixel done stalls).hawks = s.hawks := rfl
@[simp] theorem State.setCursor_l2 : (s.setCursor ept pixel done stalls).l2 = s.l2 := rfl
@[simp] theorem State.setCursor_tsk : (s.setCursor ept pixel done stalls).tsk = s.tsk := rfl
@[simp] theorem State.setCursor_queues : (s.setCursor ept pixel done stalls).queues = s.queues := rfl
@[simp] theorem State.setCursor_queuePops : (s.setCursor ept pixel done stalls).queuePops = s.queuePops := rfl
@[simp] theorem State.setCursor_thm : (s.setCursor ept pixel done stalls).thm = s.thm := rfl
@[simp] theorem State.setCursor_pwr : (s.setCursor ept pixel done stalls).pwr = s.pwr := rfl
@[simp] theorem State.setCursor_chy : (s.setCursor ept pixel done stalls).chy = s.chy := rfl
@[simp] theorem State.setCursor_jtag : (s.setCursor ept pixel done stalls).jtag = s.jtag := rfl
@[simp] theorem State.setCursor_off : (s.setCursor ept pixel done stalls).off = s.off := rfl
@[simp] theorem State.setCursor_out : (s.setCursor ept pixel done stalls).out = s.out := rfl
@[simp] theorem State.setCursor_fresh : (s.setCursor ept pixel done stalls).fresh = s.fresh := rfl
@[simp] theorem State.setCursor_pending : (s.setCursor ept pixel done stalls).pending = s.pending := rfl
end

section
variable (s : State) (i : Nat) (v : VinSt)
@[simp] theorem State.setVin_regs : (s.setVin i v).regs = s.regs := rfl
@[simp] theorem State.setVin_latches : (s.setVin i v).latches = s.latches := rfl
@[simp] theorem State.setVin_time : (s.setVin i v).time = s.time := rfl
@[simp] theorem State.setVin_ant : (s.setVin i v).ant = s.ant := rfl
@[simp] theorem State.setVin_ctxs : (s.setVin i v).ctxs = s.ctxs := rfl
@[simp] theorem State.setVin_refs : (s.setVin i v).refs = s.refs := rfl
@[simp] theorem State.setVin_cal : (s.setVin i v).cal = s.cal := rfl
@[simp] theorem State.setVin_pulses : (s.setVin i v).pulses = s.pulses := rfl
@[simp] theorem State.setVin_gpis : (s.setVin i v).gpis = s.gpis := rfl
@[simp] theorem State.setVin_otu : (s.setVin i v).otu = s.otu := rfl
@[simp] theorem State.setVin_emi : (s.setVin i v).emi = s.emi := rfl
@[simp] theorem State.setVin_wings : (s.setVin i v).wings = s.wings := rfl
@[simp] theorem State.setVin_dmxs : (s.setVin i v).dmxs = s.dmxs := rfl
@[simp] theorem State.setVin_selfCal : (s.setVin i v).selfCal = s.selfCal := rfl
@[simp] theorem State.setVin_pix : (s.setVin i v).pix = s.pix := rfl
@[simp] theorem State.setVin_vins : (s.setVin i v).vins = tblSet s.vins vinIdle i v := rfl
@[simp] theorem State.setVin_flows : (s.setVin i v).flows = s.flows := rfl
@[simp] theorem State.setVin_trk : (s.setVin i v).trk = s.trk := rfl
@[simp] theorem State.setVin_ltc : (s.setVin i v).ltc = s.ltc := rfl
@[simp] theorem State.setVin_aesHeard : (s.setVin i v).aesHeard = s.aesHeard := rfl
@[simp] theorem State.setVin_host : (s.setVin i v).host = s.host := rfl
@[simp] theorem State.setVin_store : (s.setVin i v).store = s.store := rfl
@[simp] theorem State.setVin_arb : (s.setVin i v).arb = s.arb := rfl
@[simp] theorem State.setVin_sealedRegions : (s.setVin i v).sealedRegions = s.sealedRegions := rfl
@[simp] theorem State.setVin_roo : (s.setVin i v).roo = s.roo := rfl
@[simp] theorem State.setVin_macs : (s.setVin i v).macs = s.macs := rfl
@[simp] theorem State.setVin_mscs : (s.setVin i v).mscs = s.mscs := rfl
@[simp] theorem State.setVin_hawks : (s.setVin i v).hawks = s.hawks := rfl
@[simp] theorem State.setVin_l2 : (s.setVin i v).l2 = s.l2 := rfl
@[simp] theorem State.setVin_tsk : (s.setVin i v).tsk = s.tsk := rfl
@[simp] theorem State.setVin_queues : (s.setVin i v).queues = s.queues := rfl
@[simp] theorem State.setVin_queuePops : (s.setVin i v).queuePops = s.queuePops := rfl
@[simp] theorem State.setVin_thm : (s.setVin i v).thm = s.thm := rfl
@[simp] theorem State.setVin_pwr : (s.setVin i v).pwr = s.pwr := rfl
@[simp] theorem State.setVin_chy : (s.setVin i v).chy = s.chy := rfl
@[simp] theorem State.setVin_jtag : (s.setVin i v).jtag = s.jtag := rfl
@[simp] theorem State.setVin_off : (s.setVin i v).off = s.off := rfl
@[simp] theorem State.setVin_out : (s.setVin i v).out = s.out := rfl
@[simp] theorem State.setVin_fresh : (s.setVin i v).fresh = s.fresh := rfl
@[simp] theorem State.setVin_pending : (s.setVin i v).pending = s.pending := rfl
end

section
variable (s : State) (n : Nat) (p : FramePhase)
@[simp] theorem State.setFramePhase_regs : (s.setFramePhase n p).regs = s.regs := rfl
@[simp] theorem State.setFramePhase_latches : (s.setFramePhase n p).latches = s.latches := rfl
@[simp] theorem State.setFramePhase_time : (s.setFramePhase n p).time = s.time := rfl
@[simp] theorem State.setFramePhase_ant : (s.setFramePhase n p).ant = s.ant := rfl
@[simp] theorem State.setFramePhase_ctxs : (s.setFramePhase n p).ctxs = s.ctxs := rfl
@[simp] theorem State.setFramePhase_refs : (s.setFramePhase n p).refs = s.refs := rfl
@[simp] theorem State.setFramePhase_cal : (s.setFramePhase n p).cal = s.cal := rfl
@[simp] theorem State.setFramePhase_pulses : (s.setFramePhase n p).pulses = s.pulses := rfl
@[simp] theorem State.setFramePhase_gpis : (s.setFramePhase n p).gpis = s.gpis := rfl
@[simp] theorem State.setFramePhase_emi : (s.setFramePhase n p).emi = s.emi := rfl
@[simp] theorem State.setFramePhase_wings : (s.setFramePhase n p).wings = s.wings := rfl
@[simp] theorem State.setFramePhase_dmxs : (s.setFramePhase n p).dmxs = s.dmxs := rfl
@[simp] theorem State.setFramePhase_selfCal : (s.setFramePhase n p).selfCal = s.selfCal := rfl
@[simp] theorem State.setFramePhase_pix : (s.setFramePhase n p).pix = s.pix := rfl
@[simp] theorem State.setFramePhase_vins : (s.setFramePhase n p).vins = s.vins := rfl
@[simp] theorem State.setFramePhase_flows : (s.setFramePhase n p).flows = s.flows := rfl
@[simp] theorem State.setFramePhase_trk : (s.setFramePhase n p).trk = s.trk := rfl
@[simp] theorem State.setFramePhase_ltc : (s.setFramePhase n p).ltc = s.ltc := rfl
@[simp] theorem State.setFramePhase_aesHeard : (s.setFramePhase n p).aesHeard = s.aesHeard := rfl
@[simp] theorem State.setFramePhase_host : (s.setFramePhase n p).host = s.host := rfl
@[simp] theorem State.setFramePhase_store : (s.setFramePhase n p).store = s.store := rfl
@[simp] theorem State.setFramePhase_arb : (s.setFramePhase n p).arb = s.arb := rfl
@[simp] theorem State.setFramePhase_sealedRegions : (s.setFramePhase n p).sealedRegions = s.sealedRegions := rfl
@[simp] theorem State.setFramePhase_roo : (s.setFramePhase n p).roo = s.roo := rfl
@[simp] theorem State.setFramePhase_macs : (s.setFramePhase n p).macs = s.macs := rfl
@[simp] theorem State.setFramePhase_mscs : (s.setFramePhase n p).mscs = s.mscs := rfl
@[simp] theorem State.setFramePhase_hawks : (s.setFramePhase n p).hawks = s.hawks := rfl
@[simp] theorem State.setFramePhase_l2 : (s.setFramePhase n p).l2 = s.l2 := rfl
@[simp] theorem State.setFramePhase_tsk : (s.setFramePhase n p).tsk = s.tsk := rfl
@[simp] theorem State.setFramePhase_queues : (s.setFramePhase n p).queues = s.queues := rfl
@[simp] theorem State.setFramePhase_queuePops : (s.setFramePhase n p).queuePops = s.queuePops := rfl
@[simp] theorem State.setFramePhase_thm : (s.setFramePhase n p).thm = s.thm := rfl
@[simp] theorem State.setFramePhase_pwr : (s.setFramePhase n p).pwr = s.pwr := rfl
@[simp] theorem State.setFramePhase_chy : (s.setFramePhase n p).chy = s.chy := rfl
@[simp] theorem State.setFramePhase_jtag : (s.setFramePhase n p).jtag = s.jtag := rfl
@[simp] theorem State.setFramePhase_off : (s.setFramePhase n p).off = s.off := rfl
@[simp] theorem State.setFramePhase_out : (s.setFramePhase n p).out = s.out := rfl
@[simp] theorem State.setFramePhase_fresh : (s.setFramePhase n p).fresh = s.fresh := rfl
@[simp] theorem State.setFramePhase_pending : (s.setFramePhase n p).pending = s.pending := rfl
end

section
variable (s : State) (x : PwrSt)
@[simp] theorem State.setPwr_regs : (s.setPwr x).regs = s.regs := rfl
@[simp] theorem State.setPwr_latches : (s.setPwr x).latches = s.latches := rfl
@[simp] theorem State.setPwr_time : (s.setPwr x).time = s.time := rfl
@[simp] theorem State.setPwr_ant : (s.setPwr x).ant = s.ant := rfl
@[simp] theorem State.setPwr_ctxs : (s.setPwr x).ctxs = s.ctxs := rfl
@[simp] theorem State.setPwr_refs : (s.setPwr x).refs = s.refs := rfl
@[simp] theorem State.setPwr_cal : (s.setPwr x).cal = s.cal := rfl
@[simp] theorem State.setPwr_pulses : (s.setPwr x).pulses = s.pulses := rfl
@[simp] theorem State.setPwr_gpis : (s.setPwr x).gpis = s.gpis := rfl
@[simp] theorem State.setPwr_otu : (s.setPwr x).otu = s.otu := rfl
@[simp] theorem State.setPwr_emi : (s.setPwr x).emi = s.emi := rfl
@[simp] theorem State.setPwr_wings : (s.setPwr x).wings = s.wings := rfl
@[simp] theorem State.setPwr_dmxs : (s.setPwr x).dmxs = s.dmxs := rfl
@[simp] theorem State.setPwr_selfCal : (s.setPwr x).selfCal = s.selfCal := rfl
@[simp] theorem State.setPwr_pix : (s.setPwr x).pix = s.pix := rfl
@[simp] theorem State.setPwr_vins : (s.setPwr x).vins = s.vins := rfl
@[simp] theorem State.setPwr_flows : (s.setPwr x).flows = s.flows := rfl
@[simp] theorem State.setPwr_trk : (s.setPwr x).trk = s.trk := rfl
@[simp] theorem State.setPwr_ltc : (s.setPwr x).ltc = s.ltc := rfl
@[simp] theorem State.setPwr_aesHeard : (s.setPwr x).aesHeard = s.aesHeard := rfl
@[simp] theorem State.setPwr_host : (s.setPwr x).host = s.host := rfl
@[simp] theorem State.setPwr_store : (s.setPwr x).store = s.store := rfl
@[simp] theorem State.setPwr_arb : (s.setPwr x).arb = s.arb := rfl
@[simp] theorem State.setPwr_sealedRegions : (s.setPwr x).sealedRegions = s.sealedRegions := rfl
@[simp] theorem State.setPwr_roo : (s.setPwr x).roo = s.roo := rfl
@[simp] theorem State.setPwr_macs : (s.setPwr x).macs = s.macs := rfl
@[simp] theorem State.setPwr_mscs : (s.setPwr x).mscs = s.mscs := rfl
@[simp] theorem State.setPwr_hawks : (s.setPwr x).hawks = s.hawks := rfl
@[simp] theorem State.setPwr_l2 : (s.setPwr x).l2 = s.l2 := rfl
@[simp] theorem State.setPwr_tsk : (s.setPwr x).tsk = s.tsk := rfl
@[simp] theorem State.setPwr_queues : (s.setPwr x).queues = s.queues := rfl
@[simp] theorem State.setPwr_queuePops : (s.setPwr x).queuePops = s.queuePops := rfl
@[simp] theorem State.setPwr_thm : (s.setPwr x).thm = s.thm := rfl
@[simp] theorem State.setPwr_pwr : (s.setPwr x).pwr = x := rfl
@[simp] theorem State.setPwr_chy : (s.setPwr x).chy = s.chy := rfl
@[simp] theorem State.setPwr_jtag : (s.setPwr x).jtag = s.jtag := rfl
@[simp] theorem State.setPwr_off : (s.setPwr x).off = s.off := rfl
@[simp] theorem State.setPwr_out : (s.setPwr x).out = s.out := rfl
@[simp] theorem State.setPwr_fresh : (s.setPwr x).fresh = s.fresh := rfl
@[simp] theorem State.setPwr_pending : (s.setPwr x).pending = s.pending := rfl
end

section
variable (s : State) (x : ChySt)
@[simp] theorem State.setChy_regs : (s.setChy x).regs = s.regs := rfl
@[simp] theorem State.setChy_latches : (s.setChy x).latches = s.latches := rfl
@[simp] theorem State.setChy_time : (s.setChy x).time = s.time := rfl
@[simp] theorem State.setChy_ant : (s.setChy x).ant = s.ant := rfl
@[simp] theorem State.setChy_ctxs : (s.setChy x).ctxs = s.ctxs := rfl
@[simp] theorem State.setChy_refs : (s.setChy x).refs = s.refs := rfl
@[simp] theorem State.setChy_cal : (s.setChy x).cal = s.cal := rfl
@[simp] theorem State.setChy_pulses : (s.setChy x).pulses = s.pulses := rfl
@[simp] theorem State.setChy_gpis : (s.setChy x).gpis = s.gpis := rfl
@[simp] theorem State.setChy_otu : (s.setChy x).otu = s.otu := rfl
@[simp] theorem State.setChy_emi : (s.setChy x).emi = s.emi := rfl
@[simp] theorem State.setChy_wings : (s.setChy x).wings = s.wings := rfl
@[simp] theorem State.setChy_dmxs : (s.setChy x).dmxs = s.dmxs := rfl
@[simp] theorem State.setChy_selfCal : (s.setChy x).selfCal = s.selfCal := rfl
@[simp] theorem State.setChy_pix : (s.setChy x).pix = s.pix := rfl
@[simp] theorem State.setChy_vins : (s.setChy x).vins = s.vins := rfl
@[simp] theorem State.setChy_flows : (s.setChy x).flows = s.flows := rfl
@[simp] theorem State.setChy_trk : (s.setChy x).trk = s.trk := rfl
@[simp] theorem State.setChy_ltc : (s.setChy x).ltc = s.ltc := rfl
@[simp] theorem State.setChy_aesHeard : (s.setChy x).aesHeard = s.aesHeard := rfl
@[simp] theorem State.setChy_host : (s.setChy x).host = s.host := rfl
@[simp] theorem State.setChy_store : (s.setChy x).store = s.store := rfl
@[simp] theorem State.setChy_arb : (s.setChy x).arb = s.arb := rfl
@[simp] theorem State.setChy_sealedRegions : (s.setChy x).sealedRegions = s.sealedRegions := rfl
@[simp] theorem State.setChy_roo : (s.setChy x).roo = s.roo := rfl
@[simp] theorem State.setChy_macs : (s.setChy x).macs = s.macs := rfl
@[simp] theorem State.setChy_mscs : (s.setChy x).mscs = s.mscs := rfl
@[simp] theorem State.setChy_hawks : (s.setChy x).hawks = s.hawks := rfl
@[simp] theorem State.setChy_l2 : (s.setChy x).l2 = s.l2 := rfl
@[simp] theorem State.setChy_tsk : (s.setChy x).tsk = s.tsk := rfl
@[simp] theorem State.setChy_queues : (s.setChy x).queues = s.queues := rfl
@[simp] theorem State.setChy_queuePops : (s.setChy x).queuePops = s.queuePops := rfl
@[simp] theorem State.setChy_thm : (s.setChy x).thm = s.thm := rfl
@[simp] theorem State.setChy_pwr : (s.setChy x).pwr = s.pwr := rfl
@[simp] theorem State.setChy_chy : (s.setChy x).chy = x := rfl
@[simp] theorem State.setChy_jtag : (s.setChy x).jtag = s.jtag := rfl
@[simp] theorem State.setChy_off : (s.setChy x).off = s.off := rfl
@[simp] theorem State.setChy_out : (s.setChy x).out = s.out := rfl
@[simp] theorem State.setChy_fresh : (s.setChy x).fresh = s.fresh := rfl
@[simp] theorem State.setChy_pending : (s.setChy x).pending = s.pending := rfl
end

section
variable (s : State)
@[simp] theorem State.setOff_regs : (s.setOff).regs = s.regs := rfl
@[simp] theorem State.setOff_latches : (s.setOff).latches = s.latches := rfl
@[simp] theorem State.setOff_time : (s.setOff).time = s.time := rfl
@[simp] theorem State.setOff_ant : (s.setOff).ant = s.ant := rfl
@[simp] theorem State.setOff_ctxs : (s.setOff).ctxs = s.ctxs := rfl
@[simp] theorem State.setOff_refs : (s.setOff).refs = s.refs := rfl
@[simp] theorem State.setOff_cal : (s.setOff).cal = s.cal := rfl
@[simp] theorem State.setOff_pulses : (s.setOff).pulses = s.pulses := rfl
@[simp] theorem State.setOff_gpis : (s.setOff).gpis = s.gpis := rfl
@[simp] theorem State.setOff_otu : (s.setOff).otu = s.otu := rfl
@[simp] theorem State.setOff_emi : (s.setOff).emi = s.emi := rfl
@[simp] theorem State.setOff_wings : (s.setOff).wings = s.wings := rfl
@[simp] theorem State.setOff_dmxs : (s.setOff).dmxs = s.dmxs := rfl
@[simp] theorem State.setOff_selfCal : (s.setOff).selfCal = s.selfCal := rfl
@[simp] theorem State.setOff_pix : (s.setOff).pix = s.pix := rfl
@[simp] theorem State.setOff_vins : (s.setOff).vins = s.vins := rfl
@[simp] theorem State.setOff_flows : (s.setOff).flows = s.flows := rfl
@[simp] theorem State.setOff_trk : (s.setOff).trk = s.trk := rfl
@[simp] theorem State.setOff_ltc : (s.setOff).ltc = s.ltc := rfl
@[simp] theorem State.setOff_aesHeard : (s.setOff).aesHeard = s.aesHeard := rfl
@[simp] theorem State.setOff_host : (s.setOff).host = s.host := rfl
@[simp] theorem State.setOff_store : (s.setOff).store = s.store := rfl
@[simp] theorem State.setOff_arb : (s.setOff).arb = s.arb := rfl
@[simp] theorem State.setOff_sealedRegions : (s.setOff).sealedRegions = s.sealedRegions := rfl
@[simp] theorem State.setOff_roo : (s.setOff).roo = s.roo := rfl
@[simp] theorem State.setOff_macs : (s.setOff).macs = s.macs := rfl
@[simp] theorem State.setOff_mscs : (s.setOff).mscs = s.mscs := rfl
@[simp] theorem State.setOff_hawks : (s.setOff).hawks = s.hawks := rfl
@[simp] theorem State.setOff_l2 : (s.setOff).l2 = s.l2 := rfl
@[simp] theorem State.setOff_tsk : (s.setOff).tsk = s.tsk := rfl
@[simp] theorem State.setOff_queues : (s.setOff).queues = s.queues := rfl
@[simp] theorem State.setOff_queuePops : (s.setOff).queuePops = s.queuePops := rfl
@[simp] theorem State.setOff_thm : (s.setOff).thm = s.thm := rfl
@[simp] theorem State.setOff_pwr : (s.setOff).pwr = s.pwr := rfl
@[simp] theorem State.setOff_chy : (s.setOff).chy = s.chy := rfl
@[simp] theorem State.setOff_jtag : (s.setOff).jtag = s.jtag := rfl
@[simp] theorem State.setOff_off : (s.setOff).off = s.offNow := rfl
@[simp] theorem State.setOff_out : (s.setOff).out = s.out := rfl
@[simp] theorem State.setOff_fresh : (s.setOff).fresh = s.fresh := rfl
@[simp] theorem State.setOff_pending : (s.setOff).pending = s.pending := rfl
end

section
variable (s : State) (x : PtpSt)
@[simp] theorem State.setPtp_regs : (s.setPtp x).regs = s.regs := rfl
@[simp] theorem State.setPtp_latches : (s.setPtp x).latches = s.latches := rfl
@[simp] theorem State.setPtp_time : (s.setPtp x).time = s.time := rfl
@[simp] theorem State.setPtp_ant : (s.setPtp x).ant = { s.ant with ptp := x } := rfl
@[simp] theorem State.setPtp_ctxs : (s.setPtp x).ctxs = s.ctxs := rfl
@[simp] theorem State.setPtp_refs : (s.setPtp x).refs = s.refs := rfl
@[simp] theorem State.setPtp_cal : (s.setPtp x).cal = s.cal := rfl
@[simp] theorem State.setPtp_pulses : (s.setPtp x).pulses = s.pulses := rfl
@[simp] theorem State.setPtp_gpis : (s.setPtp x).gpis = s.gpis := rfl
@[simp] theorem State.setPtp_otu : (s.setPtp x).otu = s.otu := rfl
@[simp] theorem State.setPtp_emi : (s.setPtp x).emi = s.emi := rfl
@[simp] theorem State.setPtp_wings : (s.setPtp x).wings = s.wings := rfl
@[simp] theorem State.setPtp_dmxs : (s.setPtp x).dmxs = s.dmxs := rfl
@[simp] theorem State.setPtp_selfCal : (s.setPtp x).selfCal = s.selfCal := rfl
@[simp] theorem State.setPtp_pix : (s.setPtp x).pix = s.pix := rfl
@[simp] theorem State.setPtp_vins : (s.setPtp x).vins = s.vins := rfl
@[simp] theorem State.setPtp_flows : (s.setPtp x).flows = s.flows := rfl
@[simp] theorem State.setPtp_trk : (s.setPtp x).trk = s.trk := rfl
@[simp] theorem State.setPtp_ltc : (s.setPtp x).ltc = s.ltc := rfl
@[simp] theorem State.setPtp_aesHeard : (s.setPtp x).aesHeard = s.aesHeard := rfl
@[simp] theorem State.setPtp_host : (s.setPtp x).host = s.host := rfl
@[simp] theorem State.setPtp_store : (s.setPtp x).store = s.store := rfl
@[simp] theorem State.setPtp_arb : (s.setPtp x).arb = s.arb := rfl
@[simp] theorem State.setPtp_sealedRegions : (s.setPtp x).sealedRegions = s.sealedRegions := rfl
@[simp] theorem State.setPtp_roo : (s.setPtp x).roo = s.roo := rfl
@[simp] theorem State.setPtp_macs : (s.setPtp x).macs = s.macs := rfl
@[simp] theorem State.setPtp_mscs : (s.setPtp x).mscs = s.mscs := rfl
@[simp] theorem State.setPtp_hawks : (s.setPtp x).hawks = s.hawks := rfl
@[simp] theorem State.setPtp_l2 : (s.setPtp x).l2 = s.l2 := rfl
@[simp] theorem State.setPtp_tsk : (s.setPtp x).tsk = s.tsk := rfl
@[simp] theorem State.setPtp_queues : (s.setPtp x).queues = s.queues := rfl
@[simp] theorem State.setPtp_queuePops : (s.setPtp x).queuePops = s.queuePops := rfl
@[simp] theorem State.setPtp_thm : (s.setPtp x).thm = s.thm := rfl
@[simp] theorem State.setPtp_pwr : (s.setPtp x).pwr = s.pwr := rfl
@[simp] theorem State.setPtp_chy : (s.setPtp x).chy = s.chy := rfl
@[simp] theorem State.setPtp_jtag : (s.setPtp x).jtag = s.jtag := rfl
@[simp] theorem State.setPtp_off : (s.setPtp x).off = s.off := rfl
@[simp] theorem State.setPtp_out : (s.setPtp x).out = s.out := rfl
@[simp] theorem State.setPtp_fresh : (s.setPtp x).fresh = s.fresh := rfl
@[simp] theorem State.setPtp_pending : (s.setPtp x).pending = s.pending := rfl
end

section
variable (s : State) (n : Nat) (x : GpiSt)
@[simp] theorem State.setGpi_regs : (s.setGpi n x).regs = s.regs := rfl
@[simp] theorem State.setGpi_latches : (s.setGpi n x).latches = s.latches := rfl
@[simp] theorem State.setGpi_time : (s.setGpi n x).time = s.time := rfl
@[simp] theorem State.setGpi_ant : (s.setGpi n x).ant = s.ant := rfl
@[simp] theorem State.setGpi_ctxs : (s.setGpi n x).ctxs = s.ctxs := rfl
@[simp] theorem State.setGpi_refs : (s.setGpi n x).refs = s.refs := rfl
@[simp] theorem State.setGpi_cal : (s.setGpi n x).cal = s.cal := rfl
@[simp] theorem State.setGpi_pulses : (s.setGpi n x).pulses = s.pulses := rfl
@[simp] theorem State.setGpi_gpis : (s.setGpi n x).gpis = tblSet s.gpis gpiIdle n x := rfl
@[simp] theorem State.setGpi_otu : (s.setGpi n x).otu = s.otu := rfl
@[simp] theorem State.setGpi_emi : (s.setGpi n x).emi = s.emi := rfl
@[simp] theorem State.setGpi_wings : (s.setGpi n x).wings = s.wings := rfl
@[simp] theorem State.setGpi_dmxs : (s.setGpi n x).dmxs = s.dmxs := rfl
@[simp] theorem State.setGpi_selfCal : (s.setGpi n x).selfCal = s.selfCal := rfl
@[simp] theorem State.setGpi_pix : (s.setGpi n x).pix = s.pix := rfl
@[simp] theorem State.setGpi_vins : (s.setGpi n x).vins = s.vins := rfl
@[simp] theorem State.setGpi_flows : (s.setGpi n x).flows = s.flows := rfl
@[simp] theorem State.setGpi_trk : (s.setGpi n x).trk = s.trk := rfl
@[simp] theorem State.setGpi_ltc : (s.setGpi n x).ltc = s.ltc := rfl
@[simp] theorem State.setGpi_aesHeard : (s.setGpi n x).aesHeard = s.aesHeard := rfl
@[simp] theorem State.setGpi_host : (s.setGpi n x).host = s.host := rfl
@[simp] theorem State.setGpi_store : (s.setGpi n x).store = s.store := rfl
@[simp] theorem State.setGpi_arb : (s.setGpi n x).arb = s.arb := rfl
@[simp] theorem State.setGpi_sealedRegions : (s.setGpi n x).sealedRegions = s.sealedRegions := rfl
@[simp] theorem State.setGpi_roo : (s.setGpi n x).roo = s.roo := rfl
@[simp] theorem State.setGpi_macs : (s.setGpi n x).macs = s.macs := rfl
@[simp] theorem State.setGpi_mscs : (s.setGpi n x).mscs = s.mscs := rfl
@[simp] theorem State.setGpi_hawks : (s.setGpi n x).hawks = s.hawks := rfl
@[simp] theorem State.setGpi_l2 : (s.setGpi n x).l2 = s.l2 := rfl
@[simp] theorem State.setGpi_tsk : (s.setGpi n x).tsk = s.tsk := rfl
@[simp] theorem State.setGpi_queues : (s.setGpi n x).queues = s.queues := rfl
@[simp] theorem State.setGpi_queuePops : (s.setGpi n x).queuePops = s.queuePops := rfl
@[simp] theorem State.setGpi_thm : (s.setGpi n x).thm = s.thm := rfl
@[simp] theorem State.setGpi_pwr : (s.setGpi n x).pwr = s.pwr := rfl
@[simp] theorem State.setGpi_chy : (s.setGpi n x).chy = s.chy := rfl
@[simp] theorem State.setGpi_jtag : (s.setGpi n x).jtag = s.jtag := rfl
@[simp] theorem State.setGpi_off : (s.setGpi n x).off = s.off := rfl
@[simp] theorem State.setGpi_out : (s.setGpi n x).out = s.out := rfl
@[simp] theorem State.setGpi_fresh : (s.setGpi n x).fresh = s.fresh := rfl
@[simp] theorem State.setGpi_pending : (s.setGpi n x).pending = s.pending := rfl
end

section
variable (s : State) (r : RooSt)
@[simp] theorem State.setRoo_regs : (s.setRoo r).regs = s.regs := rfl
@[simp] theorem State.setRoo_latches : (s.setRoo r).latches = s.latches := rfl
@[simp] theorem State.setRoo_time : (s.setRoo r).time = s.time := rfl
@[simp] theorem State.setRoo_ant : (s.setRoo r).ant = s.ant := rfl
@[simp] theorem State.setRoo_ctxs : (s.setRoo r).ctxs = s.ctxs := rfl
@[simp] theorem State.setRoo_refs : (s.setRoo r).refs = s.refs := rfl
@[simp] theorem State.setRoo_cal : (s.setRoo r).cal = s.cal := rfl
@[simp] theorem State.setRoo_pulses : (s.setRoo r).pulses = s.pulses := rfl
@[simp] theorem State.setRoo_gpis : (s.setRoo r).gpis = s.gpis := rfl
@[simp] theorem State.setRoo_otu : (s.setRoo r).otu = s.otu := rfl
@[simp] theorem State.setRoo_emi : (s.setRoo r).emi = s.emi := rfl
@[simp] theorem State.setRoo_wings : (s.setRoo r).wings = s.wings := rfl
@[simp] theorem State.setRoo_dmxs : (s.setRoo r).dmxs = s.dmxs := rfl
@[simp] theorem State.setRoo_selfCal : (s.setRoo r).selfCal = s.selfCal := rfl
@[simp] theorem State.setRoo_pix : (s.setRoo r).pix = s.pix := rfl
@[simp] theorem State.setRoo_vins : (s.setRoo r).vins = s.vins := rfl
@[simp] theorem State.setRoo_flows : (s.setRoo r).flows = s.flows := rfl
@[simp] theorem State.setRoo_trk : (s.setRoo r).trk = s.trk := rfl
@[simp] theorem State.setRoo_ltc : (s.setRoo r).ltc = s.ltc := rfl
@[simp] theorem State.setRoo_aesHeard : (s.setRoo r).aesHeard = s.aesHeard := rfl
@[simp] theorem State.setRoo_host : (s.setRoo r).host = s.host := rfl
@[simp] theorem State.setRoo_store : (s.setRoo r).store = s.store := rfl
@[simp] theorem State.setRoo_arb : (s.setRoo r).arb = s.arb := rfl
@[simp] theorem State.setRoo_sealedRegions : (s.setRoo r).sealedRegions = s.sealedRegions := rfl
@[simp] theorem State.setRoo_roo : (s.setRoo r).roo = r := rfl
@[simp] theorem State.setRoo_macs : (s.setRoo r).macs = s.macs := rfl
@[simp] theorem State.setRoo_mscs : (s.setRoo r).mscs = s.mscs := rfl
@[simp] theorem State.setRoo_hawks : (s.setRoo r).hawks = s.hawks := rfl
@[simp] theorem State.setRoo_l2 : (s.setRoo r).l2 = s.l2 := rfl
@[simp] theorem State.setRoo_tsk : (s.setRoo r).tsk = s.tsk := rfl
@[simp] theorem State.setRoo_queues : (s.setRoo r).queues = s.queues := rfl
@[simp] theorem State.setRoo_queuePops : (s.setRoo r).queuePops = s.queuePops := rfl
@[simp] theorem State.setRoo_thm : (s.setRoo r).thm = s.thm := rfl
@[simp] theorem State.setRoo_pwr : (s.setRoo r).pwr = s.pwr := rfl
@[simp] theorem State.setRoo_chy : (s.setRoo r).chy = s.chy := rfl
@[simp] theorem State.setRoo_jtag : (s.setRoo r).jtag = s.jtag := rfl
@[simp] theorem State.setRoo_off : (s.setRoo r).off = s.off := rfl
@[simp] theorem State.setRoo_out : (s.setRoo r).out = s.out := rfl
@[simp] theorem State.setRoo_fresh : (s.setRoo r).fresh = s.fresh := rfl
@[simp] theorem State.setRoo_pending : (s.setRoo r).pending = s.pending := rfl
end

section
variable (s : State) (n : Nat) (x : PeerSt)
@[simp] theorem State.setPeer_regs : (s.setPeer n x).regs = s.regs := rfl
@[simp] theorem State.setPeer_latches : (s.setPeer n x).latches = s.latches := rfl
@[simp] theorem State.setPeer_time : (s.setPeer n x).time = s.time := rfl
@[simp] theorem State.setPeer_ant : (s.setPeer n x).ant = s.ant := rfl
@[simp] theorem State.setPeer_ctxs : (s.setPeer n x).ctxs = s.ctxs := rfl
@[simp] theorem State.setPeer_refs : (s.setPeer n x).refs = s.refs := rfl
@[simp] theorem State.setPeer_cal : (s.setPeer n x).cal = s.cal := rfl
@[simp] theorem State.setPeer_pulses : (s.setPeer n x).pulses = s.pulses := rfl
@[simp] theorem State.setPeer_gpis : (s.setPeer n x).gpis = s.gpis := rfl
@[simp] theorem State.setPeer_otu : (s.setPeer n x).otu = s.otu := rfl
@[simp] theorem State.setPeer_emi : (s.setPeer n x).emi = s.emi := rfl
@[simp] theorem State.setPeer_wings : (s.setPeer n x).wings = s.wings := rfl
@[simp] theorem State.setPeer_dmxs : (s.setPeer n x).dmxs = s.dmxs := rfl
@[simp] theorem State.setPeer_selfCal : (s.setPeer n x).selfCal = s.selfCal := rfl
@[simp] theorem State.setPeer_pix : (s.setPeer n x).pix = s.pix := rfl
@[simp] theorem State.setPeer_vins : (s.setPeer n x).vins = s.vins := rfl
@[simp] theorem State.setPeer_flows : (s.setPeer n x).flows = s.flows := rfl
@[simp] theorem State.setPeer_trk : (s.setPeer n x).trk = s.trk := rfl
@[simp] theorem State.setPeer_ltc : (s.setPeer n x).ltc = s.ltc := rfl
@[simp] theorem State.setPeer_aesHeard : (s.setPeer n x).aesHeard = s.aesHeard := rfl
@[simp] theorem State.setPeer_host : (s.setPeer n x).host = s.host := rfl
@[simp] theorem State.setPeer_store : (s.setPeer n x).store = s.store := rfl
@[simp] theorem State.setPeer_arb : (s.setPeer n x).arb = s.arb := rfl
@[simp] theorem State.setPeer_sealedRegions : (s.setPeer n x).sealedRegions = s.sealedRegions := rfl
@[simp] theorem State.setPeer_roo : (s.setPeer n x).roo = { s.roo with peers := tblSet s.roo.peers peerIdle n x } := rfl
@[simp] theorem State.setPeer_macs : (s.setPeer n x).macs = s.macs := rfl
@[simp] theorem State.setPeer_mscs : (s.setPeer n x).mscs = s.mscs := rfl
@[simp] theorem State.setPeer_hawks : (s.setPeer n x).hawks = s.hawks := rfl
@[simp] theorem State.setPeer_l2 : (s.setPeer n x).l2 = s.l2 := rfl
@[simp] theorem State.setPeer_tsk : (s.setPeer n x).tsk = s.tsk := rfl
@[simp] theorem State.setPeer_queues : (s.setPeer n x).queues = s.queues := rfl
@[simp] theorem State.setPeer_queuePops : (s.setPeer n x).queuePops = s.queuePops := rfl
@[simp] theorem State.setPeer_thm : (s.setPeer n x).thm = s.thm := rfl
@[simp] theorem State.setPeer_pwr : (s.setPeer n x).pwr = s.pwr := rfl
@[simp] theorem State.setPeer_chy : (s.setPeer n x).chy = s.chy := rfl
@[simp] theorem State.setPeer_jtag : (s.setPeer n x).jtag = s.jtag := rfl
@[simp] theorem State.setPeer_off : (s.setPeer n x).off = s.off := rfl
@[simp] theorem State.setPeer_out : (s.setPeer n x).out = s.out := rfl
@[simp] theorem State.setPeer_fresh : (s.setPeer n x).fresh = s.fresh := rfl
@[simp] theorem State.setPeer_pending : (s.setPeer n x).pending = s.pending := rfl
end

section
variable (s : State) (p : Nat) (w : WingSt)
@[simp] theorem State.setWing_regs : (s.setWing p w).regs = s.regs := rfl
@[simp] theorem State.setWing_latches : (s.setWing p w).latches = s.latches := rfl
@[simp] theorem State.setWing_time : (s.setWing p w).time = s.time := rfl
@[simp] theorem State.setWing_ant : (s.setWing p w).ant = s.ant := rfl
@[simp] theorem State.setWing_ctxs : (s.setWing p w).ctxs = s.ctxs := rfl
@[simp] theorem State.setWing_refs : (s.setWing p w).refs = s.refs := rfl
@[simp] theorem State.setWing_cal : (s.setWing p w).cal = s.cal := rfl
@[simp] theorem State.setWing_pulses : (s.setWing p w).pulses = s.pulses := rfl
@[simp] theorem State.setWing_gpis : (s.setWing p w).gpis = s.gpis := rfl
@[simp] theorem State.setWing_otu : (s.setWing p w).otu = s.otu := rfl
@[simp] theorem State.setWing_emi : (s.setWing p w).emi = s.emi := rfl
@[simp] theorem State.setWing_wings : (s.setWing p w).wings = tblSet s.wings wingIdle p w := rfl
@[simp] theorem State.setWing_dmxs : (s.setWing p w).dmxs = s.dmxs := rfl
@[simp] theorem State.setWing_selfCal : (s.setWing p w).selfCal = s.selfCal := rfl
@[simp] theorem State.setWing_pix : (s.setWing p w).pix = s.pix := rfl
@[simp] theorem State.setWing_vins : (s.setWing p w).vins = s.vins := rfl
@[simp] theorem State.setWing_flows : (s.setWing p w).flows = s.flows := rfl
@[simp] theorem State.setWing_trk : (s.setWing p w).trk = s.trk := rfl
@[simp] theorem State.setWing_ltc : (s.setWing p w).ltc = s.ltc := rfl
@[simp] theorem State.setWing_aesHeard : (s.setWing p w).aesHeard = s.aesHeard := rfl
@[simp] theorem State.setWing_host : (s.setWing p w).host = s.host := rfl
@[simp] theorem State.setWing_store : (s.setWing p w).store = s.store := rfl
@[simp] theorem State.setWing_arb : (s.setWing p w).arb = s.arb := rfl
@[simp] theorem State.setWing_sealedRegions : (s.setWing p w).sealedRegions = s.sealedRegions := rfl
@[simp] theorem State.setWing_roo : (s.setWing p w).roo = s.roo := rfl
@[simp] theorem State.setWing_macs : (s.setWing p w).macs = s.macs := rfl
@[simp] theorem State.setWing_mscs : (s.setWing p w).mscs = s.mscs := rfl
@[simp] theorem State.setWing_hawks : (s.setWing p w).hawks = s.hawks := rfl
@[simp] theorem State.setWing_l2 : (s.setWing p w).l2 = s.l2 := rfl
@[simp] theorem State.setWing_tsk : (s.setWing p w).tsk = s.tsk := rfl
@[simp] theorem State.setWing_queues : (s.setWing p w).queues = s.queues := rfl
@[simp] theorem State.setWing_queuePops : (s.setWing p w).queuePops = s.queuePops := rfl
@[simp] theorem State.setWing_thm : (s.setWing p w).thm = s.thm := rfl
@[simp] theorem State.setWing_pwr : (s.setWing p w).pwr = s.pwr := rfl
@[simp] theorem State.setWing_chy : (s.setWing p w).chy = s.chy := rfl
@[simp] theorem State.setWing_jtag : (s.setWing p w).jtag = s.jtag := rfl
@[simp] theorem State.setWing_off : (s.setWing p w).off = s.off := rfl
@[simp] theorem State.setWing_out : (s.setWing p w).out = s.out := rfl
@[simp] theorem State.setWing_fresh : (s.setWing p w).fresh = s.fresh := rfl
@[simp] theorem State.setWing_pending : (s.setWing p w).pending = s.pending := rfl
end

section
variable (s : State) (p : Nat) (d : DmxSt)
@[simp] theorem State.setDmx_regs : (s.setDmx p d).regs = s.regs := rfl
@[simp] theorem State.setDmx_latches : (s.setDmx p d).latches = s.latches := rfl
@[simp] theorem State.setDmx_time : (s.setDmx p d).time = s.time := rfl
@[simp] theorem State.setDmx_ant : (s.setDmx p d).ant = s.ant := rfl
@[simp] theorem State.setDmx_ctxs : (s.setDmx p d).ctxs = s.ctxs := rfl
@[simp] theorem State.setDmx_refs : (s.setDmx p d).refs = s.refs := rfl
@[simp] theorem State.setDmx_cal : (s.setDmx p d).cal = s.cal := rfl
@[simp] theorem State.setDmx_pulses : (s.setDmx p d).pulses = s.pulses := rfl
@[simp] theorem State.setDmx_gpis : (s.setDmx p d).gpis = s.gpis := rfl
@[simp] theorem State.setDmx_otu : (s.setDmx p d).otu = s.otu := rfl
@[simp] theorem State.setDmx_emi : (s.setDmx p d).emi = s.emi := rfl
@[simp] theorem State.setDmx_wings : (s.setDmx p d).wings = s.wings := rfl
@[simp] theorem State.setDmx_dmxs : (s.setDmx p d).dmxs = tblSet s.dmxs dmxIdle p d := rfl
@[simp] theorem State.setDmx_selfCal : (s.setDmx p d).selfCal = s.selfCal := rfl
@[simp] theorem State.setDmx_pix : (s.setDmx p d).pix = s.pix := rfl
@[simp] theorem State.setDmx_vins : (s.setDmx p d).vins = s.vins := rfl
@[simp] theorem State.setDmx_flows : (s.setDmx p d).flows = s.flows := rfl
@[simp] theorem State.setDmx_trk : (s.setDmx p d).trk = s.trk := rfl
@[simp] theorem State.setDmx_ltc : (s.setDmx p d).ltc = s.ltc := rfl
@[simp] theorem State.setDmx_aesHeard : (s.setDmx p d).aesHeard = s.aesHeard := rfl
@[simp] theorem State.setDmx_host : (s.setDmx p d).host = s.host := rfl
@[simp] theorem State.setDmx_store : (s.setDmx p d).store = s.store := rfl
@[simp] theorem State.setDmx_arb : (s.setDmx p d).arb = s.arb := rfl
@[simp] theorem State.setDmx_sealedRegions : (s.setDmx p d).sealedRegions = s.sealedRegions := rfl
@[simp] theorem State.setDmx_roo : (s.setDmx p d).roo = s.roo := rfl
@[simp] theorem State.setDmx_macs : (s.setDmx p d).macs = s.macs := rfl
@[simp] theorem State.setDmx_mscs : (s.setDmx p d).mscs = s.mscs := rfl
@[simp] theorem State.setDmx_hawks : (s.setDmx p d).hawks = s.hawks := rfl
@[simp] theorem State.setDmx_l2 : (s.setDmx p d).l2 = s.l2 := rfl
@[simp] theorem State.setDmx_tsk : (s.setDmx p d).tsk = s.tsk := rfl
@[simp] theorem State.setDmx_queues : (s.setDmx p d).queues = s.queues := rfl
@[simp] theorem State.setDmx_queuePops : (s.setDmx p d).queuePops = s.queuePops := rfl
@[simp] theorem State.setDmx_thm : (s.setDmx p d).thm = s.thm := rfl
@[simp] theorem State.setDmx_pwr : (s.setDmx p d).pwr = s.pwr := rfl
@[simp] theorem State.setDmx_chy : (s.setDmx p d).chy = s.chy := rfl
@[simp] theorem State.setDmx_jtag : (s.setDmx p d).jtag = s.jtag := rfl
@[simp] theorem State.setDmx_off : (s.setDmx p d).off = s.off := rfl
@[simp] theorem State.setDmx_out : (s.setDmx p d).out = s.out := rfl
@[simp] theorem State.setDmx_fresh : (s.setDmx p d).fresh = s.fresh := rfl
@[simp] theorem State.setDmx_pending : (s.setDmx p d).pending = s.pending := rfl
end

section
variable (s : State) (x : SelfCalSt)
@[simp] theorem State.setSelfCal_regs : (s.setSelfCal x).regs = s.regs := rfl
@[simp] theorem State.setSelfCal_latches : (s.setSelfCal x).latches = s.latches := rfl
@[simp] theorem State.setSelfCal_time : (s.setSelfCal x).time = s.time := rfl
@[simp] theorem State.setSelfCal_ant : (s.setSelfCal x).ant = s.ant := rfl
@[simp] theorem State.setSelfCal_ctxs : (s.setSelfCal x).ctxs = s.ctxs := rfl
@[simp] theorem State.setSelfCal_refs : (s.setSelfCal x).refs = s.refs := rfl
@[simp] theorem State.setSelfCal_cal : (s.setSelfCal x).cal = s.cal := rfl
@[simp] theorem State.setSelfCal_pulses : (s.setSelfCal x).pulses = s.pulses := rfl
@[simp] theorem State.setSelfCal_gpis : (s.setSelfCal x).gpis = s.gpis := rfl
@[simp] theorem State.setSelfCal_otu : (s.setSelfCal x).otu = s.otu := rfl
@[simp] theorem State.setSelfCal_emi : (s.setSelfCal x).emi = s.emi := rfl
@[simp] theorem State.setSelfCal_wings : (s.setSelfCal x).wings = s.wings := rfl
@[simp] theorem State.setSelfCal_dmxs : (s.setSelfCal x).dmxs = s.dmxs := rfl
@[simp] theorem State.setSelfCal_selfCal : (s.setSelfCal x).selfCal = x := rfl
@[simp] theorem State.setSelfCal_pix : (s.setSelfCal x).pix = s.pix := rfl
@[simp] theorem State.setSelfCal_vins : (s.setSelfCal x).vins = s.vins := rfl
@[simp] theorem State.setSelfCal_flows : (s.setSelfCal x).flows = s.flows := rfl
@[simp] theorem State.setSelfCal_trk : (s.setSelfCal x).trk = s.trk := rfl
@[simp] theorem State.setSelfCal_ltc : (s.setSelfCal x).ltc = s.ltc := rfl
@[simp] theorem State.setSelfCal_aesHeard : (s.setSelfCal x).aesHeard = s.aesHeard := rfl
@[simp] theorem State.setSelfCal_host : (s.setSelfCal x).host = s.host := rfl
@[simp] theorem State.setSelfCal_store : (s.setSelfCal x).store = s.store := rfl
@[simp] theorem State.setSelfCal_arb : (s.setSelfCal x).arb = s.arb := rfl
@[simp] theorem State.setSelfCal_sealedRegions : (s.setSelfCal x).sealedRegions = s.sealedRegions := rfl
@[simp] theorem State.setSelfCal_roo : (s.setSelfCal x).roo = s.roo := rfl
@[simp] theorem State.setSelfCal_macs : (s.setSelfCal x).macs = s.macs := rfl
@[simp] theorem State.setSelfCal_mscs : (s.setSelfCal x).mscs = s.mscs := rfl
@[simp] theorem State.setSelfCal_hawks : (s.setSelfCal x).hawks = s.hawks := rfl
@[simp] theorem State.setSelfCal_l2 : (s.setSelfCal x).l2 = s.l2 := rfl
@[simp] theorem State.setSelfCal_tsk : (s.setSelfCal x).tsk = s.tsk := rfl
@[simp] theorem State.setSelfCal_queues : (s.setSelfCal x).queues = s.queues := rfl
@[simp] theorem State.setSelfCal_queuePops : (s.setSelfCal x).queuePops = s.queuePops := rfl
@[simp] theorem State.setSelfCal_thm : (s.setSelfCal x).thm = s.thm := rfl
@[simp] theorem State.setSelfCal_pwr : (s.setSelfCal x).pwr = s.pwr := rfl
@[simp] theorem State.setSelfCal_chy : (s.setSelfCal x).chy = s.chy := rfl
@[simp] theorem State.setSelfCal_jtag : (s.setSelfCal x).jtag = s.jtag := rfl
@[simp] theorem State.setSelfCal_off : (s.setSelfCal x).off = s.off := rfl
@[simp] theorem State.setSelfCal_out : (s.setSelfCal x).out = s.out := rfl
@[simp] theorem State.setSelfCal_fresh : (s.setSelfCal x).fresh = s.fresh := rfl
@[simp] theorem State.setSelfCal_pending : (s.setSelfCal x).pending = s.pending := rfl
end

section
variable (s : State) (a : Nat) (b : Byte)
@[simp] theorem State.setByte_regs : (s.setByte a b).regs = s.regs := rfl
@[simp] theorem State.setByte_latches : (s.setByte a b).latches = s.latches := rfl
@[simp] theorem State.setByte_time : (s.setByte a b).time = s.time := rfl
@[simp] theorem State.setByte_ant : (s.setByte a b).ant = s.ant := rfl
@[simp] theorem State.setByte_ctxs : (s.setByte a b).ctxs = s.ctxs := rfl
@[simp] theorem State.setByte_refs : (s.setByte a b).refs = s.refs := rfl
@[simp] theorem State.setByte_cal : (s.setByte a b).cal = s.cal := rfl
@[simp] theorem State.setByte_pulses : (s.setByte a b).pulses = s.pulses := rfl
@[simp] theorem State.setByte_gpis : (s.setByte a b).gpis = s.gpis := rfl
@[simp] theorem State.setByte_otu : (s.setByte a b).otu = s.otu := rfl
@[simp] theorem State.setByte_emi : (s.setByte a b).emi = s.emi := rfl
@[simp] theorem State.setByte_wings : (s.setByte a b).wings = s.wings := rfl
@[simp] theorem State.setByte_dmxs : (s.setByte a b).dmxs = s.dmxs := rfl
@[simp] theorem State.setByte_selfCal : (s.setByte a b).selfCal = s.selfCal := rfl
@[simp] theorem State.setByte_pix : (s.setByte a b).pix = s.pix := rfl
@[simp] theorem State.setByte_vins : (s.setByte a b).vins = s.vins := rfl
@[simp] theorem State.setByte_flows : (s.setByte a b).flows = s.flows := rfl
@[simp] theorem State.setByte_trk : (s.setByte a b).trk = s.trk := rfl
@[simp] theorem State.setByte_ltc : (s.setByte a b).ltc = s.ltc := rfl
@[simp] theorem State.setByte_aesHeard : (s.setByte a b).aesHeard = s.aesHeard := rfl
@[simp] theorem State.setByte_host : (s.setByte a b).host = s.host := rfl
@[simp] theorem State.setByte_store : (s.setByte a b).store = { s.store with bytes := tblSet s.store.bytes 0 a b } := rfl
@[simp] theorem State.setByte_arb : (s.setByte a b).arb = s.arb := rfl
@[simp] theorem State.setByte_sealedRegions : (s.setByte a b).sealedRegions = s.sealedRegions := rfl
@[simp] theorem State.setByte_roo : (s.setByte a b).roo = s.roo := rfl
@[simp] theorem State.setByte_macs : (s.setByte a b).macs = s.macs := rfl
@[simp] theorem State.setByte_mscs : (s.setByte a b).mscs = s.mscs := rfl
@[simp] theorem State.setByte_hawks : (s.setByte a b).hawks = s.hawks := rfl
@[simp] theorem State.setByte_l2 : (s.setByte a b).l2 = s.l2 := rfl
@[simp] theorem State.setByte_tsk : (s.setByte a b).tsk = s.tsk := rfl
@[simp] theorem State.setByte_queues : (s.setByte a b).queues = s.queues := rfl
@[simp] theorem State.setByte_queuePops : (s.setByte a b).queuePops = s.queuePops := rfl
@[simp] theorem State.setByte_thm : (s.setByte a b).thm = s.thm := rfl
@[simp] theorem State.setByte_pwr : (s.setByte a b).pwr = s.pwr := rfl
@[simp] theorem State.setByte_chy : (s.setByte a b).chy = s.chy := rfl
@[simp] theorem State.setByte_jtag : (s.setByte a b).jtag = s.jtag := rfl
@[simp] theorem State.setByte_off : (s.setByte a b).off = s.off := rfl
@[simp] theorem State.setByte_out : (s.setByte a b).out = s.out := rfl
@[simp] theorem State.setByte_fresh : (s.setByte a b).fresh = s.fresh := rfl
@[simp] theorem State.setByte_pending : (s.setByte a b).pending = s.pending := rfl
end

section
variable (s : State) (w : Nat) (m : WordMark)
@[simp] theorem State.setMark_regs : (s.setMark w m).regs = s.regs := rfl
@[simp] theorem State.setMark_latches : (s.setMark w m).latches = s.latches := rfl
@[simp] theorem State.setMark_time : (s.setMark w m).time = s.time := rfl
@[simp] theorem State.setMark_ant : (s.setMark w m).ant = s.ant := rfl
@[simp] theorem State.setMark_ctxs : (s.setMark w m).ctxs = s.ctxs := rfl
@[simp] theorem State.setMark_refs : (s.setMark w m).refs = s.refs := rfl
@[simp] theorem State.setMark_cal : (s.setMark w m).cal = s.cal := rfl
@[simp] theorem State.setMark_pulses : (s.setMark w m).pulses = s.pulses := rfl
@[simp] theorem State.setMark_gpis : (s.setMark w m).gpis = s.gpis := rfl
@[simp] theorem State.setMark_otu : (s.setMark w m).otu = s.otu := rfl
@[simp] theorem State.setMark_emi : (s.setMark w m).emi = s.emi := rfl
@[simp] theorem State.setMark_wings : (s.setMark w m).wings = s.wings := rfl
@[simp] theorem State.setMark_dmxs : (s.setMark w m).dmxs = s.dmxs := rfl
@[simp] theorem State.setMark_selfCal : (s.setMark w m).selfCal = s.selfCal := rfl
@[simp] theorem State.setMark_pix : (s.setMark w m).pix = s.pix := rfl
@[simp] theorem State.setMark_vins : (s.setMark w m).vins = s.vins := rfl
@[simp] theorem State.setMark_flows : (s.setMark w m).flows = s.flows := rfl
@[simp] theorem State.setMark_trk : (s.setMark w m).trk = s.trk := rfl
@[simp] theorem State.setMark_ltc : (s.setMark w m).ltc = s.ltc := rfl
@[simp] theorem State.setMark_aesHeard : (s.setMark w m).aesHeard = s.aesHeard := rfl
@[simp] theorem State.setMark_host : (s.setMark w m).host = s.host := rfl
@[simp] theorem State.setMark_store : (s.setMark w m).store = { s.store with marks := tblSet s.store.marks .clean w m } := rfl
@[simp] theorem State.setMark_arb : (s.setMark w m).arb = s.arb := rfl
@[simp] theorem State.setMark_sealedRegions : (s.setMark w m).sealedRegions = s.sealedRegions := rfl
@[simp] theorem State.setMark_roo : (s.setMark w m).roo = s.roo := rfl
@[simp] theorem State.setMark_macs : (s.setMark w m).macs = s.macs := rfl
@[simp] theorem State.setMark_mscs : (s.setMark w m).mscs = s.mscs := rfl
@[simp] theorem State.setMark_hawks : (s.setMark w m).hawks = s.hawks := rfl
@[simp] theorem State.setMark_l2 : (s.setMark w m).l2 = s.l2 := rfl
@[simp] theorem State.setMark_tsk : (s.setMark w m).tsk = s.tsk := rfl
@[simp] theorem State.setMark_queues : (s.setMark w m).queues = s.queues := rfl
@[simp] theorem State.setMark_queuePops : (s.setMark w m).queuePops = s.queuePops := rfl
@[simp] theorem State.setMark_thm : (s.setMark w m).thm = s.thm := rfl
@[simp] theorem State.setMark_pwr : (s.setMark w m).pwr = s.pwr := rfl
@[simp] theorem State.setMark_chy : (s.setMark w m).chy = s.chy := rfl
@[simp] theorem State.setMark_jtag : (s.setMark w m).jtag = s.jtag := rfl
@[simp] theorem State.setMark_off : (s.setMark w m).off = s.off := rfl
@[simp] theorem State.setMark_out : (s.setMark w m).out = s.out := rfl
@[simp] theorem State.setMark_fresh : (s.setMark w m).fresh = s.fresh := rfl
@[simp] theorem State.setMark_pending : (s.setMark w m).pending = s.pending := rfl
end

section
variable (s : State) (r : Nat) (q : List StoreRequest)
@[simp] theorem State.setPort_regs : (s.setPort r q).regs = s.regs := rfl
@[simp] theorem State.setPort_latches : (s.setPort r q).latches = s.latches := rfl
@[simp] theorem State.setPort_time : (s.setPort r q).time = s.time := rfl
@[simp] theorem State.setPort_ant : (s.setPort r q).ant = s.ant := rfl
@[simp] theorem State.setPort_ctxs : (s.setPort r q).ctxs = s.ctxs := rfl
@[simp] theorem State.setPort_refs : (s.setPort r q).refs = s.refs := rfl
@[simp] theorem State.setPort_cal : (s.setPort r q).cal = s.cal := rfl
@[simp] theorem State.setPort_pulses : (s.setPort r q).pulses = s.pulses := rfl
@[simp] theorem State.setPort_gpis : (s.setPort r q).gpis = s.gpis := rfl
@[simp] theorem State.setPort_otu : (s.setPort r q).otu = s.otu := rfl
@[simp] theorem State.setPort_emi : (s.setPort r q).emi = s.emi := rfl
@[simp] theorem State.setPort_wings : (s.setPort r q).wings = s.wings := rfl
@[simp] theorem State.setPort_dmxs : (s.setPort r q).dmxs = s.dmxs := rfl
@[simp] theorem State.setPort_selfCal : (s.setPort r q).selfCal = s.selfCal := rfl
@[simp] theorem State.setPort_pix : (s.setPort r q).pix = s.pix := rfl
@[simp] theorem State.setPort_vins : (s.setPort r q).vins = s.vins := rfl
@[simp] theorem State.setPort_flows : (s.setPort r q).flows = s.flows := rfl
@[simp] theorem State.setPort_trk : (s.setPort r q).trk = s.trk := rfl
@[simp] theorem State.setPort_ltc : (s.setPort r q).ltc = s.ltc := rfl
@[simp] theorem State.setPort_aesHeard : (s.setPort r q).aesHeard = s.aesHeard := rfl
@[simp] theorem State.setPort_host : (s.setPort r q).host = s.host := rfl
@[simp] theorem State.setPort_store : (s.setPort r q).store = s.store := rfl
@[simp] theorem State.setPort_arb : (s.setPort r q).arb = { s.arb with ports := tblSet s.arb.ports [] r q } := rfl
@[simp] theorem State.setPort_sealedRegions : (s.setPort r q).sealedRegions = s.sealedRegions := rfl
@[simp] theorem State.setPort_roo : (s.setPort r q).roo = s.roo := rfl
@[simp] theorem State.setPort_macs : (s.setPort r q).macs = s.macs := rfl
@[simp] theorem State.setPort_mscs : (s.setPort r q).mscs = s.mscs := rfl
@[simp] theorem State.setPort_hawks : (s.setPort r q).hawks = s.hawks := rfl
@[simp] theorem State.setPort_l2 : (s.setPort r q).l2 = s.l2 := rfl
@[simp] theorem State.setPort_tsk : (s.setPort r q).tsk = s.tsk := rfl
@[simp] theorem State.setPort_queues : (s.setPort r q).queues = s.queues := rfl
@[simp] theorem State.setPort_queuePops : (s.setPort r q).queuePops = s.queuePops := rfl
@[simp] theorem State.setPort_thm : (s.setPort r q).thm = s.thm := rfl
@[simp] theorem State.setPort_pwr : (s.setPort r q).pwr = s.pwr := rfl
@[simp] theorem State.setPort_chy : (s.setPort r q).chy = s.chy := rfl
@[simp] theorem State.setPort_jtag : (s.setPort r q).jtag = s.jtag := rfl
@[simp] theorem State.setPort_off : (s.setPort r q).off = s.off := rfl
@[simp] theorem State.setPort_out : (s.setPort r q).out = s.out := rfl
@[simp] theorem State.setPort_fresh : (s.setPort r q).fresh = s.fresh := rfl
@[simp] theorem State.setPort_pending : (s.setPort r q).pending = s.pending := rfl
end

section
variable (s : State) (r : Nat) (l : List Instr)
@[simp] theorem State.setHeld_regs : (s.setHeld r l).regs = s.regs := rfl
@[simp] theorem State.setHeld_latches : (s.setHeld r l).latches = s.latches := rfl
@[simp] theorem State.setHeld_time : (s.setHeld r l).time = s.time := rfl
@[simp] theorem State.setHeld_ant : (s.setHeld r l).ant = s.ant := rfl
@[simp] theorem State.setHeld_ctxs : (s.setHeld r l).ctxs = s.ctxs := rfl
@[simp] theorem State.setHeld_refs : (s.setHeld r l).refs = s.refs := rfl
@[simp] theorem State.setHeld_cal : (s.setHeld r l).cal = s.cal := rfl
@[simp] theorem State.setHeld_pulses : (s.setHeld r l).pulses = s.pulses := rfl
@[simp] theorem State.setHeld_gpis : (s.setHeld r l).gpis = s.gpis := rfl
@[simp] theorem State.setHeld_otu : (s.setHeld r l).otu = s.otu := rfl
@[simp] theorem State.setHeld_emi : (s.setHeld r l).emi = s.emi := rfl
@[simp] theorem State.setHeld_wings : (s.setHeld r l).wings = s.wings := rfl
@[simp] theorem State.setHeld_dmxs : (s.setHeld r l).dmxs = s.dmxs := rfl
@[simp] theorem State.setHeld_selfCal : (s.setHeld r l).selfCal = s.selfCal := rfl
@[simp] theorem State.setHeld_pix : (s.setHeld r l).pix = s.pix := rfl
@[simp] theorem State.setHeld_vins : (s.setHeld r l).vins = s.vins := rfl
@[simp] theorem State.setHeld_flows : (s.setHeld r l).flows = s.flows := rfl
@[simp] theorem State.setHeld_trk : (s.setHeld r l).trk = s.trk := rfl
@[simp] theorem State.setHeld_ltc : (s.setHeld r l).ltc = s.ltc := rfl
@[simp] theorem State.setHeld_aesHeard : (s.setHeld r l).aesHeard = s.aesHeard := rfl
@[simp] theorem State.setHeld_host : (s.setHeld r l).host = s.host := rfl
@[simp] theorem State.setHeld_store : (s.setHeld r l).store = s.store := rfl
@[simp] theorem State.setHeld_arb : (s.setHeld r l).arb = { s.arb with held := tblSet s.arb.held [] r l } := rfl
@[simp] theorem State.setHeld_sealedRegions : (s.setHeld r l).sealedRegions = s.sealedRegions := rfl
@[simp] theorem State.setHeld_roo : (s.setHeld r l).roo = s.roo := rfl
@[simp] theorem State.setHeld_macs : (s.setHeld r l).macs = s.macs := rfl
@[simp] theorem State.setHeld_mscs : (s.setHeld r l).mscs = s.mscs := rfl
@[simp] theorem State.setHeld_hawks : (s.setHeld r l).hawks = s.hawks := rfl
@[simp] theorem State.setHeld_l2 : (s.setHeld r l).l2 = s.l2 := rfl
@[simp] theorem State.setHeld_tsk : (s.setHeld r l).tsk = s.tsk := rfl
@[simp] theorem State.setHeld_queues : (s.setHeld r l).queues = s.queues := rfl
@[simp] theorem State.setHeld_queuePops : (s.setHeld r l).queuePops = s.queuePops := rfl
@[simp] theorem State.setHeld_thm : (s.setHeld r l).thm = s.thm := rfl
@[simp] theorem State.setHeld_pwr : (s.setHeld r l).pwr = s.pwr := rfl
@[simp] theorem State.setHeld_chy : (s.setHeld r l).chy = s.chy := rfl
@[simp] theorem State.setHeld_jtag : (s.setHeld r l).jtag = s.jtag := rfl
@[simp] theorem State.setHeld_off : (s.setHeld r l).off = s.off := rfl
@[simp] theorem State.setHeld_out : (s.setHeld r l).out = s.out := rfl
@[simp] theorem State.setHeld_fresh : (s.setHeld r l).fresh = s.fresh := rfl
@[simp] theorem State.setHeld_pending : (s.setHeld r l).pending = s.pending := rfl
end

section
variable (s : State) (d : Nat) (l : List BurstSt)
@[simp] theorem State.setBursts_regs : (s.setBursts d l).regs = s.regs := rfl
@[simp] theorem State.setBursts_latches : (s.setBursts d l).latches = s.latches := rfl
@[simp] theorem State.setBursts_time : (s.setBursts d l).time = s.time := rfl
@[simp] theorem State.setBursts_ant : (s.setBursts d l).ant = s.ant := rfl
@[simp] theorem State.setBursts_ctxs : (s.setBursts d l).ctxs = s.ctxs := rfl
@[simp] theorem State.setBursts_refs : (s.setBursts d l).refs = s.refs := rfl
@[simp] theorem State.setBursts_cal : (s.setBursts d l).cal = s.cal := rfl
@[simp] theorem State.setBursts_pulses : (s.setBursts d l).pulses = s.pulses := rfl
@[simp] theorem State.setBursts_gpis : (s.setBursts d l).gpis = s.gpis := rfl
@[simp] theorem State.setBursts_otu : (s.setBursts d l).otu = s.otu := rfl
@[simp] theorem State.setBursts_emi : (s.setBursts d l).emi = s.emi := rfl
@[simp] theorem State.setBursts_wings : (s.setBursts d l).wings = s.wings := rfl
@[simp] theorem State.setBursts_dmxs : (s.setBursts d l).dmxs = s.dmxs := rfl
@[simp] theorem State.setBursts_selfCal : (s.setBursts d l).selfCal = s.selfCal := rfl
@[simp] theorem State.setBursts_pix : (s.setBursts d l).pix = s.pix := rfl
@[simp] theorem State.setBursts_vins : (s.setBursts d l).vins = s.vins := rfl
@[simp] theorem State.setBursts_flows : (s.setBursts d l).flows = s.flows := rfl
@[simp] theorem State.setBursts_trk : (s.setBursts d l).trk = s.trk := rfl
@[simp] theorem State.setBursts_ltc : (s.setBursts d l).ltc = s.ltc := rfl
@[simp] theorem State.setBursts_aesHeard : (s.setBursts d l).aesHeard = s.aesHeard := rfl
@[simp] theorem State.setBursts_host : (s.setBursts d l).host = s.host := rfl
@[simp] theorem State.setBursts_store : (s.setBursts d l).store = s.store := rfl
@[simp] theorem State.setBursts_arb : (s.setBursts d l).arb = { s.arb with bursts := tblSet s.arb.bursts [] d l } := rfl
@[simp] theorem State.setBursts_sealedRegions : (s.setBursts d l).sealedRegions = s.sealedRegions := rfl
@[simp] theorem State.setBursts_roo : (s.setBursts d l).roo = s.roo := rfl
@[simp] theorem State.setBursts_macs : (s.setBursts d l).macs = s.macs := rfl
@[simp] theorem State.setBursts_mscs : (s.setBursts d l).mscs = s.mscs := rfl
@[simp] theorem State.setBursts_hawks : (s.setBursts d l).hawks = s.hawks := rfl
@[simp] theorem State.setBursts_l2 : (s.setBursts d l).l2 = s.l2 := rfl
@[simp] theorem State.setBursts_tsk : (s.setBursts d l).tsk = s.tsk := rfl
@[simp] theorem State.setBursts_queues : (s.setBursts d l).queues = s.queues := rfl
@[simp] theorem State.setBursts_queuePops : (s.setBursts d l).queuePops = s.queuePops := rfl
@[simp] theorem State.setBursts_thm : (s.setBursts d l).thm = s.thm := rfl
@[simp] theorem State.setBursts_pwr : (s.setBursts d l).pwr = s.pwr := rfl
@[simp] theorem State.setBursts_chy : (s.setBursts d l).chy = s.chy := rfl
@[simp] theorem State.setBursts_jtag : (s.setBursts d l).jtag = s.jtag := rfl
@[simp] theorem State.setBursts_off : (s.setBursts d l).off = s.off := rfl
@[simp] theorem State.setBursts_out : (s.setBursts d l).out = s.out := rfl
@[simp] theorem State.setBursts_fresh : (s.setBursts d l).fresh = s.fresh := rfl
@[simp] theorem State.setBursts_pending : (s.setBursts d l).pending = s.pending := rfl
end

section
variable (s : State) (d t : Nat)
@[simp] theorem State.setSlot_regs : (s.setSlot d t).regs = s.regs := rfl
@[simp] theorem State.setSlot_latches : (s.setSlot d t).latches = s.latches := rfl
@[simp] theorem State.setSlot_time : (s.setSlot d t).time = s.time := rfl
@[simp] theorem State.setSlot_ant : (s.setSlot d t).ant = s.ant := rfl
@[simp] theorem State.setSlot_ctxs : (s.setSlot d t).ctxs = s.ctxs := rfl
@[simp] theorem State.setSlot_refs : (s.setSlot d t).refs = s.refs := rfl
@[simp] theorem State.setSlot_cal : (s.setSlot d t).cal = s.cal := rfl
@[simp] theorem State.setSlot_pulses : (s.setSlot d t).pulses = s.pulses := rfl
@[simp] theorem State.setSlot_gpis : (s.setSlot d t).gpis = s.gpis := rfl
@[simp] theorem State.setSlot_otu : (s.setSlot d t).otu = s.otu := rfl
@[simp] theorem State.setSlot_emi : (s.setSlot d t).emi = s.emi := rfl
@[simp] theorem State.setSlot_wings : (s.setSlot d t).wings = s.wings := rfl
@[simp] theorem State.setSlot_dmxs : (s.setSlot d t).dmxs = s.dmxs := rfl
@[simp] theorem State.setSlot_selfCal : (s.setSlot d t).selfCal = s.selfCal := rfl
@[simp] theorem State.setSlot_pix : (s.setSlot d t).pix = s.pix := rfl
@[simp] theorem State.setSlot_vins : (s.setSlot d t).vins = s.vins := rfl
@[simp] theorem State.setSlot_flows : (s.setSlot d t).flows = s.flows := rfl
@[simp] theorem State.setSlot_trk : (s.setSlot d t).trk = s.trk := rfl
@[simp] theorem State.setSlot_ltc : (s.setSlot d t).ltc = s.ltc := rfl
@[simp] theorem State.setSlot_aesHeard : (s.setSlot d t).aesHeard = s.aesHeard := rfl
@[simp] theorem State.setSlot_host : (s.setSlot d t).host = s.host := rfl
@[simp] theorem State.setSlot_store : (s.setSlot d t).store = s.store := rfl
@[simp] theorem State.setSlot_arb : (s.setSlot d t).arb = { s.arb with slots := tblSet s.arb.slots 0 d t } := rfl
@[simp] theorem State.setSlot_sealedRegions : (s.setSlot d t).sealedRegions = s.sealedRegions := rfl
@[simp] theorem State.setSlot_roo : (s.setSlot d t).roo = s.roo := rfl
@[simp] theorem State.setSlot_macs : (s.setSlot d t).macs = s.macs := rfl
@[simp] theorem State.setSlot_mscs : (s.setSlot d t).mscs = s.mscs := rfl
@[simp] theorem State.setSlot_hawks : (s.setSlot d t).hawks = s.hawks := rfl
@[simp] theorem State.setSlot_l2 : (s.setSlot d t).l2 = s.l2 := rfl
@[simp] theorem State.setSlot_tsk : (s.setSlot d t).tsk = s.tsk := rfl
@[simp] theorem State.setSlot_queues : (s.setSlot d t).queues = s.queues := rfl
@[simp] theorem State.setSlot_queuePops : (s.setSlot d t).queuePops = s.queuePops := rfl
@[simp] theorem State.setSlot_thm : (s.setSlot d t).thm = s.thm := rfl
@[simp] theorem State.setSlot_pwr : (s.setSlot d t).pwr = s.pwr := rfl
@[simp] theorem State.setSlot_chy : (s.setSlot d t).chy = s.chy := rfl
@[simp] theorem State.setSlot_jtag : (s.setSlot d t).jtag = s.jtag := rfl
@[simp] theorem State.setSlot_off : (s.setSlot d t).off = s.off := rfl
@[simp] theorem State.setSlot_out : (s.setSlot d t).out = s.out := rfl
@[simp] theorem State.setSlot_fresh : (s.setSlot d t).fresh = s.fresh := rfl
@[simp] theorem State.setSlot_pending : (s.setSlot d t).pending = s.pending := rfl
end

section
variable (s : State) (x : ThmSt)
@[simp] theorem State.setThm_regs : (s.setThm x).regs = s.regs := rfl
@[simp] theorem State.setThm_latches : (s.setThm x).latches = s.latches := rfl
@[simp] theorem State.setThm_time : (s.setThm x).time = s.time := rfl
@[simp] theorem State.setThm_ant : (s.setThm x).ant = s.ant := rfl
@[simp] theorem State.setThm_ctxs : (s.setThm x).ctxs = s.ctxs := rfl
@[simp] theorem State.setThm_refs : (s.setThm x).refs = s.refs := rfl
@[simp] theorem State.setThm_cal : (s.setThm x).cal = s.cal := rfl
@[simp] theorem State.setThm_pulses : (s.setThm x).pulses = s.pulses := rfl
@[simp] theorem State.setThm_gpis : (s.setThm x).gpis = s.gpis := rfl
@[simp] theorem State.setThm_otu : (s.setThm x).otu = s.otu := rfl
@[simp] theorem State.setThm_emi : (s.setThm x).emi = s.emi := rfl
@[simp] theorem State.setThm_wings : (s.setThm x).wings = s.wings := rfl
@[simp] theorem State.setThm_dmxs : (s.setThm x).dmxs = s.dmxs := rfl
@[simp] theorem State.setThm_selfCal : (s.setThm x).selfCal = s.selfCal := rfl
@[simp] theorem State.setThm_pix : (s.setThm x).pix = s.pix := rfl
@[simp] theorem State.setThm_vins : (s.setThm x).vins = s.vins := rfl
@[simp] theorem State.setThm_flows : (s.setThm x).flows = s.flows := rfl
@[simp] theorem State.setThm_trk : (s.setThm x).trk = s.trk := rfl
@[simp] theorem State.setThm_ltc : (s.setThm x).ltc = s.ltc := rfl
@[simp] theorem State.setThm_aesHeard : (s.setThm x).aesHeard = s.aesHeard := rfl
@[simp] theorem State.setThm_host : (s.setThm x).host = s.host := rfl
@[simp] theorem State.setThm_store : (s.setThm x).store = s.store := rfl
@[simp] theorem State.setThm_arb : (s.setThm x).arb = s.arb := rfl
@[simp] theorem State.setThm_sealedRegions : (s.setThm x).sealedRegions = s.sealedRegions := rfl
@[simp] theorem State.setThm_roo : (s.setThm x).roo = s.roo := rfl
@[simp] theorem State.setThm_macs : (s.setThm x).macs = s.macs := rfl
@[simp] theorem State.setThm_mscs : (s.setThm x).mscs = s.mscs := rfl
@[simp] theorem State.setThm_hawks : (s.setThm x).hawks = s.hawks := rfl
@[simp] theorem State.setThm_l2 : (s.setThm x).l2 = s.l2 := rfl
@[simp] theorem State.setThm_tsk : (s.setThm x).tsk = s.tsk := rfl
@[simp] theorem State.setThm_queues : (s.setThm x).queues = s.queues := rfl
@[simp] theorem State.setThm_queuePops : (s.setThm x).queuePops = s.queuePops := rfl
@[simp] theorem State.setThm_thm : (s.setThm x).thm = x := rfl
@[simp] theorem State.setThm_pwr : (s.setThm x).pwr = s.pwr := rfl
@[simp] theorem State.setThm_chy : (s.setThm x).chy = s.chy := rfl
@[simp] theorem State.setThm_jtag : (s.setThm x).jtag = s.jtag := rfl
@[simp] theorem State.setThm_off : (s.setThm x).off = s.off := rfl
@[simp] theorem State.setThm_out : (s.setThm x).out = s.out := rfl
@[simp] theorem State.setThm_fresh : (s.setThm x).fresh = s.fresh := rfl
@[simp] theorem State.setThm_pending : (s.setThm x).pending = s.pending := rfl
end

section
variable (s : State) (x : TrkSt)
@[simp] theorem State.setTrk_regs : (s.setTrk x).regs = s.regs := rfl
@[simp] theorem State.setTrk_latches : (s.setTrk x).latches = s.latches := rfl
@[simp] theorem State.setTrk_time : (s.setTrk x).time = s.time := rfl
@[simp] theorem State.setTrk_ant : (s.setTrk x).ant = s.ant := rfl
@[simp] theorem State.setTrk_ctxs : (s.setTrk x).ctxs = s.ctxs := rfl
@[simp] theorem State.setTrk_refs : (s.setTrk x).refs = s.refs := rfl
@[simp] theorem State.setTrk_cal : (s.setTrk x).cal = s.cal := rfl
@[simp] theorem State.setTrk_pulses : (s.setTrk x).pulses = s.pulses := rfl
@[simp] theorem State.setTrk_gpis : (s.setTrk x).gpis = s.gpis := rfl
@[simp] theorem State.setTrk_otu : (s.setTrk x).otu = s.otu := rfl
@[simp] theorem State.setTrk_emi : (s.setTrk x).emi = s.emi := rfl
@[simp] theorem State.setTrk_wings : (s.setTrk x).wings = s.wings := rfl
@[simp] theorem State.setTrk_dmxs : (s.setTrk x).dmxs = s.dmxs := rfl
@[simp] theorem State.setTrk_selfCal : (s.setTrk x).selfCal = s.selfCal := rfl
@[simp] theorem State.setTrk_pix : (s.setTrk x).pix = s.pix := rfl
@[simp] theorem State.setTrk_vins : (s.setTrk x).vins = s.vins := rfl
@[simp] theorem State.setTrk_flows : (s.setTrk x).flows = s.flows := rfl
@[simp] theorem State.setTrk_trk : (s.setTrk x).trk = x := rfl
@[simp] theorem State.setTrk_ltc : (s.setTrk x).ltc = s.ltc := rfl
@[simp] theorem State.setTrk_aesHeard : (s.setTrk x).aesHeard = s.aesHeard := rfl
@[simp] theorem State.setTrk_host : (s.setTrk x).host = s.host := rfl
@[simp] theorem State.setTrk_store : (s.setTrk x).store = s.store := rfl
@[simp] theorem State.setTrk_arb : (s.setTrk x).arb = s.arb := rfl
@[simp] theorem State.setTrk_sealedRegions : (s.setTrk x).sealedRegions = s.sealedRegions := rfl
@[simp] theorem State.setTrk_roo : (s.setTrk x).roo = s.roo := rfl
@[simp] theorem State.setTrk_macs : (s.setTrk x).macs = s.macs := rfl
@[simp] theorem State.setTrk_mscs : (s.setTrk x).mscs = s.mscs := rfl
@[simp] theorem State.setTrk_hawks : (s.setTrk x).hawks = s.hawks := rfl
@[simp] theorem State.setTrk_l2 : (s.setTrk x).l2 = s.l2 := rfl
@[simp] theorem State.setTrk_tsk : (s.setTrk x).tsk = s.tsk := rfl
@[simp] theorem State.setTrk_queues : (s.setTrk x).queues = s.queues := rfl
@[simp] theorem State.setTrk_queuePops : (s.setTrk x).queuePops = s.queuePops := rfl
@[simp] theorem State.setTrk_thm : (s.setTrk x).thm = s.thm := rfl
@[simp] theorem State.setTrk_pwr : (s.setTrk x).pwr = s.pwr := rfl
@[simp] theorem State.setTrk_chy : (s.setTrk x).chy = s.chy := rfl
@[simp] theorem State.setTrk_jtag : (s.setTrk x).jtag = s.jtag := rfl
@[simp] theorem State.setTrk_off : (s.setTrk x).off = s.off := rfl
@[simp] theorem State.setTrk_out : (s.setTrk x).out = s.out := rfl
@[simp] theorem State.setTrk_fresh : (s.setTrk x).fresh = s.fresh := rfl
@[simp] theorem State.setTrk_pending : (s.setTrk x).pending = s.pending := rfl
end

section
variable (s : State) (n a : Nat) (l : Option LineSt)
@[simp] theorem State.setL1_regs : (s.setL1 n a l).regs = s.regs := rfl
@[simp] theorem State.setL1_latches : (s.setL1 n a l).latches = s.latches := rfl
@[simp] theorem State.setL1_time : (s.setL1 n a l).time = s.time := rfl
@[simp] theorem State.setL1_ant : (s.setL1 n a l).ant = s.ant := rfl
@[simp] theorem State.setL1_ctxs : (s.setL1 n a l).ctxs = s.ctxs := rfl
@[simp] theorem State.setL1_refs : (s.setL1 n a l).refs = s.refs := rfl
@[simp] theorem State.setL1_cal : (s.setL1 n a l).cal = s.cal := rfl
@[simp] theorem State.setL1_pulses : (s.setL1 n a l).pulses = s.pulses := rfl
@[simp] theorem State.setL1_gpis : (s.setL1 n a l).gpis = s.gpis := rfl
@[simp] theorem State.setL1_otu : (s.setL1 n a l).otu = s.otu := rfl
@[simp] theorem State.setL1_emi : (s.setL1 n a l).emi = s.emi := rfl
@[simp] theorem State.setL1_wings : (s.setL1 n a l).wings = s.wings := rfl
@[simp] theorem State.setL1_dmxs : (s.setL1 n a l).dmxs = s.dmxs := rfl
@[simp] theorem State.setL1_selfCal : (s.setL1 n a l).selfCal = s.selfCal := rfl
@[simp] theorem State.setL1_pix : (s.setL1 n a l).pix = s.pix := rfl
@[simp] theorem State.setL1_vins : (s.setL1 n a l).vins = s.vins := rfl
@[simp] theorem State.setL1_flows : (s.setL1 n a l).flows = s.flows := rfl
@[simp] theorem State.setL1_trk : (s.setL1 n a l).trk = s.trk := rfl
@[simp] theorem State.setL1_ltc : (s.setL1 n a l).ltc = s.ltc := rfl
@[simp] theorem State.setL1_aesHeard : (s.setL1 n a l).aesHeard = s.aesHeard := rfl
@[simp] theorem State.setL1_host : (s.setL1 n a l).host = s.host := rfl
@[simp] theorem State.setL1_store : (s.setL1 n a l).store = s.store := rfl
@[simp] theorem State.setL1_arb : (s.setL1 n a l).arb = s.arb := rfl
@[simp] theorem State.setL1_sealedRegions : (s.setL1 n a l).sealedRegions = s.sealedRegions := rfl
@[simp] theorem State.setL1_roo : (s.setL1 n a l).roo = s.roo := rfl
@[simp] theorem State.setL1_macs : (s.setL1 n a l).macs = s.macs := rfl
@[simp] theorem State.setL1_mscs : (s.setL1 n a l).mscs = s.mscs := rfl
@[simp] theorem State.setL1_l2 : (s.setL1 n a l).l2 = s.l2 := rfl
@[simp] theorem State.setL1_tsk : (s.setL1 n a l).tsk = s.tsk := rfl
@[simp] theorem State.setL1_queues : (s.setL1 n a l).queues = s.queues := rfl
@[simp] theorem State.setL1_queuePops : (s.setL1 n a l).queuePops = s.queuePops := rfl
@[simp] theorem State.setL1_thm : (s.setL1 n a l).thm = s.thm := rfl
@[simp] theorem State.setL1_pwr : (s.setL1 n a l).pwr = s.pwr := rfl
@[simp] theorem State.setL1_chy : (s.setL1 n a l).chy = s.chy := rfl
@[simp] theorem State.setL1_jtag : (s.setL1 n a l).jtag = s.jtag := rfl
@[simp] theorem State.setL1_off : (s.setL1 n a l).off = s.off := rfl
@[simp] theorem State.setL1_out : (s.setL1 n a l).out = s.out := rfl
@[simp] theorem State.setL1_fresh : (s.setL1 n a l).fresh = s.fresh := rfl
@[simp] theorem State.setL1_pending : (s.setL1 n a l).pending = s.pending := rfl
end

section
variable (s : State) (n k v : Nat)
@[simp] theorem State.setCsr_regs : (s.setCsr n k v).regs = s.regs := rfl
@[simp] theorem State.setCsr_latches : (s.setCsr n k v).latches = s.latches := rfl
@[simp] theorem State.setCsr_time : (s.setCsr n k v).time = s.time := rfl
@[simp] theorem State.setCsr_ant : (s.setCsr n k v).ant = s.ant := rfl
@[simp] theorem State.setCsr_ctxs : (s.setCsr n k v).ctxs = s.ctxs := rfl
@[simp] theorem State.setCsr_refs : (s.setCsr n k v).refs = s.refs := rfl
@[simp] theorem State.setCsr_cal : (s.setCsr n k v).cal = s.cal := rfl
@[simp] theorem State.setCsr_pulses : (s.setCsr n k v).pulses = s.pulses := rfl
@[simp] theorem State.setCsr_gpis : (s.setCsr n k v).gpis = s.gpis := rfl
@[simp] theorem State.setCsr_otu : (s.setCsr n k v).otu = s.otu := rfl
@[simp] theorem State.setCsr_emi : (s.setCsr n k v).emi = s.emi := rfl
@[simp] theorem State.setCsr_wings : (s.setCsr n k v).wings = s.wings := rfl
@[simp] theorem State.setCsr_dmxs : (s.setCsr n k v).dmxs = s.dmxs := rfl
@[simp] theorem State.setCsr_selfCal : (s.setCsr n k v).selfCal = s.selfCal := rfl
@[simp] theorem State.setCsr_pix : (s.setCsr n k v).pix = s.pix := rfl
@[simp] theorem State.setCsr_vins : (s.setCsr n k v).vins = s.vins := rfl
@[simp] theorem State.setCsr_flows : (s.setCsr n k v).flows = s.flows := rfl
@[simp] theorem State.setCsr_trk : (s.setCsr n k v).trk = s.trk := rfl
@[simp] theorem State.setCsr_ltc : (s.setCsr n k v).ltc = s.ltc := rfl
@[simp] theorem State.setCsr_aesHeard : (s.setCsr n k v).aesHeard = s.aesHeard := rfl
@[simp] theorem State.setCsr_host : (s.setCsr n k v).host = s.host := rfl
@[simp] theorem State.setCsr_store : (s.setCsr n k v).store = s.store := rfl
@[simp] theorem State.setCsr_arb : (s.setCsr n k v).arb = s.arb := rfl
@[simp] theorem State.setCsr_sealedRegions : (s.setCsr n k v).sealedRegions = s.sealedRegions := rfl
@[simp] theorem State.setCsr_roo : (s.setCsr n k v).roo = s.roo := rfl
@[simp] theorem State.setCsr_macs : (s.setCsr n k v).macs = s.macs := rfl
@[simp] theorem State.setCsr_mscs : (s.setCsr n k v).mscs = s.mscs := rfl
@[simp] theorem State.setCsr_l2 : (s.setCsr n k v).l2 = s.l2 := rfl
@[simp] theorem State.setCsr_tsk : (s.setCsr n k v).tsk = s.tsk := rfl
@[simp] theorem State.setCsr_queues : (s.setCsr n k v).queues = s.queues := rfl
@[simp] theorem State.setCsr_queuePops : (s.setCsr n k v).queuePops = s.queuePops := rfl
@[simp] theorem State.setCsr_thm : (s.setCsr n k v).thm = s.thm := rfl
@[simp] theorem State.setCsr_pwr : (s.setCsr n k v).pwr = s.pwr := rfl
@[simp] theorem State.setCsr_chy : (s.setCsr n k v).chy = s.chy := rfl
@[simp] theorem State.setCsr_jtag : (s.setCsr n k v).jtag = s.jtag := rfl
@[simp] theorem State.setCsr_off : (s.setCsr n k v).off = s.off := rfl
@[simp] theorem State.setCsr_out : (s.setCsr n k v).out = s.out := rfl
@[simp] theorem State.setCsr_fresh : (s.setCsr n k v).fresh = s.fresh := rfl
@[simp] theorem State.setCsr_pending : (s.setCsr n k v).pending = s.pending := rfl
end

section
variable (s : State) (k : Nat)
@[simp] theorem State.aesHear_regs : (s.aesHear k).regs = s.regs := rfl
@[simp] theorem State.aesHear_latches : (s.aesHear k).latches = s.latches := rfl
@[simp] theorem State.aesHear_time : (s.aesHear k).time = s.time := rfl
@[simp] theorem State.aesHear_ant : (s.aesHear k).ant = s.ant := rfl
@[simp] theorem State.aesHear_ctxs : (s.aesHear k).ctxs = s.ctxs := rfl
@[simp] theorem State.aesHear_refs : (s.aesHear k).refs = s.refs := rfl
@[simp] theorem State.aesHear_cal : (s.aesHear k).cal = s.cal := rfl
@[simp] theorem State.aesHear_pulses : (s.aesHear k).pulses = s.pulses := rfl
@[simp] theorem State.aesHear_gpis : (s.aesHear k).gpis = s.gpis := rfl
@[simp] theorem State.aesHear_otu : (s.aesHear k).otu = s.otu := rfl
@[simp] theorem State.aesHear_emi : (s.aesHear k).emi = s.emi := rfl
@[simp] theorem State.aesHear_wings : (s.aesHear k).wings = s.wings := rfl
@[simp] theorem State.aesHear_dmxs : (s.aesHear k).dmxs = s.dmxs := rfl
@[simp] theorem State.aesHear_selfCal : (s.aesHear k).selfCal = s.selfCal := rfl
@[simp] theorem State.aesHear_pix : (s.aesHear k).pix = s.pix := rfl
@[simp] theorem State.aesHear_vins : (s.aesHear k).vins = s.vins := rfl
@[simp] theorem State.aesHear_flows : (s.aesHear k).flows = s.flows := rfl
@[simp] theorem State.aesHear_trk : (s.aesHear k).trk = s.trk := rfl
@[simp] theorem State.aesHear_ltc : (s.aesHear k).ltc = s.ltc := rfl
@[simp] theorem State.aesHear_aesHeard : (s.aesHear k).aesHeard = tblSet s.aesHeard 0 k s.time.elapsed := rfl
@[simp] theorem State.aesHear_host : (s.aesHear k).host = s.host := rfl
@[simp] theorem State.aesHear_store : (s.aesHear k).store = s.store := rfl
@[simp] theorem State.aesHear_arb : (s.aesHear k).arb = s.arb := rfl
@[simp] theorem State.aesHear_sealedRegions : (s.aesHear k).sealedRegions = s.sealedRegions := rfl
@[simp] theorem State.aesHear_roo : (s.aesHear k).roo = s.roo := rfl
@[simp] theorem State.aesHear_macs : (s.aesHear k).macs = s.macs := rfl
@[simp] theorem State.aesHear_mscs : (s.aesHear k).mscs = s.mscs := rfl
@[simp] theorem State.aesHear_hawks : (s.aesHear k).hawks = s.hawks := rfl
@[simp] theorem State.aesHear_l2 : (s.aesHear k).l2 = s.l2 := rfl
@[simp] theorem State.aesHear_tsk : (s.aesHear k).tsk = s.tsk := rfl
@[simp] theorem State.aesHear_queues : (s.aesHear k).queues = s.queues := rfl
@[simp] theorem State.aesHear_queuePops : (s.aesHear k).queuePops = s.queuePops := rfl
@[simp] theorem State.aesHear_thm : (s.aesHear k).thm = s.thm := rfl
@[simp] theorem State.aesHear_pwr : (s.aesHear k).pwr = s.pwr := rfl
@[simp] theorem State.aesHear_chy : (s.aesHear k).chy = s.chy := rfl
@[simp] theorem State.aesHear_jtag : (s.aesHear k).jtag = s.jtag := rfl
@[simp] theorem State.aesHear_off : (s.aesHear k).off = s.off := rfl
@[simp] theorem State.aesHear_out : (s.aesHear k).out = s.out := rfl
@[simp] theorem State.aesHear_fresh : (s.aesHear k).fresh = s.fresh := rfl
@[simp] theorem State.aesHear_pending : (s.aesHear k).pending = s.pending := rfl
end

end Sys2Proof.Machine
end

