-- ==== Sys2Proof/Laws/Table.lean ====
section
/-! SUPPORT. Sparse tables: what a read gives after a write, and that every write keeps the canonical form. -/
namespace Sys2Proof.Machine

variable {α : Type}

theorem tblGet_erase_same (t : List (Nat × α)) (d : α) (k : Nat) : tblGet (tblErase t k) d k = d := by
  induction t with
  | nil => rfl
  | cons e t ih =>
    obtain ⟨a, x⟩ := e
    simp only [tblErase]
    split
    · exact ih
    · simp only [tblGet, ih, if_neg ‹_›]

theorem tblGet_erase_ne (t : List (Nat × α)) (d : α) {k j : Nat} (h : j ≠ k) : tblGet (tblErase t k) d j = tblGet t d j := by
  induction t with
  | nil => rfl
  | cons e t ih =>
    obtain ⟨a, x⟩ := e
    simp only [tblErase]
    split
    · subst_vars; simp only [tblGet, ih, if_neg (Ne.symm h)]
    · simp only [tblGet, ih]

theorem tblGet_insert_same (t : List (Nat × α)) (d v : α) (k : Nat) :
    tblGet (tblInsert (tblErase t k) k v) d k = v := by
  generalize hu : tblErase t k = u
  have hk : ∀ e ∈ u, e.1 ≠ k := by
    subst hu
    induction t with
    | nil => intro e he; cases he
    | cons e t ih =>
      obtain ⟨a, x⟩ := e
      simp only [tblErase]
      split
      · exact ih
      · intro e he
        rcases List.mem_cons.1 he with rfl | he
        · assumption
        · exact ih e he
  clear hu
  induction u with
  | nil => simp [tblInsert, tblGet]
  | cons e u ih =>
    obtain ⟨a, x⟩ := e
    have ha : a ≠ k := hk (a, x) (List.mem_cons_self ..)
    simp only [tblInsert]
    split
    · simp [tblGet]
    · simp only [tblGet, if_neg ha]
      exact ih (fun e he => hk e (List.mem_cons_of_mem _ he))

theorem tblGet_insert_ne (t : List (Nat × α)) (d v : α) {k j : Nat} (h : j ≠ k) : tblGet (tblInsert t k v) d j = tblGet t d j := by
  induction t with
  | nil => simp [tblInsert, tblGet, Ne.symm h]
  | cons e t ih =>
    obtain ⟨a, x⟩ := e
    simp only [tblInsert]
    split
    · simp [tblGet, Ne.symm h]
    · simp only [tblGet, ih]

/-- A key that has been written reads the value written. -/
@[simp] theorem tblGet_set_same [DecidableEq α] (t : List (Nat × α)) (d : α) (k : Nat) (v : α) : tblGet (tblSet t d k v) d k = v := by
  unfold tblSet
  split
  · subst_vars; exact tblGet_erase_same ..
  · exact tblGet_insert_same ..

/-- A write of one key leaves every other key as it was. -/
theorem tblGet_set_ne [DecidableEq α] (t : List (Nat × α)) (d d' : α) {k j : Nat} (v : α) (h : j ≠ k) :
    tblGet (tblSet t d k v) d' j = tblGet t d' j := by
  unfold tblSet
  split
  · exact tblGet_erase_ne _ _ h
  · rw [tblGet_insert_ne _ _ _ h, tblGet_erase_ne _ _ h]

theorem tblSortedFrom_mono {b c : Nat} (h : b ≤ c) : ∀ (t : List (Nat × α)), tblSortedFrom c t = true → tblSortedFrom b t = true
  | [], _ => rfl
  | (a, x) :: t, hs => by
    simp only [tblSortedFrom, Bool.and_eq_true, decide_eq_true_eq] at hs ⊢
    exact ⟨by omega, hs.2⟩

theorem tblSortedFrom_erase (k : Nat) : ∀ (b : Nat) (t : List (Nat × α)), tblSortedFrom b t = true → tblSortedFrom b (tblErase t k) = true
  | _, [], _ => rfl
  | b, (a, x) :: t, hs => by
    simp only [tblSortedFrom, Bool.and_eq_true, decide_eq_true_eq] at hs
    simp only [tblErase]
    split
    · exact tblSortedFrom_mono (by omega) _ (tblSortedFrom_erase k _ t hs.2)
    · simp only [tblSortedFrom, Bool.and_eq_true, decide_eq_true_eq]
      exact ⟨hs.1, tblSortedFrom_erase k _ t hs.2⟩

theorem tblSortedFrom_insert (k : Nat) (v : α) : ∀ (b : Nat) (t : List (Nat × α)), b ≤ k → tblSortedFrom b t = true →
    (∀ e ∈ t, e.1 ≠ k) → tblSortedFrom b (tblInsert t k v) = true
  | _, [], hb, _, _ => by simp [tblInsert, tblSortedFrom, hb]
  | b, (a, x) :: t, hb, hs, hk => by
    simp only [tblSortedFrom, Bool.and_eq_true, decide_eq_true_eq] at hs
    have ha : a ≠ k := hk (a, x) (List.mem_cons_self ..)
    simp only [tblInsert]
    split
    · simp only [tblSortedFrom, Bool.and_eq_true, decide_eq_true_eq]
      exact ⟨hb, by omega, hs.2⟩
    · simp only [tblSortedFrom, Bool.and_eq_true, decide_eq_true_eq]
      exact ⟨hs.1, tblSortedFrom_insert k v _ t (by omega) hs.2 (fun e he => hk e (List.mem_cons_of_mem _ he))⟩

theorem mem_tblErase {t : List (Nat × α)} {k : Nat} {e : Nat × α} (h : e ∈ tblErase t k) : e ∈ t ∧ e.1 ≠ k := by
  induction t with
  | nil => cases h
  | cons x t ih =>
    obtain ⟨a, y⟩ := x
    simp only [tblErase] at h
    split at h
    · exact ⟨List.mem_cons_of_mem _ (ih h).1, (ih h).2⟩
    · rcases List.mem_cons.1 h with rfl | h
      · exact ⟨List.mem_cons_self .., by assumption⟩
      · exact ⟨List.mem_cons_of_mem _ (ih h).1, (ih h).2⟩

theorem mem_tblInsert {t : List (Nat × α)} {k : Nat} {v : α} {e : Nat × α} (h : e ∈ tblInsert t k v) : e = (k, v) ∨ e ∈ t := by
  induction t with
  | nil => simpa [tblInsert] using h
  | cons x t ih =>
    obtain ⟨a, y⟩ := x
    simp only [tblInsert] at h
    split at h
    · simpa using h
    · rcases List.mem_cons.1 h with rfl | h
      · exact .inr (List.mem_cons_self ..)
      · exact (ih h).imp id (List.mem_cons_of_mem _)

/-- A write keeps the canonical form. -/
theorem tblWf_set [DecidableEq α] (d : Nat → α) (t : List (Nat × α)) (k : Nat) (v : α) (h : tblWf d t = true) :
    tblWf d (tblSet t (d k) k v) = true := by
  simp only [tblWf, Bool.and_eq_true, List.all_eq_true, decide_eq_true_eq] at h ⊢
  unfold tblSet
  split
  · exact ⟨tblSortedFrom_erase k 0 t h.1, fun e he => h.2 e (mem_tblErase he).1⟩
  · refine ⟨tblSortedFrom_insert k v 0 _ (Nat.zero_le _) (tblSortedFrom_erase k 0 t h.1) (fun e he => (mem_tblErase he).2), ?_⟩
    intro e he
    rcases mem_tblInsert he with rfl | he
    · assumption
    · exact h.2 e (mem_tblErase he).1

/-- Keeping some of the entries keeps the canonical form. -/
theorem tblSortedFrom_filter (p : Nat × α → Bool) : ∀ (b : Nat) (t : List (Nat × α)), tblSortedFrom b t = true →
    tblSortedFrom b (t.filter p) = true
  | _, [], _ => rfl
  | b, (a, x) :: t, hs => by
    simp only [tblSortedFrom, Bool.and_eq_true, decide_eq_true_eq] at hs
    simp only [List.filter]
    split
    · simp only [tblSortedFrom, Bool.and_eq_true, decide_eq_true_eq]
      exact ⟨hs.1, tblSortedFrom_filter p _ t hs.2⟩
    · exact tblSortedFrom_mono (by omega) _ (tblSortedFrom_filter p _ t hs.2)

theorem tblWf_filter [DecidableEq α] (d : Nat → α) (t : List (Nat × α)) (p : Nat × α → Bool) (h : tblWf d t = true) :
    tblWf d (t.filter p) = true := by
  simp only [tblWf, Bool.and_eq_true, List.all_eq_true, decide_eq_true_eq] at h ⊢
  exact ⟨tblSortedFrom_filter p 0 t h.1, fun e he => h.2 e (List.mem_filter.1 he).1⟩

/-! ### Bit fields -/

theorem withBits_split (w lsb width v : Nat) :
    withBits w lsb width v = (w / 2 ^ (lsb + width) * 2 ^ width + v % 2 ^ width) * 2 ^ lsb + w % 2 ^ lsb := by
  simp only [withBits, Nat.pow_add, Nat.add_mul, Nat.mul_assoc, Nat.mul_comm (2 ^ width) (2 ^ lsb)]

/-- The bits replaced read as the value put there. -/
@[simp] theorem bitsOf_withBits (w lsb width v : Nat) : bitsOf (withBits w lsb width v) lsb width = v % 2 ^ width := by
  have h2 : 0 < 2 ^ lsb := Nat.two_pow_pos lsb
  rw [withBits_split, bitsOf, Nat.add_comm, Nat.add_mul_div_right _ _ h2, Nat.div_eq_of_lt (Nat.mod_lt _ h2), Nat.zero_add,
    Nat.add_comm, Nat.add_mul_mod_self_right, Nat.mod_mod]

/-- Bits below those replaced stay. -/
theorem bitsOf_withBits_below (w lsb width v l n : Nat) (h : l + n ≤ lsb) : bitsOf (withBits w lsb width v) l n = bitsOf w l n := by
  have hp : (2 : Nat) ^ lsb = 2 ^ (lsb - (l + n)) * 2 ^ n * 2 ^ l := by
    rw [← Nat.pow_add, ← Nat.pow_add]; congr 1; omega
  have hl : 0 < 2 ^ l := Nat.two_pow_pos l
  simp only [bitsOf]
  have hx : ∀ x, (x * 2 ^ lsb + w % 2 ^ lsb) / 2 ^ l % 2 ^ n = w % 2 ^ lsb / 2 ^ l % 2 ^ n := by
    intro x
    rw [show x * 2 ^ lsb = x * 2 ^ (lsb - (l + n)) * 2 ^ n * 2 ^ l by rw [hp]; simp only [Nat.mul_assoc], Nat.add_comm,
      Nat.add_mul_div_right _ _ hl, Nat.add_mul_mod_self_right]
  rw [withBits_split, hx, ← hx (w / 2 ^ lsb), Nat.div_add_mod' w (2 ^ lsb)]

/-- Bits above those replaced stay. -/
theorem bitsOf_withBits_above (w lsb width v l n : Nat) (h : lsb + width ≤ l) : bitsOf (withBits w lsb width v) l n = bitsOf w l n := by
  have h2 : 0 < 2 ^ lsb := Nat.two_pow_pos lsb
  have hw : 0 < 2 ^ width := Nat.two_pow_pos width
  have hp : (2 : Nat) ^ l = 2 ^ lsb * 2 ^ width * 2 ^ (l - (lsb + width)) := by
    rw [← Nat.pow_add, ← Nat.pow_add]; congr 1; omega
  simp only [bitsOf]
  congr 1
  rw [withBits_split, hp, ← Nat.div_div_eq_div_mul, ← Nat.div_div_eq_div_mul, Nat.add_comm, Nat.add_mul_div_right _ _ h2,
    Nat.div_eq_of_lt (Nat.mod_lt _ h2), Nat.zero_add, Nat.add_comm, Nat.add_mul_div_right _ _ hw,
    Nat.div_eq_of_lt (Nat.mod_lt _ hw), Nat.zero_add, Nat.pow_add, ← Nat.div_div_eq_div_mul, ← Nat.div_div_eq_div_mul,
    ← Nat.div_div_eq_div_mul]

theorem withBits_lt (w lsb width v : Nat) {n : Nat} (hw : w < 2 ^ n) (h : lsb + width ≤ n) : withBits w lsb width v < 2 ^ n := by
  have hv : v % 2 ^ width < 2 ^ width := Nat.mod_lt _ (Nat.two_pow_pos _)
  have hl : w % 2 ^ lsb < 2 ^ lsb := Nat.mod_lt _ (Nat.two_pow_pos _)
  have hh : w / 2 ^ (lsb + width) < 2 ^ (n - (lsb + width)) := by
    apply Nat.div_lt_of_lt_mul
    rw [← Nat.pow_add, show lsb + width + (n - (lsb + width)) = n by omega]
    exact hw
  have e1 : (v % 2 ^ width + 1) * 2 ^ lsb ≤ 2 ^ (lsb + width) := by
    rw [Nat.pow_add, Nat.mul_comm (2 ^ lsb)]
    exact Nat.mul_le_mul_right _ hv
  have e2 : (w / 2 ^ (lsb + width) + 1) * 2 ^ (lsb + width) ≤ 2 ^ n := by
    calc _ ≤ 2 ^ (n - (lsb + width)) * 2 ^ (lsb + width) := Nat.mul_le_mul_right _ hh
      _ = 2 ^ n := by rw [← Nat.pow_add]; congr 1; omega
  simp only [withBits]
  rw [Nat.add_mul] at e1 e2
  omega

end Sys2Proof.Machine
end

