-- ==== Sys2Proof/Laws/Reg.lean ====
section
/-! SUPPORT. Registers and their fields: what a read gives after a write. -/
namespace Sys2Proof.Machine

@[simp] theorem State.word_setWord_same (s : State) (off : Nat) (w : Word) : (s.setWord off w).word off = w := by
  simp [State.word, State.setWord]

theorem State.word_setWord_ne (s : State) {off o : Nat} (w : Word) (h : o ≠ off) : (s.setWord off w).word o = s.word o := by
  simp only [State.word, State.setWord]
  exact tblGet_set_ne _ _ _ _ h

theorem State.word_wr_ne (s : State) (f : Fld) (v : Nat) {o : Nat} (h : o ≠ f.off) : (s.wr f v).word o = s.word o :=
  s.word_setWord_ne _ h

theorem State.word_wr_same (s : State) (f : Fld) (v : Nat) (h : f.lsb + f.width ≤ 32) :
    ((s.wr f v).word f.off).toNat = withBits (s.word f.off).toNat f.lsb f.width v := by
  have hb : withBits (s.word f.off).toNat f.lsb f.width v < 2 ^ 32 := withBits_lt _ _ _ _ (s.word f.off).isLt h
  simp only [State.wr, State.word_setWord_same, BitVec.toNat_ofNat]
  exact Nat.mod_eq_of_lt hb

/-- A field reads the value written to it, reduced to its width. -/
theorem State.rd_wr_same (s : State) (f : Fld) (v : Nat) (h : f.lsb + f.width ≤ 32) : (s.wr f v).rd f = v % 2 ^ f.width := by
  simp only [State.rd, s.word_wr_same f v h, bitsOf_withBits]

/-- A field of another register reads as before. -/
theorem State.rd_wr_off (s : State) (f g : Fld) (v : Nat) (h : g.off ≠ f.off) : (s.wr f v).rd g = s.rd g := by
  simp only [State.rd, s.word_wr_ne f v h]

/-- A field of the same register that shares no bit with the one written reads as before. -/
theorem State.rd_wr_bits (s : State) (f g : Fld) (v : Nat) (hf : f.lsb + f.width ≤ 32)
    (h : g.lsb + g.width ≤ f.lsb ∨ f.lsb + f.width ≤ g.lsb) : (s.wr f v).rd g = s.rd g := by
  by_cases ho : g.off = f.off
  · simp only [State.rd, ho, s.word_wr_same f v hf]
    rcases h with h | h
    · exact bitsOf_withBits_below _ _ _ _ _ _ h
    · exact bitsOf_withBits_above _ _ _ _ _ _ h
  · exact s.rd_wr_off f g v ho

theorem State.rd_lt (s : State) (f : Fld) : s.rd f < 2 ^ f.width := Nat.mod_lt _ (Nat.two_pow_pos _)

/-- A field's read depends on its register's word only. -/
theorem State.rd_congr {s t : State} {f : Fld} (h : t.word f.off = s.word f.off) : t.rd f = s.rd f := by simp only [State.rd, h]

theorem State.flag_congr {s t : State} {f : Fld} (h : t.word f.off = s.word f.off) : t.flag f = s.flag f := by
  simp only [State.flag, State.rd_congr h]

/-- A one-bit field reads the truth value written to it. -/
theorem State.flag_setFlag_same (s : State) (f : Fld) (b : Bool) (h : f.lsb + f.width ≤ 32) (hw : f.width = 1) :
    (s.setFlag f b).flag f = b := by
  simp only [State.setFlag, State.flag, s.rd_wr_same f _ h, hw]
  cases b <;> decide

theorem State.flag_setFlag_off (s : State) (f g : Fld) (b : Bool) (h : g.off ≠ f.off) : (s.setFlag f b).flag g = s.flag g := by
  simp only [State.setFlag, State.flag, s.rd_wr_off f g _ h]

theorem State.flag_wr_off (s : State) (f g : Fld) (v : Nat) (h : g.off ≠ f.off) : (s.wr f v).flag g = s.flag g := by
  simp only [State.flag, s.rd_wr_off f g _ h]

theorem State.rd_setFlag_off (s : State) (f g : Fld) (b : Bool) (h : g.off ≠ f.off) : (s.setFlag f b).rd g = s.rd g :=
  s.rd_wr_off f g _ h

/-- A saturating counter after a count. -/
theorem State.rd_count_same (s : State) (f : Fld) (n : Nat) (h : f.lsb + f.width ≤ 32) :
    (s.count f n).rd f = min (s.rd f + n) (2 ^ f.width - 1) := by
  simp only [State.count, s.rd_wr_same f _ h, satAdd]
  have : 0 < 2 ^ f.width := Nat.two_pow_pos _
  exact Nat.mod_eq_of_lt (by omega)

/-- Writing a field keeps the canonical form. -/
theorem State.regs_wf_setWord (s : State) (off : Nat) (w : Word) (h : tblWf regReset s.regs = true) :
    tblWf regReset (s.setWord off w).regs = true := tblWf_set regReset s.regs off w h

theorem State.regs_wf_wr (s : State) (f : Fld) (v : Nat) (h : tblWf regReset s.regs = true) :
    tblWf regReset (s.wr f v).regs = true := s.regs_wf_setWord _ _ h

/-- Every byte written to the store keeps its canonical form. -/
theorem State.store_wf_setByte (s : State) (a : Nat) (b : Byte) (h : Memory.wf s.store.bytes = true) :
    Memory.wf (s.setByte a b).store.bytes = true := tblWf_set (fun _ => 0) s.store.bytes a b h

/-- A byte of the store reads what was written to it, and a write leaves every other byte. -/
@[simp] theorem State.byteAt_setByte_same (s : State) (a : Nat) (b : Byte) : (s.setByte a b).byteAt a = b := by
  simp [State.byteAt, State.setByte]

theorem State.byteAt_setByte_ne (s : State) {a x : Nat} (b : Byte) (h : x ≠ a) : (s.setByte a b).byteAt x = s.byteAt x := by
  simp only [State.byteAt, State.setByte]
  exact tblGet_set_ne _ _ _ _ h

end Sys2Proof.Machine
end

