-- ==== Sys2Proof/Laws/Frame.lean ====
section
/-! SUPPORT. What register writes, messages, notices, log entries and completions can do, said once for each. -/
namespace Sys2Proof.Machine

variable {s t u : State} {P Q : Nat → Prop}

/-! ### The frames compose -/

theorem RegsKept.refl : RegsKept P s s := fun _ _ => rfl

theorem RegsKept.trans (h : RegsKept P s t) (h' : RegsKept P t u) : RegsKept P s u := fun o ho => (h' o ho).trans (h o ho)

theorem RegsKept.mono (hpq : ∀ o, P o → Q o) (h : RegsKept P s t) : RegsKept Q s t := fun o ho => h o (fun hp => ho (hpq o hp))

theorem OnlyRegs.refl : OnlyRegs P s s := ⟨rfl, RegsKept.refl⟩

theorem OnlyRegs.trans (h : OnlyRegs P s t) (h' : OnlyRegs P t u) : OnlyRegs P s u := by
  obtain ⟨h1, h2⟩ := h
  obtain ⟨h3, h4⟩ := h'
  refine ⟨?_, h2.trans h4⟩
  rw [h3, h1]

theorem RingFlagsKept.trans (h : RingFlagsKept s t) (h' : RingFlagsKept t u) : RingFlagsKept s u := fun n hn => (h' n hn).trans (h n hn)

theorem OnlyReports.refl : OnlyReports s s := ⟨rfl, RegsKept.refl, fun _ _ => rfl⟩

theorem OnlyReports.trans (h : OnlyReports s t) (h' : OnlyReports t u) : OnlyReports s u := by
  obtain ⟨h1, h2, h5⟩ := h
  obtain ⟨h3, h4, h6⟩ := h'
  refine ⟨?_, h2.trans h4, h5.trans h6⟩
  rw [h3, h1]

theorem RegsAndReports.trans (h : RegsAndReports P s t) (h' : RegsAndReports P t u) : RegsAndReports P s u := by
  obtain ⟨h1, h2⟩ := h
  obtain ⟨h3, h4⟩ := h'
  refine ⟨?_, h2.trans h4⟩
  rw [h3, h1]

theorem OnlyReports.regsAndReports (h : OnlyReports s t) : RegsAndReports P s t := ⟨h.1, h.2.1.mono fun _ => .inr⟩

theorem OnlyRegs.regsAndReports (h : OnlyRegs P s t) : RegsAndReports P s t := by
  obtain ⟨h1, h2⟩ := h
  exact ⟨by rw [h1], h2.mono fun _ => .inl⟩

/-- A register that no report changes reads as before. -/
theorem OnlyReports.word (h : OnlyReports s t) {off : Nat} (ho : ¬ ReportReg off) : t.word off = s.word off := h.2.1 off ho

theorem OnlyReports.rd (h : OnlyReports s t) {f : Fld} (ho : ¬ ReportReg f.off) : t.rd f = s.rd f := State.rd_congr (h.word ho)

theorem OnlyReports.flag (h : OnlyReports s t) {f : Fld} (ho : ¬ ReportReg f.off) : t.flag f = s.flag f :=
  State.flag_congr (h.word ho)

/-! ### Registers -/

theorem State.setWord_only (s : State) (off : Nat) (w : Word) (h : P off) : OnlyRegs P s (s.setWord off w) :=
  ⟨rfl, fun _ ho => s.word_setWord_ne w (fun e => ho (e ▸ h))⟩

theorem State.wr_only (s : State) (f : Fld) (v : Nat) (h : P f.off) : OnlyRegs P s (s.wr f v) := s.setWord_only _ _ h

theorem State.setFlag_only (s : State) (f : Fld) (b : Bool) (h : P f.off) : OnlyRegs P s (s.setFlag f b) := s.wr_only _ _ h

theorem State.count_only (s : State) (f : Fld) (n : Nat) (h : P f.off) : OnlyRegs P s (s.count f n) := s.wr_only _ _ h

/-- A write of a report's register that is no ring's STAT. -/
theorem State.wr_report (s : State) (f : Fld) (v : Nat) (h : ReportReg f.off) (hs : ∀ n < 64, f.off ≠ 0x11020 + 0x40 * n) :
    OnlyReports s (s.wr f v) :=
  ⟨rfl, fun _ ho => s.word_wr_ne f v (fun e => ho (e ▸ h)), fun n hn => by rw [s.word_wr_ne f v (hs n hn).symm]⟩

/-- A ring's completed index moves. -/
theorem State.completed_report (s : State) (n v : Nat) (hn : n < 64) : OnlyReports s (s.wr (Reg.HST_RING_STAT_COMPLETED n) v) := by
  refine ⟨rfl, fun o ho => s.word_wr_ne _ v (fun e => ho ?_), fun m hm => ?_⟩
  · subst e; exact .inr (.inr ⟨by simp only [Reg.HST_RING_STAT_COMPLETED]; omega, by simp only [Reg.HST_RING_STAT_COMPLETED]; omega,
      .inl (by simp only [Reg.HST_RING_STAT_COMPLETED]; omega)⟩)
  · by_cases h : m = n
    · subst h
      have := s.word_wr_same (Reg.HST_RING_STAT_COMPLETED m) v (by simp only [Reg.HST_RING_STAT_COMPLETED]; omega)
      simp only [Reg.HST_RING_STAT_COMPLETED] at this ⊢
      rw [this]
      exact bitsOf_withBits_above _ _ _ _ _ _ (by omega)
    · rw [s.word_wr_ne _ v (by simp only [Reg.HST_RING_STAT_COMPLETED]; omega)]

theorem State.nlost_report (s : State) (n v : Nat) (hn : n < 64) : OnlyReports s (s.count (Reg.HST_RING_NLOST n) v) :=
  s.wr_report _ _ (.inr (.inr ⟨by simp only [Reg.HST_RING_NLOST]; omega, by simp only [Reg.HST_RING_NLOST]; omega,
    .inr (by simp only [Reg.HST_RING_NLOST]; omega)⟩)) (fun m _ => by simp only [Reg.HST_RING_NLOST]; omega)

theorem State.ndrop_report (s : State) (v : Nat) : OnlyReports s (s.count Reg.HST_NDROP v) :=
  s.wr_report _ _ (.inl rfl) (fun _ _ => Nat.ne_of_lt (Nat.lt_of_lt_of_le (by decide) (Nat.le_add_right ..)))

/-! ### Messages, notices, the log and completions -/

theorem State.emit_report (s : State) (o : Output) : OnlyReports s (s.emit o) := by
  unfold State.emit
  split
  · exact OnlyReports.refl
  · exact ⟨rfl, fun _ _ => rfl, fun _ _ => rfl⟩

theorem State.setRing_report (s : State) (n : Nat) (r : RingSt) : OnlyReports s (s.setRing n r) := ⟨rfl, fun _ _ => rfl, fun _ _ => rfl⟩

/-- A vector's raise sends a message, sets a pending bit, or does nothing. -/
theorem State.sendVector_report (s : State) (v : Nat) : OnlyReports s (s.sendVector v) := by
  unfold State.sendVector
  split
  · exact OnlyReports.refl
  · split
    · exact ⟨rfl, fun _ _ => rfl, fun _ _ => rfl⟩
    · exact s.emit_report _

theorem State.signalRing_report (s : State) (n : Nat) : OnlyReports s (s.signalRing n) :=
  (s.setRing_report _ _).trans (State.sendVector_report ..)

theorem OnlyReports.ite {c : Prop} [Decidable c] (h : OnlyReports s t) (h' : OnlyReports s u) :
    OnlyReports s (if c then t else u) := by split <;> assumption

theorem State.entryWritten_report (s : State) (n : Nat) (irq : Bool) : OnlyReports s (s.entryWritten n irq) := by
  unfold State.entryWritten
  dsimp only
  exact .trans (.trans (.ite .refl (s.emit_report _)) (State.setRing_report ..)) (.ite (State.signalRing_report ..) .refl)

theorem State.writeNotice_report (s : State) (n code inst : Nat) (ws : List Nat) (late : Bool) (flags : Nat) (urgent : Bool)
    (hn : n < 64) : OnlyReports s (s.writeNotice n code inst ws late flags urgent) := by
  unfold State.writeNotice
  dsimp only
  exact .trans (.trans (.trans (s.emit_report _) (State.setRing_report ..)) (State.completed_report _ n _ hn))
    (State.entryWritten_report ..)

theorem State.noticeLost_report (s : State) (n : Nat) (hn : n < 64) : OnlyReports s (s.noticeLost n) := by
  unfold State.noticeLost
  exact .ite .refl (.trans (.trans (s.writeNotice_report n _ _ _ _ _ _ hn) (State.setRing_report ..)) (State.sendVector_report ..))

/-- A notice's route is a ring. -/
theorem State.routeOf_lt (s : State) {b n : Nat} (h : s.routeOf b = some n) : n < 64 := by
  simp only [State.routeOf] at h
  split at h
  · cases h; exact s.rd_lt _
  · cases h

theorem State.noticeEntry_report (s : State) (code inst : Nat) (ws : List Nat) (late : Bool) (flags : Nat) (urgent : Bool) :
    OnlyReports s (s.noticeEntry code inst ws late flags urgent) := by
  unfold State.noticeEntry
  cases h : s.routeOf (code / 256) with
  | none => exact s.ndrop_report 1
  | some n =>
    have hn := s.routeOf_lt h
    exact .ite (.trans (State.setRing_report ..) (State.nlost_report _ n _ hn))
      (s.writeNotice_report n _ _ _ _ _ _ hn)

theorem State.logseq_report (s : State) (v : Nat) : OnlyReports s (s.wr Reg.CHY_LOGSEQ v) :=
  s.wr_report _ _ (.inr (.inl (by simp only [Reg.CHY_LOGSEQ]))) (fun m hm => by simp only [Reg.CHY_LOGSEQ]; omega)

theorem State.setChy_report (s : State) (c : ChySt) : OnlyReports s (s.setChy c) := ⟨rfl, fun _ _ => rfl, fun _ _ => rfl⟩

theorem State.logEvent_report (s : State) (cls code : Nat) (data : Bytes) : OnlyReports s (s.logEvent cls code data) := by
  unfold State.logEvent
  dsimp only
  exact .trans (s.logseq_report (s.rd Reg.CHY_LOGSEQ + 1)) (State.setChy_report ..)

theorem State.raiseOnly_report (s : State) (code inst : Nat) (ws : List Nat) (late : Bool) (flags : Nat) :
    OnlyReports s (s.raiseOnly code inst ws late flags) := by
  unfold State.raiseOnly
  dsimp only
  refine .ite .refl ?_
  cases urgentVector code with
  | none => exact State.noticeEntry_report ..
  | some v => exact (State.noticeEntry_report ..).trans (State.sendVector_report ..)

/-- A notice changes only the host interface, its registers, the log and the output. -/
theorem State.raiseWith_report (s : State) (code inst : Nat) (ws : List Nat) (late : Bool) (flags : Nat) :
    OnlyReports s (s.raiseWith code inst ws late flags) :=
  .trans (.ite (s.logEvent_report ..) .refl) (State.raiseOnly_report ..)

theorem State.raise_report (s : State) (code inst : Nat) (ws : List Nat) : OnlyReports s (s.raise code inst ws) :=
  s.raiseWith_report ..

theorem OnlyReports.foldl {α : Type} (f : State → α → State) (hf : ∀ s a, OnlyReports s (f s a)) :
    ∀ (l : List α) (s : State), OnlyReports s (l.foldl f s)
  | [], _ => .refl
  | a :: l, s => (hf s a).trans (OnlyReports.foldl f hf l (f s a))

theorem State.report_report (s : State) (code inst : Nat) (ws : List Nat) : OnlyReports s (s.report code inst ws) := by
  unfold State.report
  exact .trans (s.logEvent_report ..) (State.raiseOnly_report ..)

theorem State.reportHeld_report (s : State) (code inst : Nat) (ws : List Nat) : OnlyReports s (s.reportHeld code inst ws) := by
  unfold State.reportHeld
  exact .ite (s.report_report ..) (.trans (s.logEvent_report ..) (State.setChy_report ..))

theorem State.raiseInOrder_report (s : State) (l : List (Nat × Nat × List Nat)) : OnlyReports s (s.raiseInOrder l) :=
  OnlyReports.foldl _ (fun u _ => u.raiseOnly_report ..) _ _

theorem State.raiseHeldWith_report (s : State) (more : List (Nat × Nat × List Nat)) : OnlyReports s (s.raiseHeldWith more) :=
  .trans (.ite (s.setChy_report { s.chy with held := [] }) .refl) (State.raiseInOrder_report ..)

theorem State.raiseHeld_report (s : State) : OnlyReports s s.raiseHeld := s.raiseHeldWith_report []

/-! ### Completions -/

theorem State.setPhase_report (s : State) (n index : Nat) (p : DescPhase) : OnlyReports s (s.setPhase n index p) := s.setRing_report ..

theorem State.writeCompletion_report (s : State) (n : Nat) (d : Desc) (status flags block inst : Nat) (ws : List Nat) (hn : n < 64) :
    OnlyReports s (s.writeCompletion n d status flags block inst ws) := by
  unfold State.writeCompletion
  dsimp only
  exact .trans (.trans (s.emit_report _) (State.completed_report _ n _ hn))
    (State.entryWritten_report ..)

theorem State.flushList_report (n : Nat) (hn : n < 64) : ∀ (l : List Desc) (b : Bool) (s : State), OnlyReports s (State.flushList n b l s)
  | [], _, s => s.setRing_report ..
  | d :: l, b, s => by
    unfold State.flushList
    refine .ite ?_ (s.setRing_report ..)
    split
    · exact (s.writeCompletion_report n d _ _ _ _ _ hn).trans (State.flushList_report n hn l _ _)
    · exact s.setRing_report ..

theorem State.settle_report (n : Nat) (hn : n < 64) : ∀ (k : Nat) (s : State), OnlyReports s (State.settle n k s)
  | 0, _ => .refl
  | k + 1, s => by
    unfold State.settle
    dsimp only
    exact .trans (.trans (.ite .refl (s.setRing_report ..)) (.ite .refl (State.flushList_report n hn _ _ _))) (State.settle_report n hn k _)

/-- What starts and completes on a ring changes only the host interface, its registers and the output. -/
theorem State.settleRing_report (s : State) (n : Nat) (hn : n < 64) : OnlyReports s (s.settleRing n) := State.settle_report n hn _ s

theorem State.completeWith_report (s : State) (n index status flags : Nat) (ws : List Nat) (hn : n < 64) :
    OnlyReports s (s.completeWith n index status flags ws) := (s.setPhase_report ..).trans (State.settleRing_report _ n hn)

theorem State.complete_report (s : State) (n index status : Nat) (ws : List Nat) (hn : n < 64) :
    OnlyReports s (s.complete n index status ws) := s.completeWith_report n index status 0 ws hn

end Sys2Proof.Machine
end

