-- ==== Sys2Proof/Laws/Time.lean ====
section
/-! SUPPORT. What the passing of time can do: the clock moves on, and the counters of waiting requests, of a held release and of held
queues count; nothing else changes. -/
namespace Sys2Proof.Machine

variable {s t u : State}

theorem TimePassed.refl : TimePassed s s := ⟨rfl, RegsKept.refl, Nat.le_refl _⟩

theorem TimePassed.trans (h : TimePassed s t) (h' : TimePassed t u) : TimePassed s u := by
  obtain ⟨h1, h2, h3⟩ := h
  obtain ⟨h4, h5, h6⟩ := h'
  refine ⟨?_, h2.trans h5, Nat.le_trans h3 h6⟩
  rw [h4, h1]

theorem TimePassed.ofOnlyRegs (h : OnlyRegs TimeReg s t) : TimePassed s t := by
  obtain ⟨h1, h2⟩ := h
  refine ⟨?_, h2, ?_⟩
  · rw [h1]
  · exact Nat.le_of_eq (by rw [h1])

theorem TimePassed.word (h : TimePassed s t) {off : Nat} (ho : ¬ TimeReg off) : t.word off = s.word off := h.2.1 off ho
theorem TimePassed.rd (h : TimePassed s t) {f : Fld} (ho : ¬ TimeReg f.off) : t.rd f = s.rd f := State.rd_congr (h.word ho)
theorem TimePassed.flag (h : TimePassed s t) {f : Fld} (ho : ¬ TimeReg f.off) : t.flag f = s.flag f := State.flag_congr (h.word ho)

theorem foldl_only {α : Type} {P : Nat → Prop} (f : State → α → State) (l : List α)
    (hf : ∀ s, ∀ a ∈ l, OnlyRegs P s (f s a)) : ∀ s, OnlyRegs P s (l.foldl f s) := by
  induction l with
  | nil => exact fun _ => .refl
  | cons a l ih =>
    intro s
    exact (hf s a (List.mem_cons_self ..)).trans (ih (fun s b hb => hf s b (List.mem_cons_of_mem _ hb)) _)

theorem State.clock_passed (s : State) (x : TimeSt) (h : s.time.elapsed ≤ x.elapsed) : TimePassed s (s.setTime x) :=
  ⟨rfl, RegsKept.refl, h⟩

theorem State.cyclesAtRate_passed (s : State) (n : Nat) : TimePassed s (s.cyclesAtRate n) := by
  unfold State.cyclesAtRate
  extract_lets x a b waits c held
  have ha : TimePassed s a := by unfold a; exact s.clock_passed _ (Nat.le_add_right s.time.elapsed (2 * n))
  have hb : TimePassed a b := .ofOnlyRegs (by
    unfold b; split
    · exact State.count_only _ _ _ (.inl rfl)
    · exact .refl)
  have hc : TimePassed b c := .ofOnlyRegs (foldl_only _ _ (fun s r hr => by
    have : r < 57 := List.mem_range.1 (List.mem_filter.1 hr).1
    refine .trans (s.count_only _ _ ?_) (State.count_only _ _ _ ?_) <;>
      simp only [TimeReg, Reg.ARB_REQ_STAT_AGE, Reg.ARB_REQ_WAIT] <;> omega) _)
  have hd : TimePassed c (held.foldl (fun s k => s.count (Reg.TSK_Q_HELD k)
      (coreCycles s.time.elapsed - coreCycles (s.time.elapsed - 2 * n))) c) := .ofOnlyRegs (foldl_only _ _
    (fun s k hk => by
      have : k < 16 := List.mem_range.1 (List.mem_filter.1 hk).1
      exact s.count_only _ _ (by simp only [TimeReg, Reg.TSK_Q_HELD]; omega)) _)
  exact ha.trans (hb.trans (hc.trans hd))

theorem State.cycle_passed (s : State) : TimePassed s s.cycle := by
  unfold State.cycle
  exact (s.cyclesAtRate_passed 1).trans (State.clock_passed _ _ (Nat.le_refl _))

theorem State.cyclesOneByOne_passed : ∀ (n : Nat) (s : State), TimePassed s (State.cyclesOneByOne n s)
  | 0, _ => .refl
  | n + 1, s => s.cycle_passed.trans (State.cyclesOneByOne_passed n _)

theorem State.cycles_passed (s : State) (n : Nat) : TimePassed s (s.cycles n) := by
  unfold State.cycles
  split
  · exact s.cyclesAtRate_passed n
  · exact State.cyclesOneByOne_passed n s

theorem State.slewTo_passed (target : Nat) (slack : Nat → Nat) : ∀ (k : Nat) (s : State), TimePassed s (State.slewTo target slack k s)
  | 0, _ => .refl
  | k + 1, s => by
    unfold State.slewTo
    split
    · exact .refl
    · exact s.cycle_passed.trans (State.slewTo_passed target slack k _)

/-- Waiting for a value of the accumulator lets time pass and does nothing else. -/
theorem State.advance_passed (s : State) (target : Nat) (slack : Nat → Nat) : TimePassed s (s.advance target slack) := by
  unfold State.advance
  dsimp only
  split
  · exact s.cyclesAtRate_passed _
  · exact State.slewTo_passed ..

/-- Waiting for an instant of device time lets time pass and does nothing else. -/
theorem State.until_passed (s : State) (t : Nat) : TimePassed s (s.until t) := s.advance_passed ..

/-- So does waiting for the TIME cycle that holds an instant. -/
theorem State.into_passed (s : State) (t : Nat) : TimePassed s (s.into t) := s.advance_passed ..

/-- So does waiting for the TIME cycle nearest to an instant. -/
theorem State.nearest_passed (s : State) (x : Nat) : TimePassed s (s.nearest x) := s.advance_passed ..

/-- Waiting for an instant of the oscillator's time lets time pass and does nothing else. -/
theorem State.untilElapsed_passed (s : State) (t : Nat) : TimePassed s (s.untilElapsed t) := s.cycles_passed _

end Sys2Proof.Machine
end

