-- ==== Sys2Proof/Tests/Slice0.lean ====
section
/-! SUPPORT. Tests: for every statement with hypotheses, states and operands that meet them, and small tests on one command each. -/
namespace Sys2Proof.Tests
open Sys2Proof Sys2Proof.Machine

set_option Elab.async false

/-- A state with fields of registers set. -/
def mk (l : List (Fld × Nat)) (s : State := State.reset) : State := l.foldl (fun s p => s.wr p.1 p.2) s

/-- A descriptor of an opcode at an index, with the words from D6 on. -/
def desc (op index : Nat) (ws : List Nat) (addr : Nat := 0) (len : Nat := 0) (cookie : Nat := 77) (phase : DescPhase := .started) : Desc :=
  { index := index, words := [op, cookie, addr, 0, len, 0] ++ (ws ++ List.replicate 10 0).take 10, phase := phase }

/-- A ring of 16 entries, enabled, for a unit of a block. -/
def ringCfg (ring block inst : Nat) (s : State) : State :=
  mk [(Reg.HST_RING_CFG_BLOCK ring, block), (Reg.HST_RING_CFG_INST ring, inst), (Reg.HST_RING_CFG_LOG2SIZE ring, 4),
    (Reg.HST_RING_CBASE_LO ring, 0x100000), (Reg.HST_RING_CTRL ring, 1)] s

/-- A state in which a descriptor is alone on its ring. -/
def withD (ring block inst : Nat) (d : Desc) (s : State := State.reset) : State :=
  let s := ringCfg ring block inst s
  s.setRing ring { s.ring ring with descs := [d], fetched := d.index + 1 }

/-- A word of the store reads 0 where no listed byte lies in it. -/
theorem word32At_unlisted (s : State) (a : Nat) (h : ∀ e ∈ s.store.bytes, e.1 < a ∨ a + 4 ≤ e.1) : s.word32At a = 0 := by
  have key : ∀ (t : List (Nat × Byte)) (k : Nat), (∀ e ∈ t, e.1 ≠ k) → tblGet t 0 k = 0 := by
    intro t k
    induction t with
    | nil => intro _; rfl
    | cons e t ih =>
      intro hk
      rw [tblGet, if_neg (hk e (by simp))]
      exact ih (fun e he => hk e (by simp [he]))
  have hb : ∀ j < 4, s.byteAt (a + j) = 0 := fun j hj => key _ _ (fun e he => by have := h e he; omega)
  have h0 := hb 0 (by omega)
  rw [Nat.add_zero] at h0
  simp [State.word32At, State.bytesAt, List.range_succ, leNat, hb, h0]

/-- A filter of a range that keeps one number. -/
theorem filter_range_one (p : Nat → Bool) (n : Nat) (hn : p n = true) (hp : ∀ k, k ≠ n → p k = false) (m : Nat) (hm : n < m) :
    (List.range m).filter p = [n] := by
  have key : ∀ m, (List.range m).filter p = if n < m then [n] else [] := by
    intro m
    induction m with
    | zero => simp
    | succ m ih =>
      rw [List.range_succ, List.filter_append, ih]
      by_cases h : m = n
      · subst h; simp [hn]
      · have := hp m h
        by_cases h2 : n < m
        · simp [this, h2, Nat.lt_succ_of_lt h2]
        · have h3 : ¬ n < m + 1 := by omega
          simp [this, h2, h3]
  rw [key, if_pos hm]

namespace A1
def late : State := { State.reset with time := { acc := 5000000007 * 2^32 + 77, elapsed := 4999999998, rho := 3000000, rhoTarget := -5000000 } }
def off1 : State := { mk [(Reg.GLB_ERRCNT, 0xFFFFFFFF)] late with off := [7, 0x12], pwr := { State.reset.pwr with lostClocks := [4] } }

/-- States and operands that meet the hypotheses of `Obligations.ErrorsCapturedAndCleared`, the part ErroneousAccessIsCaptured, clause by clause. -/
theorem witness_ErroneousAccessIsCaptured :
    (∃ (off : BitVec 22) (s : State), s.accessible Space.bar0 = true ∧ 2162688 ≤ off.toNat ∧ s.captureOpen = true) ∧
    (∃ (off : BitVec 22) (s : State), s.accessible Space.bar0 = true ∧ off.toNat < 2162688 ∧ s.offsetOff off.toNat = true ∧
      s.captureOpen = true) :=
  ⟨⟨0x210000, State.reset, by decide +kernel⟩,
   ⟨0x70000, off1, by decide +kernel⟩⟩

/-- States and operands that meet the hypotheses of `Obligations.PairedReadIsOneSample`, clause by clause. -/
theorem witness_PairedReadIsOneSample :
    ∃ (s : State), s.accessible Space.bar0 = true ∧ s.isOff 7 = false :=
  ⟨State.reset, by decide +kernel⟩

/-- States and operands that meet the hypotheses of `Obligations.TimeAdvances`, the part DeviceTimeWraps, clause by clause. -/
theorem witness_DeviceTimeWraps :
    ∃ (s : State), s.isOff 7 = false ∧ s.time.rho = 0 ∧ s.time.rhoTarget = 0 ∧ s.now / 2 ^ 32 + 1 < 2 ^ 32 :=
  ⟨State.reset, by decide +kernel⟩
end A1

namespace A2
def ptp (p : PtpSt) (l : List (Fld × Nat)) : State := let s := mk l; { s with ant := { s.ant with ptp := p } }
def p0 := State.reset.ant.ptp
def h : PtpHeader := { source := 5, domain := 3, seq := 7 }
def an : Announce := { hdr := h, priority1 := 1, clockClass := 2, accuracy := 3, variance := 4, priority2 := 5, identity := 6, steps := 7 }
def dom : Fld × Nat := (Reg.ANT_PTP_CFG_DOMAIN, 3)
def y : OpenSync := { hdr := h, t1 := -3, t2 := 99, at_ := 97, complete := false, lanB := true }
def srcs (l : List (Fld × Nat)) (v : Nat) (st act : Nat) : State := mk (l ++ [(Reg.ANT_SRCSEL_SRC0, 3), (Reg.ANT_SRCSEL_SRC1, 2), (Reg.ANT_STAT_VALID, v), (Reg.ANT_STAT_STATE, st), (Reg.ANT_STAT_ACTIVE, act)])
def one (v st : Nat) : State := mk [(Reg.ANT_SRCSEL_SRC0, 3), (Reg.ANT_STAT_VALID, v), (Reg.ANT_STAT_STATE, st)]
def since (s : State) : State := { s.setSource 3 { s.source 3 with validSince := some 5 } with time := { s.time with elapsed := 999 } }
def dw (s : State) : State := { s with ant := { s.ant with dwellUntil := some 4000, integral := 5, rates := [3,4] } }

/-- States and operands that meet the hypotheses of `Obligations.SourcesAndGenlock`, the part SourceSelection, clause by clause. -/
theorem witness_SourceSelection :
    (∃ (s : State), s.isOff 7 = false ∧ s.flag Reg.ANT_CTRL_FORCE_HOLD = false ∧ s.rd Reg.ANT_STAT_STATE ≠ 3) ∧
    (∃ (v : BitVec 16) (c : Nat) (s : State), s.isOff 7 = false ∧ s.flag Reg.ANT_CTRL_FORCE_HOLD = false ∧
      (s.rd Reg.ANT_STAT_STATE = 1 ∨ s.rd Reg.ANT_STAT_STATE = 2) ∧ (s.loadReg 458764 v.toNat).bestSource = some c ∧
      (s.loadReg 458764 v.toNat).word 458764 ≠ s.word 458764 ∧ c ≠ s.rd Reg.ANT_STAT_ACTIVE ∧ c ≠ 1) ∧
    (∃ (src : Fin 8) (s : State), s.isOff 7 = false ∧ 1 < src.val ∧ s.sourceValid src.val = false ∧ s.rd Reg.ANT_STAT_STATE = 0 ∧
      s.flag Reg.ANT_CTRL_FORCE_HOLD = false ∧ s.sourceList = [src.val]) ∧
    (∃ (src : Fin 8) (s : State), s.isOff 7 = false ∧ src.val ≠ 7 ∧ s.sourceValid src.val = true ∧ s.measuring src.val = true) ∧
    (∃ (v : BitVec 16) (s : State), s.isOff 7 = false ∧ (s.loadReg 458764 v.toNat).word 458764 = s.word 458764) ∧
    (∃ (d c : Nat) (s : State), s.isOff 7 = false ∧ s.ant.dwellUntil = some d ∧ s.flag Reg.ANT_CTRL_FORCE_HOLD = false ∧
      s.bestSource = some c ∧ c ≠ 1) ∧
    (∃ (src : Fin 8) (d : Nat) (s : State), s.isOff 7 = false ∧ 1 < src.val ∧ (s.source src.val).validSince = some d ∧
      s.flag Reg.ANT_CTRL_REVERT = true ∧ s.sourceValid src.val = true ∧ s.rd Reg.ANT_STAT_STATE = 2 ∧
      s.ranksBefore src.val (s.rd Reg.ANT_STAT_ACTIVE) = true ∧ s.flag Reg.ANT_CTRL_FORCE_HOLD = false) :=
  ⟨⟨State.reset, by decide +kernel⟩,
   ⟨0x3, 3, srcs [(Reg.ANT_CTRL_REVERT, 1)] 6 2 2, by decide +kernel⟩,
   ⟨3, one 0 0, by decide +kernel⟩,
   ⟨2, srcs [(Reg.ANT_CTRL_REVERT, 1)] 6 2 2, by decide +kernel⟩,
   ⟨0x3, one 0 0, by decide +kernel⟩,
   ⟨4000, 2, dw (srcs [] 2 3 3), by decide +kernel⟩,
   ⟨3, 5, since (srcs [(Reg.ANT_CTRL_REVERT, 1), (Reg.ANT_HOLDDWELL, 7)] 6 2 2), by decide +kernel⟩⟩
end A2

namespace A3
def ptp := A2.ptp
def p0 := A2.p0
def h := A2.h
def an := A2.an
def dom := A2.dom
def y := A2.y
def g (x : SourceSt) : State := (mk [(Reg.ANT_REF_CFG_GEN_MODE, 1), (Reg.ANT_REF_NUM, 25), (Reg.ANT_REF_DEN, 1), (Reg.ANT_STAT_STATE, 1), (Reg.ANT_STAT_ACTIVE, 2)]).setSource 2 x
def roles : List (Fld × Nat) := [(Reg.ANT_PTP_CFG_ROLE, 1), dom, (Reg.ANT_STAT_VALID, 3)]
def port (p : Nat) : List (Fld × Nat) := [(Reg.ANT_PTP_CFG_PORT, p), (Reg.MAC_CTRL_ENABLE p, 1), (Reg.MAC_STAT_LINK p, 1), (Reg.ANT_STAT_MASTER, 1), dom]

/-- States and operands that meet the hypotheses of `Obligations.SourcesAndGenlock`, the part GenlockEdgeCounts, clause by clause. -/
theorem witness_GenlockEdgeCounts :
    ∃ (s : State), s.isOff 7 = false ∧ s.rd Reg.ANT_REF_CFG_GEN_MODE ≠ 0 ∧ s.refPeriod ≠ 0 ∧ (s.source 2).last = none ∧
      (s.source 2).expected = none :=
  ⟨g sourceIdle, by decide +kernel⟩

/-- States and operands that meet the hypotheses of `Obligations.PtpExchange`, the part PtpSlaveExchange, clause by clause. -/
theorem witness_PtpSlaveExchange :
    (∃ (h : PtpHeader) (d : Int) (s : State), s.isOff 7 = false ∧ s.fromMaster h = true ∧
      (∀ (y : OpenSync), s.ant.ptp.sync = some y → y.hdr ≠ h) ∧ s.ant.ptp.lastDelay = some d ∧ s.measuring 1 = true ∧
      s.ant.needRef = false ∧ (s.source 1).last = none) ∧
    (∃ (y : OpenSync) (s : State), s.isOff 7 = false ∧ s.fromMaster y.hdr = true ∧ s.ant.ptp.sync = some y ∧ y.complete = false) ∧
    (∃ (h : PtpHeader) (lanB : Bool) (a b : Nat) (s : State), s.isOff 7 = false ∧ s.fromMaster h = true ∧
      s.ant.ptp.delayOpen = some (h.seq.toNat, a, b) ∧ (∀ (y : OpenSync), s.ant.ptp.sync = some y → y.lanB = lanB)) ∧
    (∃ (a : Announce) (s : State), s.isOff 7 = false ∧ a.hdr.domain.toNat = s.rd Reg.ANT_PTP_CFG_DOMAIN ∧
      (∀ (b : Announce), s.ant.ptp.best = some b → b.hdr.source = a.hdr.source ∨ betterMaster a b = true)) ∧
    (∃ (a b : Announce) (s : State), s.isOff 7 = false ∧ a.hdr.domain.toNat = s.rd Reg.ANT_PTP_CFG_DOMAIN ∧ s.ant.ptp.best = some b ∧
      b.hdr.source ≠ a.hdr.source ∧ betterMaster a b = false) ∧
    (∃ (d : Nat) (s : State), s.isOff 7 = false ∧ s.ant.ptp.lastAnnounce = some d) ∧
    (∃ (s : State), s.isOff 7 = false ∧ s.flag Reg.ANT_STAT_MASTER = false ∧ s.ant.ptp.best.isSome = true) :=
  ⟨⟨h, 1, ptp { p0 with best := some an, lastDelay := some 1 } [dom, (Reg.ANT_STAT_STATE, 2), (Reg.ANT_STAT_ACTIVE, 1)], by decide +kernel⟩,
   ⟨y, ptp { p0 with best := some an, sync := some y } [dom], by decide +kernel⟩,
   ⟨h, false, 50, 60, ptp { p0 with best := some an, delayOpen := some (7, 50, 60) } [dom], by decide +kernel⟩,
   ⟨an, ptp { p0 with best := some an } [dom], by decide +kernel⟩,
   ⟨{ an with hdr := { h with source := 9 }, priority1 := 9 }, an, ptp { p0 with best := some an } [dom], by decide +kernel⟩,
   ⟨5000, ptp { p0 with best := some an, lastAnnounce := some 5000 } (dom :: [(Reg.ANT_STAT_VALID, 1), (Reg.ANT_STAT_STATE, 2), (Reg.ANT_STAT_ACTIVE, 1), (Reg.ANT_SRCSEL_SRC0, 1)]), by decide +kernel⟩,
   ⟨ptp { p0 with best := some an } [dom], by decide +kernel⟩⟩

/-- States and operands that meet the hypotheses of `Obligations.PtpExchange`, the part PtpMasterState, clause by clause. -/
theorem witness_PtpMasterState :
    (∃ (s : State), s.isOff 7 = false ∧ s.flag Reg.ANT_STAT_MASTER = false ∧ s.masterChosen = true) ∧
    (∃ (s : State), s.isOff 7 = false ∧ s.flag Reg.ANT_STAT_MASTER = true ∧ s.masterChosen = false) ∧
    (∃ (d : Nat) (s : State), s.isOff 7 = false ∧ s.ant.ptp.nextSync = some d ∧ s.flag Reg.ANT_STAT_MASTER = true) ∧
    (∃ (d : Nat) (s : State), s.isOff 7 = false ∧ s.ant.ptp.nextAnnounce = some d ∧ s.flag Reg.ANT_STAT_MASTER = true) ∧
    (∃ (h : PtpHeader) (s : State), s.isOff 7 = false ∧ s.flag Reg.ANT_STAT_MASTER = true ∧ h.domain.toNat = s.rd Reg.ANT_PTP_CFG_DOMAIN ∧
      s.rd Reg.ANT_PTP_CFG_PORT < 8 ∧ s.pairOn (s.rd Reg.ANT_PTP_CFG_PORT / 2) = false ∧ s.isOff 16 = false ∧
      s.flag (Reg.MAC_CTRL_ENABLE (s.rd Reg.ANT_PTP_CFG_PORT)) = true ∧ s.flag (Reg.MAC_STAT_LINK (s.rd Reg.ANT_PTP_CFG_PORT)) = true) :=
  ⟨⟨mk roles, by decide +kernel⟩,
   ⟨ptp { p0 with best := some an } (roles ++ [(Reg.ANT_STAT_MASTER, 1)]), by decide +kernel⟩,
   ⟨7000, ptp { p0 with nextSync := some 7000, nextAnnounce := some 9000, syncSeq := 65535, announceSeq := 65535, best := some an } (port 7), by decide +kernel⟩,
   ⟨9000, ptp { p0 with nextSync := some 7000, nextAnnounce := some 9000, syncSeq := 65535, announceSeq := 65535, best := some an } (port 7), by decide +kernel⟩,
   ⟨h, ptp { p0 with nextSync := some 7000, nextAnnounce := some 9000, syncSeq := 65535, announceSeq := 65535, best := some an } (port 7), by decide +kernel⟩⟩
end A3

namespace B1
def cx (n st src : Nat) (c : CtxSt) (l : List (Fld × Nat) := []) : State := (mk (l ++ [(Reg.ANT_CTX_CTRL_SOURCE n, src), (Reg.ANT_CTX_STAT_STATE n, st), (Reg.ANT_CTX_NUM n, 25), (Reg.ANT_CTX_DEN n, 1), (Reg.ANT_CTX_SPEED n, 2^24), (Reg.ANT_CTX_PERIOD_LO n, 0), (Reg.ANT_CTX_PERIOD_HI n, 40000000)])).setCtx n c
def c0 : CtxSt := { pb := 5 * 2^24 + 7, tb := 2^32 * 1000, cmd := none, rewrite := false }
def ev (k : Nat) : CalEvent := { order := k, ctx := 0, commit := false, catchup := false, queue := 2, pos := 9 * 2^24, tag := 3, payload := 5, passed := false, jumped := false, due := none, sched := 0 }

/-- States and operands that meet the hypotheses of `Obligations.Contexts`, the part ContextBoundary, clause by clause. -/
theorem witness_ContextBoundary :
    (∃ (n : Fin 128) (s : State), s.isOff 7 = false ∧ s.rd (Reg.ANT_CTX_CTRL_SOURCE n.val) = 0 ∧ (s.ctx n.val).cmd ≠ some CtxCmd.locate) ∧
    (∃ (n : Fin 128) (s : State), s.isOff 7 = false ∧ s.rd (Reg.ANT_CTX_CTRL_SOURCE n.val) = 0 ∧ (s.ctx n.val).cmd = some CtxCmd.locate) ∧
    (∃ (n : Fin 128) (s : State), s.isOff 7 = false ∧ s.rd (Reg.ANT_CTX_CTRL_SOURCE n.val) ∈ [1, 2, 3, 4] ∧ (s.ctx n.val).cmd = none ∧
      (s.ctx n.val).rewrite = false ∧ (s.ctxState n.val = 1 ∨ s.ctxState n.val = 3) ∧ s.srcOk n.val = true ∧ s.beatHeld n.val = false) :=
  ⟨⟨0, State.reset, by decide +kernel⟩,
   ⟨0, cx 0 1 0 { c0 with cmd := some .locate }, by decide +kernel⟩,
   ⟨127, cx 127 3 3 c0 [(Reg.AUD_LTCIN_LOCK, 1)], by decide +kernel⟩⟩

/-- States and operands that meet the hypotheses of `Obligations.Contexts`, the part ContextCommandsWait, clause by clause. -/
theorem witness_ContextCommandsWait :
    (∃ (n : Fin 128) (s : State), s.isOff 7 = false ∧ s.cueMode = CueMode.lone ∧ s.ctxMoving n.val = false) ∧
    (∃ (n : Fin 128) (which : Fin 3) (v : Word) (s : State), s.isOff 7 = false ∧ s.cueMode = CueMode.lone ∧ s.ctxMoving n.val = true ∧
      effectivePeriod ((s.loadReg (ctxOff n.val (4 + 4 * which.val)) (BitVec.toNat v)).rd (Reg.ANT_CTX_NUM n.val)) ((s.loadReg (ctxOff n.val (4 + 4 * which.val)) (BitVec.toNat v)).rd (Reg.ANT_CTX_DEN n.val)) ((s.loadReg (ctxOff n.val (4 + 4 * which.val)) (BitVec.toNat v)).rd (Reg.ANT_CTX_SPEED n.val)) = none) ∧
    (∃ (v : Word) (s : State), s.isOff 7 = false ∧ s.cueMode = CueMode.lone ∧ BitVec.toNat v % 8 ≤ 4) ∧
    (∃ (n : Fin 128) (v : Word) (s : State), s.isOff 7 = false ∧ s.cueMode = CueMode.lone ∧
      ((s.loadReg (ctxOff n.val 0) (BitVec.toNat v)).linkCycle n.val).contains n.val = true ∧
      ((s.loadReg (ctxOff n.val 0) (BitVec.toNat v)).linkCycle n.val).any s.ctxMoving = true) :=
  ⟨⟨0, State.reset, by decide +kernel⟩,
   ⟨0, 0, 0, cx 0 1 0 c0, by decide +kernel⟩,
   ⟨0, State.reset, by decide +kernel⟩,
   ⟨0, 0xFFFFFFFF, cx 0 1 5 c0 [(Reg.ANT_CTX_CTRL_SOURCE 127, 5), (Reg.ANT_CTX_CTRL_PARENT 127, 0), (Reg.ANT_CTX_CTRL_PARENT 0, 5)], by decide +kernel⟩⟩

/-- States and operands that meet the hypotheses of `Obligations.Contexts`, the part ContextSourceLostAndBack, clause by clause. -/
theorem witness_ContextSourceLostAndBack :
    (∃ (n : Fin 128) (s : State), s.isOff 7 = false ∧ (s.ctxState n.val = 1 ∨ s.ctxState n.val = 3) ∧ s.srcOk n.val = false) ∧
    (∃ (n : Fin 128) (s : State), s.isOff 7 = false ∧ s.ctxState n.val = 4 ∧ s.srcOk n.val = true) :=
  ⟨⟨0, cx 0 1 3 c0, by decide +kernel⟩,
   ⟨0, cx 0 4 3 c0 [(Reg.AUD_LTCIN_LOCK, 1)], by decide +kernel⟩⟩
end B1

namespace B2
def ev := B1.ev
def cx := B1.cx
def c0 := B1.c0
def cal (es : List CalEvent) (held : Option CalEvent) (s : State) : State := { mk [(Reg.CAL_CTRL_ENABLE, 1), (Reg.CAL_COUNT, es.length)] s with cal := { events := es, held := held, nextOrder := 9, lastOffer := none } }
def q (s : State) : State := mk [(Reg.TSK_CTRL_ENABLE, 1), (Reg.TSK_Q_CTRL 2, 1)] s
def full (s : State) : State := { s with tsk := { s.tsk with ready := [(2, List.replicate 1024 1)] } }
def d1c : Desc := desc 0x0801 5 [0x1100 + 0x7F, 0x100, 0xF, 77, 5, 0]
def d2 : Desc := desc 0x0802 5 [0x0, 0, 0, 3]

/-- States and operands that meet the hypotheses of `Obligations.CalendarEvents`, the part CalendarStoresAndCancels, clause by clause. -/
theorem witness_CalendarStoresAndCancels :
    (∃ (ring : Fin 64) (d : Desc) (s : State), s.startedDesc ring.val 2049 = some d ∧ d.reservedOk false 6 = true ∧ addWordsOk d.w = true ∧
      s.cueMode = CueMode.lone ∧ s.cal.events.length < 65536 ∧ s.StoreSound) ∧
    (∃ (ring : Fin 64) (d : Desc) (s : State), s.startedDesc ring.val 2050 = some d ∧ d.reservedOk false 4 = true ∧
      withBits (withBits (d.w 0) 0 2 0) 8 7 0 = 0 ∧ bitsOf (d.w 0) 0 2 ≤ 1 ∧ d.w 1 = 0 ∧ d.w 2 = 0 ∧ s.cueMode = CueMode.lone) :=
  ⟨⟨1, d1c, withD 1 8 0 d1c (cal [ev 1] none (cx 0 1 0 c0)), by decide +kernel⟩,
   ⟨1, d2, withD 1 8 0 d2 (cal [ev 1, { ev 2 with tag := 4 }] none (cx 0 1 0 c0)), by decide +kernel⟩⟩

/-- States and operands that meet the hypotheses of `Obligations.CalendarEvents`, the part CalendarReleases, clause by clause. -/
theorem witness_CalendarReleases :
    (∃ (e : CalEvent) (c : Int) (s : State), s.isOff 8 = false ∧ s.flag Reg.CAL_CTRL_ENABLE = true ∧ s.cal.held = none ∧
      s.nextEvent = some (e, c) ∧ e.commit = false ∧ e.queue < 16 ∧ s.readyOn e.queue = true ∧ s.readyFull e.queue = false ∧
      s.StoreSound) ∧
    (∃ (e : CalEvent) (c : Int) (s : State), s.isOff 8 = false ∧ s.flag Reg.CAL_CTRL_ENABLE = true ∧ s.cal.held = none ∧
      s.nextEvent = some (e, c) ∧ e.commit = false ∧ e.queue < 16 ∧ s.readyOn e.queue = true ∧ s.readyFull e.queue = true ∧ s.StoreSound) ∧
    (∃ (e : CalEvent) (s : State), s.isOff 8 = false ∧ s.cal.held = some e ∧ e.commit = false ∧ e.queue < 16 ∧ s.readyOn e.queue = true ∧
      s.readyFull e.queue = false) :=
  ⟨⟨{ ev 2 with pos := 8 * 2^24 }, 983, q (cal [ev 1, { ev 2 with pos := 8 * 2^24 }] none (cx 0 1 0 c0)), by decide +kernel⟩,
   ⟨ev 1, 40000983, full (q (cal [ev 1] none (cx 0 1 0 c0))), by decide +kernel⟩,
   ⟨{ ev 7 with passed := true }, q (cal [ev 1] (some { ev 7 with passed := true }) (cx 0 1 0 c0)), by decide +kernel⟩⟩

/-- States and operands that meet the hypotheses of `Obligations.CalendarEvents`, the part CalendarControl, clause by clause. -/
theorem witness_CalendarControl :
    ∃ (v : BitVec 4) (s : State), s.isOff 8 = false ∧ v.toNat ≠ 0 :=
  ⟨1, cal [ev 1, { ev 2 with tag := 4 }] none (cx 0 1 0 c0), by decide +kernel⟩
end B2

namespace B3
def tp (k : Nat) (mode per st : Nat) (p : PulseSt := { periodic := false, activeLow := false, width := 0, period := 0, next := none, pulseEnd := none }) : State := (mk [(Reg.ANT_TP_CFG_MODE k, mode), (Reg.ANT_TP_PERIOD k, per), (Reg.ANT_TP_START k, st)]).setPulse k p
def gp (n : Nat) (g : GpiSt) (l : List (Fld × Nat) := []) : State := (mk (l ++ [(Reg.GPI_CFG_EDGE n, 3), (Reg.GPI_CFG_ENABLE n, 1), (Reg.AUD_TRK_CFG_TAPGPI, 5)])).setGpi n g
def g0 : GpiSt := { pin := false, accepted := some true, first := some 40, since := some 50, fifo := [{ time := 3, pos := 4, rise := true }] }

/-- States and operands that meet the hypotheses of `Obligations.TimepulseAndGpi`, the part TimepulseSchedule, clause by clause. -/
theorem witness_TimepulseSchedule :
    (∃ (k : Fin 8) (s : State), s.isOff 7 = false ∧ s.rd (Reg.ANT_TP_CFG_MODE k.val) = 1 ∧
      0 < sext 32 (low 32 (↑(s.rd (Reg.ANT_TP_START k.val)) - ↑s.now32))) ∧
    (∃ (k : Fin 8) (s : State), s.isOff 7 = false ∧ s.rd (Reg.ANT_TP_CFG_MODE k.val) = 1 ∧
      sext 32 (low 32 (↑(s.rd (Reg.ANT_TP_START k.val)) - ↑s.now32)) ≤ 0) ∧
    (∃ (k : Fin 8) (s : State), s.isOff 7 = false ∧ s.rd (Reg.ANT_TP_CFG_MODE k.val) = 2 ∧ s.rd (Reg.ANT_TP_PERIOD k.val) < 16) ∧
    (∃ (k : Fin 8) (i : Nat) (s : State), s.isOff 7 = false ∧ (s.pulse k.val).pulseEnd = none ∧ (s.pulse k.val).next = some i) ∧
    (∃ (k : Fin 8) (e : Nat) (s : State), s.isOff 7 = false ∧ (s.pulse k.val).pulseEnd = some e) :=
  ⟨⟨0, tp 0 1 0 500, by decide +kernel⟩,
   ⟨7, tp 7 1 0 0, by decide +kernel⟩,
   ⟨0, tp 0 2 0 0, by decide +kernel⟩,
   ⟨0, 2^45, tp 0 2 100 5 { periodic := true, activeLow := true, width := 10, period := 2^40, next := some (2^45), pulseEnd := none }, by decide +kernel⟩,
   ⟨0, 2^41, tp 0 2 100 5 { periodic := true, activeLow := true, width := 10, period := 2^40, next := some (2^45), pulseEnd := some (2^41) }, by decide +kernel⟩⟩

/-- States and operands that meet the hypotheses of `Obligations.TimepulseAndGpi`, the part GpiDebounce, clause by clause. -/
theorem witness_GpiDebounce :
    (∃ (n : Fin 16) (s : State), s.isOff 9 = false ∧ s.flag (Reg.GPI_CFG_ENABLE n.val) = true) ∧
    (∃ (n : Fin 16) (t0 : Nat) (a : Bool) (s : State), s.isOff 9 = false ∧ (s.gpi n.val).since = some t0 ∧
      (s.gpi n.val).accepted = some a ∧ (s.gpi n.val).pin = !a ∧ s.rd (Reg.GPI_CFG_EDGE n.val) = 3 ∧ (s.gpi n.val).fifo.length < 16 ∧
      s.flag Reg.PWR_WAKE_EN_GPI = false ∧ s.rd Reg.AUD_TRK_CFG_TAPGPI ≠ n.val) ∧
    (∃ (n : Fin 16) (s : State), s.isOff 9 = false ∧ s.flag (Reg.GPI_CFG_ENABLE n.val) = false) :=
  ⟨⟨0, gp 0 g0, by decide +kernel⟩,
   ⟨0, 50, true, gp 0 g0, by decide +kernel⟩,
   ⟨0, State.reset, by decide +kernel⟩⟩
end B3

namespace C1
def up (s : State := State.reset) : State := { mk [(Reg.HST_STAT_LINK_UP, 1)] s with host := { s.host with bme := true, msixEnable := true, pendingBits := [0, 63], vectors := [(0, ⟨0x100, 5, false⟩), (63, ⟨0x200, 6, true⟩)] } }
def dm : DmaSt := { ring := 1, index := 5, toStore := true, host := 0x500, store := 0x1000, data := [1,2,3,4,5,6,7,8], hostError := false }
def rg (n ty en tail fetched : Nat) (r : RingSt := ringIdle) (s : State := State.reset) : State := (mk [(Reg.HST_RING_CFG_TYPE n, ty), (Reg.HST_RING_CTRL n, en), (Reg.HST_RING_TAIL n, tail), (Reg.HST_RING_CFG_LOG2SIZE n, 4), (Reg.HST_RING_MOD_TIME n, 3), (Reg.HST_RING_CFG_VEC_EN n, 1), (Reg.HST_RING_STAT_QUIESCENT n, 0)] s).setRing n { r with fetched := fetched }

/-- States and operands that meet the hypotheses of `Obligations.HostLink`, the part HostResets, clause by clause. -/
theorem witness_HostResets :
    ∃ (s : State), s.host.inReset = false :=
  ⟨State.reset, by decide +kernel⟩

/-- States and operands that meet the hypotheses of `Obligations.HostLink`, the part LinkConfigurationAndVectors, clause by clause. -/
theorem witness_LinkConfigurationAndVectors :
    (∃ (speed : BitVec 3) (width : BitVec 4) (s : State), s.pwr.held = none ∧ s.isOff 1 = false ∧ s.chy.held = [] ∧
      linkTrains speed.toNat width.toNat = true) ∧
    (∃ (s : State), s.host.inReset = false) ∧
    (∃ (v : Fin 64) (s : State), s.host.pendingBits.contains v.val = true ∧ s.busReady = true ∧ s.host.msixEnable = true ∧
      s.host.functionMask = false) ∧
    (∃ (v : Fin 64) (s : State), s.host.pendingBits.contains v.val = false) :=
  ⟨⟨1, 1, State.reset, by decide +kernel⟩,
   ⟨State.reset, by decide +kernel⟩,
   ⟨0, up, by decide +kernel⟩,
   ⟨0, State.reset, by decide +kernel⟩⟩
end C1

namespace C2
def up := C1.up
def rg := @C1.rg

/-- States and operands that meet the hypotheses of `Obligations.RingsAndDoorbells`, the part DoorbellsMoveOrDrop, clause by clause. -/
theorem witness_DoorbellsMoveOrDrop :
    (∃ (n : Fin 64) (v : Word) (s : State), s.barsUp = true ∧ s.flag (Reg.HST_RING_CFG_TYPE n.val) = false ∧
      s.flag (Reg.HST_RING_CTRL n.val) = true ∧ BitVec.toNat v < 2 ^ 16 ∧ s.tailFits n.val (BitVec.toNat v) = true) ∧
    (∃ (n : Fin 64) (v : Word) (s : State), s.barsUp = true ∧ s.flag (Reg.HST_RING_CFG_TYPE n.val) = true ∧
      s.flag (Reg.HST_RING_CTRL n.val) = true ∧ BitVec.toNat v < 2 ^ 16 ∧ s.consumedFits n.val (BitVec.toNat v) = true ∧
      (s.ring n.val).lost = 0) ∧
    (∃ (v : Word) (aligned : Bool) (s : State), s.barsUp = true ∧ (aligned = false ∨ 2 ^ 16 ≤ BitVec.toNat v)) ∧
    (∃ (n : Fin 64) (v : Word) (s : State), s.barsUp = true ∧ BitVec.toNat v < 2 ^ 16 ∧
      (s.flag (Reg.HST_RING_CTRL n.val) = false ∨ (if s.flag (Reg.HST_RING_CFG_TYPE n.val) = true then s.consumedFits n.val (BitVec.toNat v) else s.tailFits n.val (BitVec.toNat v)) = false)) :=
  ⟨⟨0, 3, rg 0 0 1 3 3 ringIdle up, by decide +kernel⟩,
   ⟨0, 0, rg 0 1 1 3 0 { ringIdle with consumed := 3, unsignalled := 2, oldest := some 5 } up, by decide +kernel⟩,
   ⟨0, false, State.reset, by decide +kernel⟩,
   ⟨0, 0, State.reset, by decide +kernel⟩⟩

/-- States and operands that meet the hypotheses of `Obligations.RingsAndDoorbells`, the part RingsFetchAndStop, clause by clause. -/
theorem witness_RingsFetchAndStop :
    (∃ (data : List (List Word)) (n : Nat) (s : State), s.fetchRing = some n ∧ s.busReady = true ∧ s.port 55 = [] ∧ data ≠ [] ∧
      s.hostWriteHeld = false) ∧
    (∃ (n : Fin 64) (s : State), 0 < s.unfetched n.val) ∧
    (∃ (n : Fin 64) (s : State), s.flag (Reg.HST_RING_CTRL n.val) = false ∧ s.flag (Reg.HST_RING_STAT_QUIESCENT n.val) = true) ∧
    (∃ (n : Fin 64) (s : State), s.flag (Reg.HST_RING_CTRL n.val) = true) ∧
    (∃ (n : Fin 64) (s : State), s.ringDrained n.val = true) ∧
    (∃ (n : Fin 64) (t0 : Nat) (s : State), (s.ring n.val).oldest = some t0 ∧ s.rd (Reg.HST_RING_MOD_TIME n.val) ≠ 0 ∧
      s.flag (Reg.HST_RING_CFG_VEC_EN n.val) = true) :=
  ⟨⟨[[0x100,1,2,3]], 0, rg 0 0 1 12 0 ringIdle up, by decide +kernel⟩,
   ⟨0, rg 0 0 1 12 0 ringIdle up, by decide +kernel⟩,
   ⟨0, State.reset, by decide +kernel⟩,
   ⟨0, rg 0 0 1 3 3 ringIdle up, by decide +kernel⟩,
   ⟨0, rg 0 0 0 4 4 { ringIdle with disabling := true } up, by decide +kernel⟩,
   ⟨0, 5, rg 0 1 1 3 0 { ringIdle with consumed := 3, unsignalled := 2, oldest := some 5 } up, by decide +kernel⟩⟩
end C2

namespace C3
def b8 : Bytes := [1,2,3,4,5,6,7,8]
def dm := C1.dm
def ds : List Desc := [desc 0x100 5 [], desc 0x100 5 [1], desc 0x101 5 [0x1000] 0x500 8, desc 0x101 5 [0x1001] 0x500 8, desc 0x101 5 [0x1F800000] 0x500 8, desc 0x102 5 [0x1000] 0x500 8, desc 0x102 5 [0x1FE00000] 0x500 8, desc 0x102 5 [0x1000] 0x500 7]
def w8 : Desc := { desc 0x101 5 [0x1000] 0x500 8 with phase := .working }

/-- States and operands that meet the hypotheses of `Obligations.HostOpcodes`, clause by clause. -/
theorem witness_HostOpcodes :
    (∃ (ring : Fin 64) (d : Desc) (s : State), s.Alone ring.val d ∧ s.startedDesc ring.val 256 = some d) ∧
    (∃ (ring : Fin 64) (data : Bytes) (d : Desc) (s : State), s.startedDesc ring.val 257 = some d ∧ dmaParamsOk d = true ∧
      s.dmaRangeOk (d.w 0) d.len = true ∧ List.length data = d.len ∧ s.host.d3hot = false) ∧
    (∃ (ring : Fin 64) (d : Desc) (s : State), s.Alone ring.val d ∧ s.startedDesc ring.val 257 = some d ∧
      (dmaParamsOk d && s.dmaRangeOk (d.w 0) d.len) = false) ∧
    (∃ (ring : Fin 64) (d : Desc) (s : State), s.startedDesc ring.val 258 = some d ∧ dmaParamsOk d = true ∧ d.w 0 + d.len ≤ 528482304 ∧
      s.StoreSound) ∧
    (∃ (ring : Fin 64) (d : Desc) (s : State), s.Alone ring.val d ∧ s.startedDesc ring.val 258 = some d ∧ dmaParamsOk d = false) ∧
    (∃ (ring : Fin 64) (d : Desc) (x : DmaSt) (s : State), s.Alone ring.val d ∧ s.host.dma = [x] ∧ x.ring = ring.val ∧ x.index = d.index ∧
      x.hostError = false ∧ d.len = List.length x.data ∧ s.StoreSound ∧ s.dmaStopped = false) :=
  ⟨⟨1, desc 0x100 5 [], withD 1 1 0 (desc 0x100 5 []), by decide +kernel⟩,
   ⟨1, b8, desc 0x101 5 [0x1000] 0x500 8, withD 1 1 0 (desc 0x101 5 [0x1000] 0x500 8), by decide +kernel⟩,
   ⟨1, desc 0x101 5 [0x1000] 0x500 8, { withD 1 1 0 ds[2] with sealedRegions := [(0x1000, 16)] }, by decide +kernel⟩,
   ⟨1, desc 0x102 5 [0x1000] 0x500 8, withD 1 1 0 (desc 0x102 5 [0x1000] 0x500 8), by decide +kernel⟩,
   ⟨1, desc 0x102 5 [0x1000] 0x500 7, withD 1 1 0 (desc 0x102 5 [0x1000] 0x500 7), by decide +kernel⟩,
   ⟨1, w8, dm, { (withD 1 1 0 w8) with host := { (withD 1 1 0 w8).host with dma := [dm] } }, by decide +kernel⟩⟩
end C3

namespace C4
def q (r : Fin 57) (a : BitVec 29) (op : StoreOp) : StoreRequest := { requester := r, addr := a, op := op }
def some8 : List (Option Byte) := [some 1, none, some 3, some 255]
def qs : List StoreRequest := [q 3 0x800 (.read 0), q 15 0x1FFFFFF0 (.read 7), q 3 0x840 (.write some8), q 15 0x1FFFFFFE (.write some8), q 15 0x1FFFFFF0 (.write some8), q 20 0x800 (.lockBegin 0), q 20 0x900 (.lockEnd true)]
def al (s : State := State.reset) : State := mk [(Reg.ARB_ALIVE0, 0xFFFFFFFF), (Reg.ARB_ALIVE1, 0x1FFFFFF)] s
def pt (l : List (Nat × List StoreRequest)) (s : State := al) : State := { s with arb := { s.arb with ports := l } }
def lk (ls : List LockSt) (s : State := al) : State := { s with arb := { s.arb with locks := ls } }
def L (o b : Nat) : LockSt := { owner := o, base := b, size := 0, since := 0, prio := 3 }
def late : State := al { State.reset with time := { acc := 5000000007 * 2^32 + 77, elapsed := 50, rho := 0, rhoTarget := 0 } }

/-- States and operands that meet the hypotheses of `Obligations.GrantsAndRequesters`, the part RequestersWaitAndFall, clause by clause. -/
theorem witness_RequestersWaitAndFall :
    (∃ (q : StoreRequest) (rest : List StoreRequest) (s : State), s.isOff 3 = false ∧ s.port ↑q.requester = q :: rest ∧
      (∀ (b : Bool), q.op ≠ StoreOp.lockEnd b) ∧ s.arb.bursts = [] ∧
      (s.untilElapsed (s.slotFree (dieOf q.addr.toNat))).winsSlot q = true) ∧
    (∃ (r : Fin 57) (q : StoreRequest) (rest : List StoreRequest) (b : Bool) (s : State), s.isOff 3 = false ∧ s.port r.val = q :: rest ∧
      q.op = StoreOp.lockEnd b) ∧
    (∃ (r : Fin 57) (s : State), s.isOff 3 = false ∧ s.arb.bursts = [] ∧ s.lockOf r.val = none) ∧
    (∃ (r : Fin 57) (l : LockSt) (s : State), s.isOff 3 = false ∧ s.arb.bursts = [] ∧ s.lockOf r.val = some l ∧ s.StoreWhole) :=
  ⟨⟨q 15 0x1FFFFFF0 (.read 7), [], pt [(3, [qs[2]]), (15, [qs[1]])], by decide +kernel⟩,
   ⟨20, q 20 0x900 (.lockEnd true), [], true, pt [(20, [qs[6]])], by decide +kernel⟩,
   ⟨3, al, by decide +kernel⟩,
   ⟨3, L 3 0x1FFFFFFC, lk [L 20 0x900, L 3 0x1FFFFFFC, L 20 0x400] (late.storeWrite 55 0x900 [5,2,3,4,5,6,7,8]), by decide +kernel⟩⟩

/-- States and operands that meet the hypotheses of `Obligations.LocksTakenAndReleased`, clause by clause. -/
theorem witness_LocksTakenAndReleased :
    (∃ (r : Fin 57) (base : BitVec 29) (size : Fin 5) (s : State), s.isOff 3 = false ∧ mayLock r.val = true ∧
      base.toNat % (256 * 2 ^ size.val) = 0 ∧ s.alive r.val = true ∧ s.port r.val = [] ∧ s.lockOf r.val = none ∧ s.StoreWhole ∧
      s.arb.bursts = [] ∧
      ((s.enqueue { requester := r, addr := base, op := StoreOp.lockBegin size }).untilElapsed ((s.enqueue { requester := r, addr := base, op := StoreOp.lockBegin size }).slotFree (dieOf base.toNat))).winsSlot { requester := r, addr := base, op := StoreOp.lockBegin size } = true) ∧
    (∃ (r : Fin 57) (base : BitVec 29) (recovered : Bool) (l : LockSt) (s : State), s.isOff 3 = false ∧ mayLock r.val = true ∧
      s.lockOf r.val = some l ∧ l.base = base.toNat ∧ base.toNat % 256 = 0 ∧ s.alive r.val = true ∧ s.port r.val = [] ∧ s.StoreWhole ∧
      s.arb.bursts = [] ∧
      ((s.enqueue { requester := r, addr := base, op := StoreOp.lockEnd recovered }).untilElapsed ((s.enqueue { requester := r, addr := base, op := StoreOp.lockEnd recovered }).slotFree (dieOf base.toNat))).winsSlot { requester := r, addr := base, op := StoreOp.lockEnd recovered } = true) :=
  ⟨⟨20, 0x800, 0, al, by decide +kernel⟩,
   ⟨20, 0x900, false, L 20 0x900, lk [L 20 0x900, L 3 0x1FFFFFFC, L 20 0x400] (late.storeWrite 55 0x900 [5,2,3,4,5,6,7,8]), by decide +kernel⟩⟩
end C4

namespace C4b
def q (r : Fin 57) (a : BitVec 29) (op : StoreOp) : StoreRequest := { requester := r, addr := a, op := op }
def some8 : List (Option Byte) := [some 1, none, some 3, some 255]
def qs : List StoreRequest := [q 3 0x800 (.read 0), q 15 0x1FFFFFF0 (.read 7), q 3 0x840 (.write some8), q 15 0x1FFFFFFE (.write some8), q 15 0x1FFFFFF0 (.write some8), q 20 0x800 (.lockBegin 0), q 20 0x900 (.lockEnd true)]
def al (s : State := State.reset) : State := mk [(Reg.ARB_ALIVE0, 0xFFFFFFFF), (Reg.ARB_ALIVE1, 0x1FFFFFF)] s
def pt (l : List (Nat × List StoreRequest)) (s : State := al) : State := { s with arb := { s.arb with ports := l } }

/-- States and operands that meet the hypotheses of `Obligations.GrantsAndRequesters`, the part DieGrantsByPrecedence, clause by clause. -/
theorem witness_DieGrantsByPrecedence :
    (∃ (s : State) (cands : List StoreRequest) (w x : StoreRequest), s.bestOf cands = some w ∧ x ∈ cands) ∧
    (∃ (d : Fin 8) (arrivals : List StoreRequest) (strikes : List Strike) (s0 : State) (w : StoreRequest), s0.isOff 3 = false ∧
      ((have u := List.foldl State.enqueue (List.foldl State.strike s0 strikes) arrivals;
      (u.untilElapsed (u.slotFree d.val)).landBursts).winner
    d.val =
  some w) ∧
      w.op ≠ StoreOp.command ∧ (∀ (size : Fin 5), w.op ≠ StoreOp.lockBegin size) ∧ (∀ (b : Bool), w.op ≠ StoreOp.lockEnd b)) :=
  ⟨⟨al, [qs[0]], q 3 0x800 (.read 0), q 3 0x800 (.read 0), by decide +kernel⟩,
   ⟨0, [], [], pt [(3, [qs[0], qs[2]])], q 3 0x800 (.read 0), by decide +kernel⟩⟩
end C4b

namespace C6b
def base := mk [(Reg.STO_CTRL, 1)]

/-- States and operands that meet the hypotheses of `Obligations.StoreAccess`, the part StoreErrorsAndScrub, clause by clause. -/
theorem witness_StoreErrorsAndScrub :
    (∃ (d : Fin 8) (s : State), s.isOff 2 = false ∧ s.dieLost d.val = false ∧ demotesFrom 3 s.rooState = false) ∧
    (∃ (d : Fin 8) (s : State), s.isOff 2 = false ∧ s.flag Reg.STO_CTRL = true ∧ s.store.marks = [] ∧
      s.rd (Reg.STO_DIE_SCRUB_POS d.val) + 1 < 2 ^ 18) ∧
    (∃ (d : Fin 8) (addr : BitVec 29) (s : State), s.isOff 2 = false ∧ s.flag Reg.STO_CTRL = true ∧ s.store.marks = [] ∧
      s.dieLost d.val = false ∧ addr.toNat / 256 * 256 = granuleAddr d.val (s.rd (Reg.STO_DIE_SCRUB_POS d.val)) ∧
      s.rd Reg.STO_CE_LEVEL = 0) ∧
    (∃ (s : State), s.isOff 2 = false ∧ s.flag Reg.STO_CTRL = false) :=
  ⟨⟨0, State.reset, by decide +kernel⟩,
   ⟨0, State.reset, by decide +kernel⟩,
   ⟨0, 0, mk [(Reg.STO_CE_LEVEL, 0)] base, by decide +kernel⟩,
   ⟨mk [(Reg.STO_CTRL, 0)], by decide +kernel⟩⟩
end C6b

namespace C7b
def unp : State := { State.reset with store := { State.reset.store with powered := false } }

/-- States and operands that meet the hypotheses of `Obligations.StoreAccess`, the part StoreWindow, clause by clause. -/
theorem witness_StoreWindow :
    (∃ (addr : Nat) (data : List (Option Byte)) (s : State), addr + data.length ≤ 536870912 ∧ s.barsUp = true ∧ s.store.powered = true ∧
      s.StoreSound ∧ (∀ (j : Nat), j < data.length → s.hostMayWrite (addr + j) = true)) ∧
    (∃ (addr len : Nat) (s : State), (addr + len ≤ 528482304 ∨ 532676608 ≤ addr ∧ addr + len ≤ 534773760) ∧ s.barsUp = true ∧
      s.store.powered = true ∧ s.StoreSound) :=
  ⟨⟨0, [], State.reset, by decide +kernel⟩,
   ⟨0, 0, State.reset, by decide +kernel⟩⟩

/-- States and operands that meet the hypotheses of `Obligations.PoweredDownStore`, clause by clause. -/
theorem witness_PoweredDownStore :
    (∃ (addr : Nat) (data : List (Option Byte)) (s : State), addr + data.length ≤ 536870912 ∧ s.barsUp = true ∧ s.store.powered = false) ∧
    (∃ (addr len : Nat) (s : State), addr + len ≤ 536870912 ∧ s.barsUp = true ∧ s.store.powered = false) :=
  ⟨⟨0, [], unp, by decide +kernel⟩,
   ⟨0, 0, unp, by decide +kernel⟩⟩
end C7b

namespace C5
def q (r : Fin 57) (a : BitVec 29) (op : StoreOp) : StoreRequest := { requester := r, addr := a, op := op }
def some8 : List (Option Byte) := [some 1, none, some 3, some 255]
def al (s : State := State.reset) : State := mk [(Reg.ARB_ALIVE0, 0xFFFFFFFF), (Reg.ARB_ALIVE1, 0x1FFFFFF)] s
def bu (d : Nat) (b : BurstSt) (s : State) : State := { s with arb := { s.arb with bursts := [(d, [b])] } }
def B : BurstSt := { request := q 3 0x800 (.read 0), granted := 0, turn := false }
def late : State := al { State.reset with time := { acc := 5000000007 * 2^32 + 77, elapsed := 50, rho := 0, rhoTarget := 0 } }
def B3 : BurstSt := { B with request := q 4 0x840 (.write some8) }
def done (d : Nat) (b : BurstSt) : State := bu d b late

/-- States and operands that meet the hypotheses of `Obligations.GrantsAndRequesters`, the part DieGrantsByPrecedence, clause by clause. -/
theorem witness_DieGrantsByPrecedence :
    (∃ (d : Fin 8) (s : State) (b : BurstSt) (k : Fin 8), s.isOff 3 = false ∧ s.arb.ports = [] ∧ s.arb.bursts = [(d.val, [b])] ∧
      b.lastBeat ≤ s.time.elapsed ∧ s.slotFree d.val ≤ s.time.elapsed ∧ b.request.op = StoreOp.read k ∧
      (↑b.request.requester < 16 ∨ 24 ≤ ↑b.request.requester ∧ ↑b.request.requester ≠ 55) ∧ s.StoreWhole) ∧
    (∃ (d : Fin 8) (s : State) (b : BurstSt) (data : List (Option Byte)), s.isOff 3 = false ∧ s.arb.ports = [] ∧
      s.arb.bursts = [(d.val, [b])] ∧ b.lastBeat ≤ s.time.elapsed ∧ s.slotFree d.val ≤ s.time.elapsed ∧
      b.request.op = StoreOp.write data ∧ data ≠ [] ∧ (↑b.request.requester < 16 ∨ 24 ≤ ↑b.request.requester) ∧ s.StoreWhole) :=
  ⟨⟨0, done 0 B, B, 0, by decide +kernel⟩,
   ⟨0, done 0 B3, B3, some8, by decide +kernel⟩⟩
end C5

namespace C8
def some8 : List (Option Byte) := [some 1, none, some 3, some 255]

/-- States and operands that meet the hypotheses of `Obligations.StoreAccess`, the part StoreWindow, clause by clause. -/
theorem witness_StoreWindow :
    (∃ (addr : Nat) (data : List (Option Byte)) (s : State), 528482304 ≤ addr ∧ addr + data.length ≤ 536870912 ∧ s.barsUp = true ∧
      s.store.powered = true ∧ s.StoreSound ∧ ((data.any fun x => x.isSome) = true)) ∧
    (∃ (addr len : Nat) (s : State), 534773760 ≤ addr ∧ addr + len ≤ 536870912 ∧ 0 < len ∧ s.barsUp = true ∧ s.store.powered = true ∧
      s.StoreSound) ∧
    (∃ (addr len : Nat) (s : State), 528482304 ≤ addr ∧ addr + len ≤ 532676608 ∧ s.barsUp = true ∧ s.store.powered = true ∧ s.StoreSound) :=
  ⟨⟨0x1F800000, some8, State.reset, by decide +kernel⟩,
   ⟨0x1FFFFFFC, 4, State.reset, by decide +kernel⟩,
   ⟨0x1F800000, 4, State.reset, by decide +kernel⟩⟩
end C8

namespace D1
def hk (n : Nat) (h : HawkSt) (s : State := State.reset) : State := s.setHawk n h
def ln (p : List Nat) (b : Bool) : LineSt := { data := List.replicate 64 9, dirty := b, poison := p }
def rq (k : Nat) (en : Nat) (ws : List Nat) (s : State := State.reset) : State := let s := mk [(Reg.TSK_CTRL_ENABLE, 1), (Reg.TSK_Q_CTRL k, en), (Reg.TSK_Q_STAT_FILL k, ws.length)] s; { s with tsk := { s.tsk with ready := [(k, ws)], headSince := [(k, 0)] } }

/-- States and operands that meet the hypotheses of `Obligations.ControlPage`, clause by clause. -/
theorem witness_ControlPage :
    (∃ (core : Fin 8) (s : State), s.port (16 + core.val) = [] ∧ s.midBurst (16 + core.val) = false ∧ s.windowWriteHeld core = false) ∧
    (∃ (n : Fin 8) (mask : BitVec 8) (s : State), s.isOff 4 = false ∧ bitOf mask.toNat n.val = true ∧ (s.hawk n.val).waits = true ∧
      bitOf (s.csr n.val 772) 3 = true ∧ (∀ (k : Nat), k < 8 → k ≠ n.val → (s.hawk k).waits = false)) ∧
    (∃ (core : Fin 8) (s : State), s.isOff 4 = false ∧ (s.hawk core.val).mtimecmp ≠ 2 ^ 64 - 1 ∧ s.NoWake) ∧
    (∃ (word : BitVec 64) (s : State),
      let w : Nat := withBits (withBits word.toNat 18 1 0) 19 1 0
      s.isOff 4 = false ∧ taskInvalid w = true) ∧
    (∃ (k : Fin 16) (word : BitVec 64) (s : State),
      let w : Nat := withBits (withBits word.toNat 18 1 0) 19 1 0
      s.isOff 4 = false ∧ taskInvalid w = false ∧ s.readyOn k.val = false) ∧
    (∃ (k : Fin 16) (word : BitVec 64) (s : State),
      let w : Nat := withBits (withBits word.toNat 18 1 0) 19 1 0
      s.isOff 4 = false ∧ taskInvalid w = false ∧ s.readyOn k.val = true ∧ s.readyRoom k.val = false) ∧
    (∃ (k : Fin 16) (word : BitVec 64) (s : State),
      let w : Nat := withBits (withBits word.toNat 18 1 0) 19 1 0
      s.isOff 4 = false ∧ taskInvalid w = false ∧ s.readyOn k.val = true ∧ s.readyRoom k.val = true) :=
  ⟨⟨0, State.reset, by decide +kernel⟩,
   ⟨0, 1, hk 0 { hawkIdle with waits := true, csrs := [(0x304, 0x888)] }, by decide +kernel⟩,
   ⟨0, hk 0 { hawkIdle with postres := 3, mtimecmp := 50 } (hk 7 { hawkIdle with msip := true, mtimecmp := 3 }), by decide +kernel⟩,
   ⟨0xFFFFFFFFFFFFFFFF, State.reset, by decide +kernel⟩,
   ⟨0, 0, State.reset, by decide +kernel⟩,
   ⟨15, 0, rq 15 1 (List.replicate 1024 5) (mk [(Reg.TSK_REFUSED, 0xFFFFFFFF)]), by decide +kernel⟩,
   ⟨0, 0, rq 0 1 [], by decide +kernel⟩⟩
end D1

namespace D2
def hk := @D1.hk
def ln := D1.ln
def lines : List (Nat × Option LineSt) := [(0x1000, some (ln [0] true)), (0x1040, some (ln [] true)), (0x2000, some (ln [] true)), (0x1040, some (ln [] false)), (0x1080, none)]

/-- States and operands that meet the hypotheses of `Obligations.CoresAndCaches`, the part CacheOperations, clause by clause. -/
theorem witness_CacheOperations :
    (∃ (core : Fin 8) (len : BitVec 64) (a : BitVec 29) (data : Bytes) (s : State), s.isOff 4 = false ∧ s.StoreSound ∧
      cmoOk (s.hawk core.val).cmoBase len.toNat = true ∧ (s.hawk core.val).cmoBase ≤ a.toNat ∧
      a.toNat < (s.hawk core.val).cmoBase + len.toNat ∧ a.toNat % 64 = 0 ∧ List.length data = 64 ∧
      (∀ (j : Nat), j < 64 → s.hostMayWrite (a.toNat + j) = true) ∧
      (∀ (c : Nat), c < 8 → linesIn (s.hawk c).lines (s.hawk core.val).cmoBase len.toNat = []) ∧
      linesIn s.l2 (s.hawk core.val).cmoBase len.toNat = [] ∧ (s.hawk core.val).lines.length < l1Lines) ∧
    (∃ (core : Fin 8) (len : BitVec 64) (s : State), s.isOff 4 = false ∧ cmoOk (s.hawk core.val).cmoBase len.toNat = false) :=
  ⟨⟨0, 64, 0x1000, List.replicate 64 7, hk 0 { hawkIdle with cmoBase := 0x1000 }, by decide +kernel⟩,
   ⟨0, 0, State.reset, by decide +kernel⟩⟩
end D2

namespace D3
def hk := @D1.hk
def rq := @D1.rq
def en (l : List Nat) (s : State) : State := mk (l.flatMap (fun n => [(Reg.HWK_CTRL_ENABLE n, 1), (Reg.HWK_STAT_STATE n, 2), (Reg.HWK_WDOG n, 7), (Reg.HWK_BOOT_LO n, 0x1234)])) s
def w1 : Nat := 5 + 3 * 2^12 + 2^17 + 2 * 2^20 + 7 * 2^32
def w2 : Nat := 6 + 0x81 * 2^24
def t1 : TaskSt := { word := w1, start := 5, overrun := false }
def t2 : TaskSt := { word := w2 + 2^20, start := 5, overrun := false }
def wt : HawkSt := { hawkIdle with waits := true }
def late : State := { State.reset with time := { acc := 5000000007 * 2^32 + 77, elapsed := 50000, rho := 0, rhoTarget := 0 } }
def qq (q : Nat) (en : Nat) (ws : List Nat) (s : State) : State := (mk [(Reg.QUE_CTRL q, en)] s).setQueue q ws
def recs (l : List (Nat × Nat)) (s : State) : State := { s with tsk := { s.tsk with records := l } }
def aff (l : List (Nat × Option Nat)) (s : State) : State := { s with tsk := { s.tsk with affinity := l } }

/-- States and operands that meet the hypotheses of `Obligations.TasksOnCores`, clause by clause. -/
theorem witness_TasksOnCores :
    (∃ (core : Fin 8) (s : State), s.isOff 4 = false ∧ s.rd (Reg.HWK_STAT_STATE core.val) ≠ 0 ∧ (s.hawk core.val).waits = false ∧
      (s.hawk core.val).task = none ∧ s.flag (Reg.HWK_CTRL_ENABLE core.val) = true ∧ s.interruptPending core.val = false) ∧
    (∃ (core : Fin 8) (τ : TaskSt) (s : State), s.isOff 4 = false ∧ s.rd (Reg.HWK_STAT_STATE core.val) ≠ 0 ∧
      (s.hawk core.val).waits = false ∧ (s.hawk core.val).task = some τ ∧ taskCqEn τ.word = true ∧ s.queueOn (taskCq τ.word) = true ∧
      (s.queue (taskCq τ.word)).length < 256 ∧ s.flag (Reg.HWK_CTRL_ENABLE core.val) = true ∧
      (List.find? (fun r => r.fst == taskCq τ.word) s.tsk.records = none) ∧ s.recordCore (taskCq τ.word) = none ∧
      (s.endTask core.val 0).interruptPending core.val = false ∧ s.NoWake) ∧
    (∃ (q : Fin 32) (r : Nat × Nat) (s : State), s.isOff 4 = false ∧ s.queueOn q.val = true ∧ (s.queue q.val).length < 256 ∧
      (List.find? (fun r => r.fst == q.val) s.tsk.records = some r) ∧ s.NoWake) ∧
    (∃ (q : Fin 32) (n : Fin 8) (rec_ : Nat) (s : State), s.isOff 4 = false ∧ s.queueOn q.val = true ∧ (s.queue q.val).length < 256 ∧
      (List.find? (fun r => r.fst == q.val) s.tsk.records = none) ∧ (s.hawk n.val).record = some (q.val, rec_) ∧
      (∀ (m : Nat), m < n.val → (s.hawk m).record = none) ∧ s.NoWake) ∧
    (∃ (k : Fin 16) (n w : Nat) (rest : List Nat) (s : State), s.isOff 5 = false ∧ s.readyOn k.val = true ∧
      s.readyQueue k.val = w :: rest ∧ (∀ (j : Nat), j < 16 → k.val < j → s.readyQueue j = []) ∧
      s.headChoice k.val w = HeadChoice.core n ∧ (∀ (m : Nat), m < 64 → (s.ring m).descs = [])) ∧
    (∃ (k : Fin 16) (r n w : Nat) (rest : List Nat) (s : State), s.isOff 5 = false ∧ s.readyOn k.val = true ∧
      s.readyQueue k.val = w :: rest ∧ tblGet s.tsk.affinity none (taskFunc w) = some r ∧ (s.permitted w).contains r = true ∧
      s.coreFree r = false ∧ List.find? s.coreFree (s.permitted w) = some n ∧ (∀ (j : Nat), j < 16 → k.val < j → s.readyQueue j = [])) ∧
    (∃ (core : Fin 8) (τ : TaskSt) (s : State), s.isOff 4 = false ∧ (s.hawk core.val).task = some τ ∧ taskBudget τ.word ≠ 0 ∧
      τ.overrun = false) ∧
    (∃ (core : Fin 8) (τ : TaskSt) (s : State), s.isOff 4 = false ∧ (s.hawk core.val).task = some τ ∧ taskCqEn τ.word = false ∧
      s.rd (Reg.HWK_WDOG core.val) ≠ 0 ∧ s.flag (Reg.HWK_CTRL_ENABLE core.val) = true ∧ s.arb.bursts = [] ∧
      s.lockOf (16 + core.val) = none) :=
  ⟨⟨0, en [0,7] State.reset, by decide +kernel⟩,
   ⟨0, t1, en [0,7] (qq 3 1 [5] (hk 0 { hawkIdle with task := some t1 } late)), by decide +kernel⟩,
   ⟨3, (3, 2^63 + 5), recs [(3, 2^63 + 5), (4, 5), (3, 6)] (qq 3 1 [7] (en [0] State.reset)), by decide +kernel⟩,
   ⟨3, 0, 2^63 + 9, qq 3 1 [7] (en [0] (hk 0 { hawkIdle with record := some (3, 2^63 + 9) } (hk 7 { hawkIdle with record := some (3, 4) }))), by decide +kernel⟩,
   ⟨0, 0, w2, [w1], en [0,7] (hk 0 wt (aff [(6, some 7)] (rq 0 1 [w2, w1] late))), by decide +kernel⟩,
   ⟨0, 7, 0, w2, [], en [0,7] (hk 0 wt (aff [(6, some 7)] (rq 0 1 [w2] State.reset))), by decide +kernel⟩,
   ⟨0, t1, en [0,7] (qq 3 1 [5] (hk 0 { hawkIdle with task := some t1 } late)), by decide +kernel⟩,
   ⟨7, t2, en [0,7] (hk 7 { hawkIdle with task := some t2 } late), by decide +kernel⟩⟩
end D3

namespace D4
def hk := @D1.hk
def en := D3.en
def full : HawkSt := { hawkIdle with pc := 7, xregs := [1,2], csrs := [(0x304, 8)], machineMode := false, postres := 3, mtip := true, msip := true, lines := D2.lines, mtimecmp := 55 }

/-- States and operands that meet the hypotheses of `Obligations.CoresAndCaches`, the part CoresStartAndStop, clause by clause. -/
theorem witness_CoresStartAndStop :
    (∃ (n : Fin 8) (s : State), s.isOff 4 = false ∧ s.flag (Reg.HWK_STAT_QUIESCENT n.val) = true ∧
      s.flag (Reg.HWK_CTRL_ENABLE n.val) = false) ∧
    (∃ (n : Fin 8) (s : State), s.isOff 4 = false ∧ s.flag (Reg.HWK_CTRL_ENABLE n.val) = true ∧
      (∀ (k : Nat), k < 16 → s.readyQueue k = []) ∧ s.arb.bursts = [] ∧ s.lockOf (16 + n.val) = none) ∧
    (∃ (n : Fin 8) (s : State), s.isOff 4 = false ∧ s.flag (Reg.HWK_CTRL_ENABLE n.val) = true ∧ (s.hawk n.val).task = none ∧
      s.arb.bursts = [] ∧ s.lockOf (16 + n.val) = none) ∧
    (∃ (n : Fin 8) (d : Nat) (s : State), s.isOff 4 = false ∧ (s.hawk n.val).stopBy = some d ∧ s.flag (Reg.HWK_CTRL_ENABLE n.val) = false ∧
      (s.hawk n.val).task = none ∧ s.arb.bursts = [] ∧ s.lockOf (16 + n.val) = none) :=
  ⟨⟨0, State.reset, by decide +kernel⟩,
   ⟨0, en [0] (hk 0 full), by decide +kernel⟩,
   ⟨0, en [0] (hk 0 full), by decide +kernel⟩,
   ⟨0, 0, mk [(Reg.HWK_CTRL_ENABLE 0, 0)] (hk 0 { full with stopBy := some 0, record := some (3, 4) }), by decide +kernel⟩⟩
end D4

namespace D5
def rq := @D1.rq
def w1 := D3.w1
def p (k w : Nat) : Desc := desc 0x0501 5 [k, w % 2^32, w / 2^32]
def ds : List Desc := [p 0 w1, p 15 (2^64 - 1), p 0 (w1 + 2^18 + 2^19), p 0 (30 * 2^12 + 2^17)]
def rd (d : Desc) (s : State) : State := withD 1 5 0 d s

/-- States and operands that meet the hypotheses of `Obligations.SchedulerControl`, clause by clause. -/
theorem witness_SchedulerControl :
    (∃ (s : State), s.isOff 5 = false ∧ s.flag Reg.TSK_STAT_QUIESCENT = true ∧ s.flag Reg.TSK_CTRL_ENABLE = false) ∧
    (∃ (s : State), s.isOff 5 = false ∧ s.flag Reg.TSK_CTRL_ENABLE = true ∧ s.NoWake) ∧
    (∃ (k : Fin 16) (s : State), s.isOff 5 = false ∧ s.flag (Reg.TSK_Q_CTRL k.val) = true ∧ s.NoWake) ∧
    (∃ (k : Fin 16) (s : State), s.isOff 5 = false ∧ s.readyOn k.val = false ∧ s.readyQueue k.val = [] ∧
      s.flag (Reg.TSK_Q_STAT_QUIESCENT k.val) = false) ∧
    (∃ (s : State), s.isOff 5 = false ∧ s.flag Reg.TSK_CTRL_ENABLE = false ∧ s.flag Reg.TSK_STAT_QUIESCENT = false ∧
      (∀ (k : Nat), k < 16 → s.readyQueue k = []) ∧ (∀ (c : Nat), c < 8 → (s.hawk c).task = none)) ∧
    (∃ (ring : Fin 64) (d : Desc) (s : State),
      let k : Nat := bitsOf (d.w 0) 0 4
      let w : Nat := d.w 1 + d.w 2 * 2 ^ 32
      s.Alone ring.val d ∧ s.startedDesc ring.val 1281 = some d ∧ d.reservedOk false 3 = true ∧ d.w 0 < 16 ∧ taskInvalid w = false ∧
      s.readyOn k = true ∧ s.readyRoom k = true) ∧
    (∃ (ring : Fin 64) (d : Desc) (s : State),
      let k : Nat := bitsOf (d.w 0) 0 4
      let w : Nat := d.w 1 + d.w 2 * 2 ^ 32
      s.Alone ring.val d ∧ s.startedDesc ring.val 1281 = some d ∧ d.reservedOk false 3 = true ∧ d.w 0 < 16 ∧ taskInvalid w = false ∧
      s.readyOn k = true ∧ s.readyRoom k = false) ∧
    (∃ (ring : Fin 64) (d : Desc) (s : State),
      let k : Nat := bitsOf (d.w 0) 0 4
      let w : Nat := d.w 1 + d.w 2 * 2 ^ 32
      s.Alone ring.val d ∧ s.startedDesc ring.val 1281 = some d ∧ d.reservedOk false 3 = true ∧ d.w 0 < 16 ∧ taskInvalid w = false ∧
      s.readyOn k = false) ∧
    (∃ (ring : Fin 64) (d : Desc) (s : State),
      let w : Nat := d.w 1 + d.w 2 * 2 ^ 32
      s.Alone ring.val d ∧ s.startedDesc ring.val 1281 = some d ∧ d.reservedOk false 3 = true ∧ d.w 0 < 16 ∧ taskInvalid w = true) :=
  ⟨⟨State.reset, by decide +kernel⟩,
   ⟨rq 0 1 [w1, 5 + 2^17, 6], by decide +kernel⟩,
   ⟨0, mk [(Reg.TSK_Q_CTRL 0, 1), (Reg.TSK_Q_CTRL 15, 1)], by decide +kernel⟩,
   ⟨0, mk [(Reg.TSK_Q_STAT_QUIESCENT 0, 0), (Reg.TSK_STAT_QUIESCENT, 0)], by decide +kernel⟩,
   ⟨mk [(Reg.TSK_Q_STAT_QUIESCENT 15, 0), (Reg.TSK_STAT_QUIESCENT, 0)], by decide +kernel⟩,
   ⟨1, p 0 w1, rd ds[0] (rq 0 1 [5]), by decide +kernel⟩,
   ⟨1, p 0 w1, rd ds[0] (rq 0 1 (List.replicate 1024 5)), by decide +kernel⟩,
   ⟨1, p 0 w1, rd ds[0] State.reset, by decide +kernel⟩,
   ⟨1, p 15 (2^64 - 1), rd ds[1] (rq 15 1 []), by decide +kernel⟩⟩
end D5

namespace D6
def rn (s : State) : State := mk [(Reg.HWK_STAT_STATE 0, 2), (Reg.HWK_STAT_STATE 7, 3)] s
def qq := D3.qq

/-- States and operands that meet the hypotheses of `Obligations.HardwareQueues`, clause by clause. -/
theorem witness_HardwareQueues :
    (∃ (core : Fin 8) (q : Fin 30) (w : Nat) (rest : List Nat) (s : State), s.isOff 4 = false ∧ s.coreRuns core.val = true ∧
      s.queue q.val = w :: rest ∧ rest.length < 512) ∧
    (∃ (core : Fin 8) (q : Fin 32) (s : State), s.isOff 4 = false ∧ s.coreRuns core.val = true ∧ s.queue q.val = []) ∧
    (∃ (q : Fin 30) (w : Nat) (rest : List Nat) (s : State), s.isOff 6 = false ∧ s.queue q.val = w :: rest) ∧
    (∃ (q : Fin 31) (core : Fin 8) (s : State), s.isOff 4 = false ∧ s.isOff 6 = false ∧ s.coreRuns core.val = true ∧ s.NoWake ∧
      (List.find? (fun r => r.fst == q.val) s.tsk.records = none) ∧ s.recordCore q.val = none ∧ s.queueOn q.val = true ∧
      (s.queue q.val).length < 256) ∧
    (∃ (q : Fin 31) (core : Fin 8) (s : State), s.isOff 4 = false ∧ s.isOff 6 = false ∧ s.coreRuns core.val = true ∧ s.NoWake ∧
      (List.find? (fun r => r.fst == q.val) s.tsk.records = none) ∧ s.recordCore q.val = none ∧ s.queueOn q.val = true ∧
      256 ≤ (s.queue q.val).length) ∧
    (∃ (q : Fin 31) (core : Fin 8) (s : State), s.isOff 4 = false ∧ s.isOff 6 = false ∧ s.coreRuns core.val = true ∧ s.NoWake ∧
      (List.find? (fun r => r.fst == q.val) s.tsk.records = none) ∧ s.recordCore q.val = none ∧ s.queueOn q.val = false) ∧
    (∃ (q : Fin 32) (s : State), s.isOff 6 = false ∧ q.val < 30 ∧ s.flag (Reg.QUE_STAT_QUIESCENT q.val) = true) ∧
    (∃ (q : Fin 32) (s : State), s.isOff 6 = false ∧ (30 ≤ q.val ∨ s.flag (Reg.QUE_STAT_QUIESCENT q.val) = false)) ∧
    (∃ (q : Fin 32) (s : State), s.isOff 6 = false ∧ q.val < 30 ∧ s.flag (Reg.QUE_CTRL q.val) = true) :=
  ⟨⟨0, 0, 5, [2^62 + 1, 2^63 + 3], rn (qq 0 1 [5, 2^62 + 1, 2^63 + 3] (mk [(Reg.QUE_LEVEL_THRESH 0, 4), (Reg.QUE_CFG 0, 2)])), by decide +kernel⟩,
   ⟨0, 0, rn (qq 29 1 (List.replicate 256 (2^64 + 5)) State.reset), by decide +kernel⟩,
   ⟨0, 5, [2^62 + 1, 2^63 + 3], qq 0 1 [5, 2^62 + 1, 2^63 + 3] (mk [(Reg.QUE_LEVEL_THRESH 0, 4), (Reg.QUE_CFG 0, 2)]), by decide +kernel⟩,
   ⟨0, 0, rn (qq 0 1 [5, 2^62 + 1, 2^63 + 3] (mk [(Reg.QUE_LEVEL_THRESH 0, 4), (Reg.QUE_CFG 0, 2)])), by decide +kernel⟩,
   ⟨29, 0, rn (qq 29 1 (List.replicate 256 (2^64 + 5)) State.reset), by decide +kernel⟩,
   ⟨0, 0, rn (qq 29 1 (List.replicate 256 (2^64 + 5)) State.reset), by decide +kernel⟩,
   ⟨0, State.reset, by decide +kernel⟩,
   ⟨0, mk [(Reg.QUE_STAT_XCNT 0, 3), (Reg.QUE_STAT_NOTICE 0, 1), (Reg.QUE_STAT_OVERFLOW 0, 1), (Reg.QUE_STAT_QUIESCENT 0, 0), (Reg.QUE_DISCARD 0, 0xFFFFFFFF)], by decide +kernel⟩,
   ⟨0, qq 0 1 [5, 2^62 + 1, 2^63 + 3] (mk [(Reg.QUE_LEVEL_THRESH 0, 4), (Reg.QUE_CFG 0, 2)]), by decide +kernel⟩⟩
end D6

namespace D2b
def hk (n : Nat) (h : HawkSt) (s : State := State.reset) : State := s.setHawk n h
def ln (p : List Nat) (b : Bool) : LineSt := { data := List.replicate 64 9, dirty := b, poison := p }
def run (s : State) : State := mk [(Reg.HWK_STAT_STATE 0, 2), (Reg.HWK_STAT_STATE 7, 3)] s

/-- States and operands that meet the hypotheses of `Obligations.CoresAndCaches`, the part CoreAccesses, clause by clause. -/
theorem witness_CoreAccesses :
    (∃ (core : Fin 8) (addr : BitVec 64) (size : Fin 4) (a : Nat) (s : State), s.isOff 4 = false ∧ s.coreRuns core.val = true ∧
      addr.toNat = 536870912 + a ∧ addr.toNat % 2 ^ size.val = 0 ∧ a + 2 ^ size.val ≤ 528482304 ∧ s.StoreSound) ∧
    (∃ (core : Fin 8) (addr : BitVec 64) (size : Fin 4) (a : Nat) (s : State), s.isOff 4 = false ∧ s.coreRuns core.val = true ∧
      addr.toNat = 536870912 + a ∧ addr.toNat % 2 ^ size.val = 0 ∧ (∀ (j : Nat), j < 2 ^ size.val → s.hostMayWrite (a + j) = true) ∧
      s.StoreSound) ∧
    (∃ (core : Fin 8) (addr : BitVec 64) (size : Fin 4) (l : LineSt) (s : State), s.isOff 4 = false ∧ s.coreRuns core.val = true ∧
      addr.toNat < 536870912 ∧ addr.toNat % 2 ^ size.val = 0 ∧ s.l1 core.val (addr.toNat / 64 * 64) = some l ∧ l.poison = [] ∧
      List.length l.data = 64) ∧
    (∃ (core : Fin 8) (addr : BitVec 64) (size : Fin 4) (s : State), s.isOff 4 = false ∧ s.coreRuns core.val = true ∧
      addr.toNat < 536870912 ∧ addr.toNat % 2 ^ size.val = 0 ∧ (s.hawk core.val).reserved = none) ∧
    (∃ (core : Fin 8) (k : BitVec 12) (s : State), s.isOff 4 = false ∧ s.coreRuns core.val = true ∧ csrExists k.toNat = true ∧
      k.toNat < 3072 ∧ ¬k.toNat ∈ [772, 836]) ∧
    (∃ (core : Fin 8) (k : BitVec 12) (s : State), s.isOff 4 = false ∧ s.coreRuns core.val = true ∧ csrExists k.toNat = false) ∧
    (∃ (core : Fin 8) (addr : BitVec 64) (size : Fin 4) (s : State), s.isOff 4 = false ∧ s.coreRuns core.val = true ∧
      addr.toNat < 1073741824 ∧ addr.toNat % 2 ^ size.val ≠ 0) ∧
    (∃ (core : Fin 8) (addr : BitVec 64) (s : State), s.isOff 4 = false ∧ s.coreRuns core.val = true ∧ 2684354560 ≤ addr.toNat ∧
      addr.toNat % 8 = 0) :=
  ⟨⟨0, 0x20001000, 0, 0x1000, run State.reset, by decide +kernel⟩,
   ⟨0, 0x20001000, 0, 0x1000, run State.reset, by decide +kernel⟩,
   ⟨0, 0x1000, 0, ln [] false, run (hk 0 { hawkIdle with lines := [(0x1000, some (ln [] false))] } (hk 7 { hawkIdle with csrs := [(0x305, 0x80000101), (0x300, 0x88)], lines := [(0x1000, some (ln [] true))], machineMode := false })), by decide +kernel⟩,
   ⟨0, 0x1000, 0, run State.reset, by decide +kernel⟩,
   ⟨0, 0x300, run State.reset, by decide +kernel⟩,
   ⟨0, 0x180, run State.reset, by decide +kernel⟩,
   ⟨0, 0x20001003, 1, run State.reset, by decide +kernel⟩,
   ⟨0, 0xA0000000, run State.reset, by decide +kernel⟩⟩
end D2b

namespace E1

/-- States and operands that meet the hypotheses of `Obligations.SurfacesAndTables`, clause by clause. -/
theorem witness_SurfacesAndTables :
    (∃ (v : Word) (s : State), s.isOff 10 = false ∧ ltabOk (BitVec.toNat v % 2 ^ 29) = true) ∧
    (∃ (v : Word) (s : State), s.isOff 10 = false ∧ ltabOk (BitVec.toNat v % 2 ^ 29) = false) ∧
    (∃ (v : Word) (s : State), s.isOff 11 = false ∧ ftabOk (BitVec.toNat v % 2 ^ 29) = true) ∧
    (∃ (v : Word) (s : State), s.isOff 11 = false ∧ ftabOk (BitVec.toNat v % 2 ^ 29) = false) ∧
    (∃ (v : Word) (s : State), s.isOff 11 = false ∧ lampOk (BitVec.toNat v % 2 ^ 29) = true) ∧
    (∃ (v : Word) (s : State), s.isOff 11 = false ∧ lampOk (BitVec.toNat v % 2 ^ 29) = false) ∧
    (∃ (v : Word) (s : State), s.isOff 12 = false ∧ eptOk (BitVec.toNat v % 2 ^ 29) (s.rd Reg.EPT_COUNT_NEXT) = true) ∧
    (∃ (v : Word) (s : State), s.isOff 12 = false ∧ eptOk (BitVec.toNat v % 2 ^ 29) (s.rd Reg.EPT_COUNT_NEXT) = false) ∧
    (∃ (v : Word) (s : State), s.isOff 11 = false ∧ s.flag Reg.PIX_STAT_QUIESCENT = true ∧ BitVec.toNat v % 256 = 0 ∧
      BitVec.toNat v % 2 ^ 29 < 528482304) ∧
    (∃ (v : Word) (s : State), s.isOff 11 = false ∧
      (s.flag Reg.PIX_STAT_QUIESCENT = false ∨ BitVec.toNat v % 256 ≠ 0 ∨ 528482304 ≤ BitVec.toNat v % 2 ^ 29)) ∧
    (∃ (v : BitVec 8) (s : State), s.isOff 11 = false ∧ v ≠ 0) :=
  ⟨⟨0, State.reset, by decide +kernel⟩,
   ⟨1, State.reset, by decide +kernel⟩,
   ⟨0, State.reset, by decide +kernel⟩,
   ⟨1, State.reset, by decide +kernel⟩,
   ⟨0, State.reset, by decide +kernel⟩,
   ⟨1, State.reset, by decide +kernel⟩,
   ⟨0, State.reset, by decide +kernel⟩,
   ⟨1, State.reset, by decide +kernel⟩,
   ⟨0, State.reset, by decide +kernel⟩,
   ⟨0, mk [(Reg.PIX_STAT_QUIESCENT, 0), (Reg.EPT_COUNT_NEXT, 3)], by decide +kernel⟩,
   ⟨1, State.reset, by decide +kernel⟩⟩
end E1

namespace E2
def co : CompositeSt := { frame := 5, n := 3, start := 0, ept := 1, pixel := 16, pixels := 40, seen := [], clamps := 2^33, stalls := 7 }
def pc (c : CompositeSt) (ls : List (Option (List Nat))) (s : State) : State := { s with pix := { s.pix with composite := some c, layers := ls } }
def fr : FrameSt := { number := 5, deadline := 1000, apex := 2000, pos := 3, phase := .compositing, safe := false, table := 0, count := 1, ftab := 0, ftStat := [], bands := [] }
def tab (s : State) : State := ((s.storeWrite 55 (0x8000 + 64 + 40) (leBytes 4 (40 + 2^16) ++ leBytes 4 0 ++ leBytes 4 0x100)).storeWrite 55 0x100000 (List.replicate 500 7))
def r0 : State := mk [(Reg.EPT_BASE, 0x8000), (Reg.EPT_COUNT, 2), (Reg.SCL_IMAGO0, 0x100000), (Reg.SCL_IMAGO1, 0x1F7FFF00), (Reg.PIX_CTRL, 1), (Reg.PIX_STAT_QUIESCENT, 0)]
def fs (s : State) : State := { s with otu := { s.otu with frames := [fr, { fr with number := 4, phase := .swapped }] } }

/-- States and operands that meet the hypotheses of `Obligations.PipelinesComposite`, clause by clause. -/
theorem witness_PipelinesComposite :
    (∃ (s : State), s.isOff 10 = false ∧ s.flag Reg.PIX_STAT_QUIESCENT = true) ∧
    (∃ (s : State), s.isOff 10 = false ∧ s.flag Reg.PIX_CTRL = false ∧ s.flag Reg.PIX_STAT_QUIESCENT = false ∧ s.pix.composite = none) ∧
    (∃ (c : CompositeSt) (s : State), s.isOff 10 = false ∧ s.pix.composite = some c ∧ c.pixel ≠ 0 ∧
      c.pixel < eptPixels (s.entryAt (s.rd Reg.EPT_BASE + 64 * c.ept)) ∧ (∀ (l : Option (List Nat)), l ∈ s.pix.layers → l = none) ∧
      bitOf (s.ftStat (eptFtype (s.entryAt (s.rd Reg.EPT_BASE + 64 * c.ept)) / 32)) (eptFtype (s.entryAt (s.rd Reg.EPT_BASE + 64 * c.ept)) % 32) = false ∧
      s.StoreSound) ∧
    (∃ (c : CompositeSt) (s : State), s.isOff 10 = false ∧ s.pix.composite = some c ∧ s.rd Reg.EPT_COUNT ≤ c.ept) :=
  ⟨⟨State.reset, by decide +kernel⟩,
   ⟨mk [(Reg.PIX_STAT_QUIESCENT, 0)], by decide +kernel⟩,
   ⟨co, pc co [none, none] (r0.storeWrite 55 (0x8000 + 64 + 40) (leBytes 4 (40 + 2^16))), by decide +kernel⟩,
   ⟨{ co with ept := 2 }, fs (pc { co with ept := 2 } [] r0), by decide +kernel⟩⟩
end E2

namespace E3
def fr := E2.fr
def ctx0 (s : State) : State := (mk [(Reg.ANT_CTX_STAT_STATE 0, 1), (Reg.ANT_CTX_NUM 0, 60), (Reg.ANT_CTX_DEN 0, 1), (Reg.ANT_CTX_SPEED 0, 2^24), (Reg.ANT_CTX_PERIOD_LO 0, (10^9 * 2^32 / 60) % 2^32), (Reg.ANT_CTX_PERIOD_HI 0, 16666666)] s).setCtx 0 { pb := 0, tb := 0, cmd := none, rewrite := false }
def ot (ch : List (Nat × Int)) (fs : List FrameSt) (cs : List CommitSt) (next : Nat) (l : List (Fld × Nat)) : State := let s := ctx0 (mk ([(Reg.OTU_CTRL_ENABLE, 1), (Reg.OTU_STAT_QUIESCENT, 0), (Reg.OTU_STAT_RUNNING, 1), (Reg.PIX_CTRL, 1), (Reg.PIX_STAT_QUIESCENT, 0)] ++ l)); { s with otu := { s.otu with chain := ch, frames := fs, commits := cs, next := next } }
def ch : List (Nat × Int) := [(50000000, 3 * 2^24), (33333333, 2 * 2^24), (16666667, 2^24)]
def cm (w : Nat) (at_ : Int) : CommitSt := { word := w, sched := at_, arrival := 5 }
def f1 : FrameSt := { fr with number := 7, deadline := 50000000, apex := 66666667, phase := .complete }
def f0 : FrameSt := { fr with number := 6, deadline := 33333333, apex := 50000001, phase := .swapped }
def fm : FrameSt := { f1 with phase := .compositing }

/-- States and operands that meet the hypotheses of `Obligations.LatchDeadlinesAndApexes`, the part LatchTakesFrame, clause by clause. -/
theorem witness_LatchTakesFrame :
    ∃ (l : Nat) (s : State), s.isOff 14 = false ∧ s.rooState = 0 ∧ s.roo.closing = none ∧ s.nextLatch = some l ∧
      s.flag Reg.OTU_STAT_RUNNING = true ∧ (∀ (f : FrameSt), f ∈ s.otu.frames → f.waiting = true → l < f.deadline) ∧ s.StoreSound ∧
      State.offerUpTo (s.until l).time.elapsed (s.cal.events.length + 1) s = s :=
  ⟨33333333, ot ch [] [] 8 [], by decide +kernel⟩

/-- States and operands that meet the hypotheses of `Obligations.LatchDeadlinesAndApexes`, the part DeadlinesAndApexes, clause by clause. -/
theorem witness_DeadlinesAndApexes :
    (∃ (f : FrameSt) (s : State), s.isOff 14 = false ∧ (List.find? (fun x => x.waiting) s.otu.frames.reverse = some f) ∧
      (∀ (g : FrameSt), g ∈ s.otu.frames → g.waiting = false → f.deadline < g.apex) ∧ s.flag Reg.EMI_CTRL_ENABLE = false ∧
      f.phase = FramePhase.complete) ∧
    (∃ (f : FrameSt) (s : State), s.isOff 14 = false ∧ (List.find? (fun x => x.waiting) s.otu.frames.reverse = some f) ∧
      (∀ (g : FrameSt), g ∈ s.otu.frames → g.waiting = false → f.deadline < g.apex) ∧ s.flag Reg.EMI_CTRL_ENABLE = false ∧
      f.phase = FramePhase.compositing ∧ s.flag Reg.OTU_CTRL_DEMOTE_EN = false) ∧
    (∃ (f : FrameSt) (s : State), s.isOff 14 = false ∧ (List.find? (fun f => !f.waiting) s.otu.frames.reverse = some f) ∧
      (∀ (l : Nat), s.nextLatch = some l → f.apex ≤ l) ∧ s.emi.frames = [] ∧ s.StoreSound) :=
  ⟨⟨f1, ot ch [f1, f0] [cm (1 + 0x1000 * 2^35) 5] 8 [], by decide +kernel⟩,
   ⟨fm, ot ch [fm, f0] [] 8 [(Reg.OTU_CTRL_DEMOTE_EN, 0)], by decide +kernel⟩,
   ⟨f0, { ot ch [f0] [] 8 [] with otu := { (ot ch [f0] [] 8 []).otu with stopping := true } }, by decide +kernel⟩⟩
end E3

namespace E4
def ot := E3.ot
def cm := E3.cm
def ch := E3.ch
def sc (c : SelfCalSt) (l : List (Fld × Nat)) (s : State := State.reset) : State := { mk l s with selfCal := c }
def s0 : SelfCalSt := { State.reset.selfCal with deltas := [500, -700], next := some 5, applied := [1] }

/-- States and operands that meet the hypotheses of `Obligations.OutputControl`, clause by clause. -/
theorem witness_OutputControl :
    (∃ (s : State), s.isOff 14 = false ∧ s.flag Reg.OTU_CTRL_ENABLE = false ∧ s.flag Reg.OTU_STAT_QUIESCENT = true) ∧
    (∃ (s : State), s.isOff 14 = false ∧ s.cueMode = CueMode.lone ∧ s.flag Reg.OTU_CTRL_ENABLE = true) ∧
    (∃ (s : State), s.isOff 14 = false ∧ s.cueMode = CueMode.lone ∧ s.flag Reg.OTU_CTRL_ENABLE = false) ∧
    (∃ (level : Bool) (s : State), s.isOff 14 = false ∧ s.otu.safePin ≠ level) ∧
    (∃ (t0 : Nat) (s : State), s.isOff 14 = false ∧ s.otu.safeSince = some t0) ∧
    (∃ (s : State), s.isOff 14 = false ∧ s.otu.safeFiltered = false) ∧
    (∃ (s : State), s.isOff 14 = false ∧ s.otu.safeFiltered = true) ∧
    (∃ (d : Nat) (s : State), s.selfCal.next = some d ∧ s.flag Reg.OTU_STAT_RUNNING = false ∧ s.selfCal.whole = false ∧
      largestDelta (List.map (deltaLeft false (s.rd Reg.CAL_SC_CTRL_STEP)) s.selfCal.deltas) ≠ 0) :=
  ⟨⟨State.reset, by decide +kernel⟩,
   ⟨ot ch [] [cm 5 5, cm 5 6] 3 [], by decide +kernel⟩,
   ⟨State.reset, by decide +kernel⟩,
   ⟨false, { ot ch [] [] 3 [(Reg.OTU_CTRL_SAFE_LATCH, 1)] with otu := { State.reset.otu with safePin := true, safeSince := some 400 } }, by decide +kernel⟩,
   ⟨400, { ot ch [] [] 3 [(Reg.OTU_CTRL_SAFE_LATCH, 1)] with otu := { State.reset.otu with safePin := true, safeSince := some 400 } }, by decide +kernel⟩,
   ⟨State.reset, by decide +kernel⟩,
   ⟨{ ot ch [] [] 3 [] with otu := { State.reset.otu with safeFiltered := true, safeLatched := true, safeSince := some 4 } }, by decide +kernel⟩,
   ⟨5, sc s0 [(Reg.CAL_SC_CTRL_STEP, 100)], by decide +kernel⟩⟩
end E4

namespace E5
def fr : FrameSt := { number := 5, deadline := 1000, apex := 20000, pos := 3, phase := .swapped, safe := false, table := 0x8000, count := 2, ftab := 0, ftStat := [], bands := [] }
def x0 : EmiFrameSt := { frame := fr, f := 2^32 + 9, first := 700, base := 20000, rep := true, stale := false, suppressed := false, launched := false, packets := [], streams := [(3, 1)], used := 0, late := 0, raised := [], emitted := [], sums := [], clamps := 0, clampFirst := 0, clampEpts := [], univs := [(5, 7)], sent := [], wings := [], closed := false, skew := 0 }
def pk (k : PacketKind) (p : Option (Nat × Nat)) : PacketSt := { kind := k, parts := [(1, 1)], first := 0, count := 3, apply := 0, launch := 900, order := 1, packed := p }
def em (x : EmiFrameSt) (l : List (Fld × Nat)) (s : State := State.reset) : State := let s := mk ([(Reg.EMI_CTRL_ENABLE, 1), (Reg.EMI_STAT, 0), (Reg.EMI_PKT_LEN, 0x800), (Reg.EMI_PKT_BASE, 0x20000)] ++ l) s; { s with emi := { s.emi with frames := [x] } }
def seg (g : Nat) : List (Fld × Nat) := [(Reg.EMI_SEG_CTRL_ENABLE g, 1), (Reg.EMI_SEG_CTRL_PORT g, 0), (Reg.MAC_CTRL_ENABLE 0, 1), (Reg.MAC_STAT_LINK 0, 1)]
def q1 := pk (.sacn 5 7) none
def q2 := pk (.apt 5 3 0) none
def q3 := pk (.sacn 5 7) (some (0x20000, 200))
def x1 := { x0 with packets := [q1] }
def x3 := { x0 with packets := [q3, q2], launched := true }
def tm (l : List TermSt) : State := let s := mk (seg 5); { s with emi := { s.emi with terms := l } }

/-- States and operands that meet the hypotheses of `Obligations.EmissionOfFrames`, clause by clause. -/
theorem witness_EmissionOfFrames :
    (∃ (x : EmiFrameSt) (s : State), s.isOff 14 = false ∧ (List.find? (fun x => !x.launched) s.emi.frames = some x) ∧
      s.flag Reg.EMI_CTRL_ENABLE = true ∧ (∀ (w : WingFrameSt), w ∈ x.wings → w.training = false) ∧ s.rd Reg.STO_STAT_DIE_LOST ≠ 0) ∧
    (∃ (x : EmiFrameSt) (s : State), s.isOff 14 = false ∧ (List.find? (fun x => !x.launched) s.emi.frames = some x) ∧
      s.flag Reg.EMI_CTRL_ENABLE = true ∧ (∀ (w : WingFrameSt), w ∈ x.wings → w.training = false) ∧ s.rd Reg.STO_STAT_DIE_LOST = 0) ∧
    (∃ (τ : BitVec 64) (x : EmiFrameSt) (q : PacketSt) (s : State), s.isOff 13 = false ∧ (s.until τ.toNat).emi.frames = [x] ∧
      (s.until τ.toNat).now < x.frame.apex ∧ x.launched = false ∧ (List.find? (fun p => p.packed.isNone) x.packets = some q) ∧
      (s.until τ.toNat).StoreSound ∧
      x.used + List.length ((s.until τ.toNat).packetBytes x q false) ≤ (s.until τ.toNat).rd Reg.EMI_PKT_LEN) ∧
    (∃ (x : EmiFrameSt) (q : PacketSt) (seg a n : Nat) (kind : TxKind) (express : Bool) (s : State), s.isOff 13 = false ∧
      (List.find? (fun x => x.launched && x.nextNet.isSome) s.emi.frames = some x) ∧ x.nextNet = some q ∧
      q.net = some (seg, kind, express) ∧ q.packed = some (a, n) ∧ s.StoreSound) ∧
    (∃ (s : State), s.isOff 13 = false ∧ s.flag Reg.EMI_CTRL_ENABLE = false ∧ s.flag Reg.EMI_STAT = false ∧ s.emi.frames = [] ∧
      s.emi.terms = []) ∧
    (∃ (d : TermSt) (ds : List TermSt) (s : State), s.isOff 13 = false ∧ s.emi.terms = d :: ds) :=
  ⟨⟨x1, em x1 (seg 5 ++ [(Reg.STO_STAT_DIE_LOST, 8)]), by decide +kernel⟩,
   ⟨x1, em x1 (seg 5), by decide +kernel⟩,
   ⟨0, x1, q1, em x1 (seg 5), by decide +kernel⟩,
   ⟨x3, q3, 5, 0x20000, 200, .data 5 1 0, true, em x3 (seg 5), by decide +kernel⟩,
   ⟨mk [(Reg.EMI_STAT, 0)], by decide +kernel⟩,
   ⟨{ seg := 5, univ := 7, left := 3, at_ := 50 }, [{ seg := 5, univ := 8, left := 3, at_ := 50 }], tm [{ seg := 5, univ := 7, left := 3, at_ := 50 }, { seg := 5, univ := 8, left := 3, at_ := 50 }], by decide +kernel⟩⟩
end E5

namespace E6
def seg := E5.seg
def nd (n : Nat) (w0 w8 w10 w11 : Nat) (s : State) : State := s.storeWrite 55 (0x40000 + 64 * n) (leBytes 4 w0 ++ leBytes 12 0 ++ leBytes 4 0x0A000001 ++ leBytes 4 5 ++ leBytes 4 6 ++ leBytes 4 0 ++ leBytes 4 w8 ++ leBytes 4 0 ++ leBytes 4 w10 ++ leBytes 4 w11)
def base (l : List (Fld × Nat)) : State := mk ([(Reg.EMI_NODE_BASE, 0x40000), (Reg.EMI_CTRL_ENABLE, 1), (Reg.EMI_CTRL_UDISC, 1), (Reg.EMI_SEG_POLL 5, 100), (Reg.EMI_SEG_APT_GROUP 5, 0xEF000001)] ++ seg 5 ++ l)
def w0 : Nat := 9 + 2^16 + 2^18 + 5 * 2^24
def pol (p : PollSt) (s : State) : State := { s with emi := { s.emi with polls := [(5, p)] } }
def ech (l : List EchoSt) (s : State) : State := { s with emi := { s.emi with echoes := l } }
def e1 : EchoSt := { seg := 5, seq := 3, node := 2, sentA := some 40, sentB := none }
def e2 : EchoSt := { seg := 5, seq := 4, node := 4095, sentA := none, sentB := some 41 }
def rep (q : Nat) : Bytes := beBytes 2 0x4150 ++ [0x14, 0] ++ beBytes 4 q ++ List.replicate 12 0 ++ beBytes 2 9 ++ List.replicate 8 0 ++ beBytes 2 20 ++ beBytes 8 3 ++ beBytes 4 5 ++ beBytes 4 777 ++ beBytes 4 1
def rsp (q d : Nat) : Bytes := beBytes 2 0x4150 ++ [0x16, 0] ++ beBytes 4 q ++ List.replicate 4 0 ++ beBytes 8 d ++ List.replicate 10 0 ++ beBytes 2 0

/-- A segment with one poll sent, and one node. -/
def node2 : State := pol { polls := 4, echoes := 3, next := some 5, replied := [1] } (nd 2 w0 1 50 60 (base []))

theorem node2_matches : node2.replyMatches 5 0x0A000001 (aptField (rep 3) 20 2) (aptField (rep 3) 32 8) = [2] := by
  refine filter_range_one _ 2 (by decide +kernel) (fun k hk => ?_) 4096 (by decide)
  have hr : node2.rd Reg.EMI_NODE_BASE = 0x40000 := by decide +kernel
  have hb : ∀ e ∈ node2.store.bytes, 0x40080 ≤ e.1 ∧ e.1 < 0x400C0 := by decide +kernel
  have hw : node2.word32At (node2.nodeAt k + 4 * 0) = 0 :=
    word32At_unlisted _ _ (fun e he => by have := hb e he; simp only [State.nodeAt, hr]; omega)
  have hv : nodeValid (node2.entryAt (node2.nodeAt k)) = false := by
    have : (node2.entryAt (node2.nodeAt k)).getD 0 0 = node2.word32At (node2.nodeAt k + 4 * 0) := rfl
    simp only [nodeValid, nodeWord, this, hw]; rfl
  simp only [hv, Bool.false_and]

/-- States and operands that meet the hypotheses of `Obligations.SegmentDiscovery`, clause by clause. -/
theorem witness_SegmentDiscovery :
    (∃ (g : Fin 64) (s : State), s.isOff 13 = false ∧ s.flag Reg.EMI_CTRL_UDISC = true ∧ s.flag Reg.EMI_CTRL_ENABLE = true ∧
      s.segLive g.val = true) ∧
    (∃ (g : Fin 64) (s : State), s.isOff 13 = false ∧ s.flag Reg.EMI_CTRL_ENABLE = true ∧ s.segLive g.val = true ∧
      s.rd (Reg.EMI_SEG_POLL g.val) ≠ 0 ∧ s.rd (Reg.EMI_SEG_APT_GROUP g.val) ≠ 0 ∧ (s.pollOf g.val).polls = 0) ∧
    (∃ (n : BitVec 12) (s : State), s.isOff 13 = false ∧ s.StoreSound ∧ s.flag Reg.EMI_CTRL_ENABLE = true ∧
      s.segLive (nodeSeg (s.entryAt (s.nodeAt n.toNat))) = true ∧ nodeValid (s.entryAt (s.nodeAt n.toNat)) = true ∧
      nodeEchoEn (s.entryAt (s.nodeAt n.toNat)) = true ∧ nodeState (s.entryAt (s.nodeAt n.toNat)) = 1) ∧
    (∃ (data : Bytes) (s : State), s.isOff 13 = false ∧ aptCheck data 4 20 = AptCheck.ignored) ∧
    (∃ (data : Bytes) (s : State), s.isOff 13 = false ∧ aptCheck data 4 20 = AptCheck.bad) ∧
    (∃ (data : Bytes) (s : State), s.isOff 13 = false ∧ aptCheck data 6 0 = AptCheck.ignored) ∧
    (∃ (data : Bytes) (s : State), s.isOff 13 = false ∧ aptCheck data 6 0 = AptCheck.bad) ∧
    (∃ (g : Fin 64) (ip : BitVec 32) (data : Bytes) (n : Nat) (s : State), s.isOff 13 = false ∧ s.StoreSound ∧
      aptCheck data 4 20 = AptCheck.ok ∧ (s.pollOf g.val).polls ≠ 0 ∧ aptField data 4 4 = ((s.pollOf g.val).polls - 1) % 2 ^ 32 ∧
      s.replyMatches g.val ip.toNat (aptField data 20 2) (aptField data 32 8) = [n] ∧ nodeBind (s.entryAt (s.nodeAt n)) = false) ∧
    (∃ (g : Fin 64) (data : Bytes) (lanB : Bool) (t1 : Nat) (t4 : BitVec 64) (e : EchoSt) (s : State),
      let a : List Nat := s.entryAt (s.nodeAt e.node)
      let d : Nat := t4.toNat - t1
      s.isOff 13 = false ∧ s.StoreSound ∧ aptCheck data 6 0 = AptCheck.ok ∧
      (List.find? (fun e => e.seg == g.val && e.seq == aptField data 4 4) s.emi.echoes = some e) ∧ nodeValid a = true ∧
      ((if lanB = true then e.sentB else e.sentA) = some t1) ∧ d ≤ 10000000 ∧ aptField data 12 8 < d) :=
  ⟨⟨5, base [], by decide +kernel⟩,
   ⟨5, base [], by decide +kernel⟩,
   ⟨2, pol { polls := 4, echoes := 3, next := some 5, replied := [1] } (nd 2 w0 1 50 60 (base [])), by decide +kernel⟩,
   ⟨[], base [], by decide +kernel⟩,
   ⟨rsp 3 5, base [], by decide +kernel⟩,
   ⟨[], base [], by decide +kernel⟩,
   ⟨rep 3, base [], by decide +kernel⟩,
   ⟨5, 0x0A000001, rep 3, 2, node2, by decide +kernel, by decide +kernel, by decide +kernel, by decide +kernel, by decide +kernel, node2_matches, by decide +kernel⟩,
   ⟨5, rsp 3 5, false, 40, 800, e1, ech [e1, e2, e1] (nd 2 w0 (1 + 2^16) 50 60 (base [])), by decide +kernel⟩⟩
end E6

namespace F1
def fr : FrameSt := { number := 5, deadline := 1000, apex := 20000, pos := 3, phase := .swapped, safe := false, table := 0x8000, count := 2, ftab := 0, ftStat := [], bands := [] }
def x0 : EmiFrameSt := { frame := fr, f := 2^32 + 9, first := 700, base := 20000, rep := true, stale := false, suppressed := false, launched := true, packets := [], streams := [(3, 1)], used := 0, late := 0, raised := [], emitted := [], sums := [], clamps := 0, clampFirst := 0, clampEpts := [], univs := [(5, 7)], sent := [], wings := [], closed := false, skew := 0 }
def pk (k : PacketKind) (p : Option (Nat × Nat)) : PacketSt := { kind := k, parts := [(1, 1)], first := 0, count := 3, apply := 0, launch := 900, order := 1, packed := p }
def qd (p : Nat) := pk (.dmx p) (some (0x20000, 5))
def xd (p : Nat) := { x0 with packets := [pk (.sacn 1 1) none, qd p] }
def em (xs : List EmiFrameSt) (l : List (Fld × Nat)) (s : State := State.reset) : State := let s := mk l s; { s with emi := { s.emi with frames := xs } }
def en (p : Nat) : List (Fld × Nat) := [(Reg.DMX_CTRL_ENABLE p, 1), (Reg.DMX_STAT_QUIESCENT p, 0), (Reg.DMX_TIMING_BREAK p, 176), (Reg.DMX_CTRL_DISC_EN p, 1), (Reg.DMX_DISC p, 7)]
def dm (p : Nat) (d : DmxSt) (s : State) : State := s.setDmx p d
def rq (n c : Nat) : Bytes := [0xCC, 1] ++ beBytes 1 n ++ List.replicate 6 3 ++ List.replicate 6 4 ++ [9, 1, 0, 0, 0] ++ beBytes 1 c ++ [0, 1, 0] ++ List.replicate 10 0
def rr (r i : Nat) (c : Nat := 0x20) : RdmReqSt := { ring := r, index := i, data := (rq 24 c).take 24, retries := 2, begun := false }
def D (w : Nat) (len : Nat := 1024) : Desc := desc 0x1401 5 [w] 0x900 len
def Dd (w : List Nat) : Desc := desc 0x1402 5 w

/-- States and operands that meet the hypotheses of `Obligations.DmxPackets`, clause by clause. -/
theorem witness_DmxPackets :
    (∃ (p : Fin 8) (x : EmiFrameSt) (q : PacketSt) (a n : Nat) (s : State), s.isOff 20 = false ∧ s.dmxPacket p.val = some (x, q) ∧
      q.packed = some (a, n) ∧ s.flag Reg.ROO_STAT_MUTED = false ∧ s.flag (Reg.DMX_CTRL_ENABLE p.val) = true ∧
      (s.dmx p.val).skip = false ∧ (s.dmx p.val).waits = none ∧ (s.dmx p.val).free ≤ (s.until q.launch).now ∧ s.padsCut = false ∧
      s.StoreSound) ∧
    (∃ (p : Fin 8) (x : EmiFrameSt) (q : PacketSt) (a n : Nat) (s : State), s.isOff 20 = false ∧ s.dmxPacket p.val = some (x, q) ∧
      q.packed = some (a, n) ∧ s.flag Reg.ROO_STAT_MUTED = false ∧ s.flag (Reg.DMX_CTRL_ENABLE p.val) = true ∧ (s.dmx p.val).skip = true) ∧
    (∃ (ring : Fin 64) (data : Bytes) (d : Desc) (s : State),
      let p : Nat := s.ringInst ring.val
      s.startedDesc ring.val 5121 = some d ∧ rdmParamsOk d data = true ∧ s.flag (Reg.DMX_CTRL_ENABLE p) = true) ∧
    (∃ (ring : Fin 64) (data : Bytes) (err : Bool) (d : Desc) (s : State),
      let p : Nat := s.ringInst ring.val
      s.startedDesc ring.val 5121 = some d ∧ s.Alone ring.val d ∧
      (err = true ∨ rdmParamsOk d data = false ∨ s.flag (Reg.DMX_CTRL_ENABLE p) = false)) ∧
    (∃ (p : Fin 8) (s : State), s.isOff 20 = false ∧ (∀ (r : RdmReqSt), r ∈ (s.dmx p.val).queue → r.ring < 64) ∧
      (∀ (x : DiscSt), x ∈ (s.dmx p.val).disc → ∀ (r : Nat × Nat), x.desc = some r → r.fst < 64)) ∧
    (∃ (p : Fin 8) (s : State), s.isOff 20 = false ∧ s.flag (Reg.DMX_CTRL_ENABLE p.val) = false ∧
      s.flag (Reg.DMX_STAT_QUIESCENT p.val) = false ∧ (s.dmx p.val).waits = none) :=
  ⟨⟨0, xd 0, qd 0, 0x20000, 5, (em [xd 0] (en 0)).storeWrite 55 0x20000 [0,1,2,3,4], by decide +kernel⟩,
   ⟨7, xd 7, qd 7, 0x20000, 5, dm 7 { dmxIdle with skip := true } (em [xd 7] (en 7)), by decide +kernel⟩,
   ⟨1, rq 24 0x20, D 24, withD 1 0x14 0 (D 24) (mk (en 0)), by decide +kernel⟩,
   ⟨1, [], false, D 24, withD 1 0x14 0 (D 24) (mk (en 0)), by decide +kernel⟩,
   ⟨0, State.reset, by decide +kernel⟩,
   ⟨0, mk [(Reg.DMX_STAT_QUIESCENT 0, 0)], by decide +kernel⟩⟩
end F1

namespace F2
def dm := F1.dm
def en := F1.en
def rr := @F1.rr
def rsp : Bytes := let b : Bytes := [0xCC, 1, 24] ++ List.replicate 6 4 ++ List.replicate 6 3 ++ [9, 0, 0, 0, 0, 0x21, 0, 1, 0]; b ++ beBytes 2 (rdmSum b)
def Dw (ph : DescPhase) : Desc := { F1.D 24 with phase := ph }

/-- States and operands that meet the hypotheses of `Obligations.RdmTransactions`, clause by clause. -/
theorem witness_RdmTransactions :
    (∃ (p : Fin 8) (τ : BitVec 64) (r : RdmReqSt) (rest : List RdmReqSt) (s : State), s.isOff 20 = false ∧
      s.flag (Reg.DMX_CTRL_ENABLE p.val) = true ∧ (s.dmx p.val).queue = r :: rest ∧
      (s.until τ.toNat).rdmGap p.val (List.length r.data) = true ∧
      (byteNat r.data 20 = 48 → r.begun = false → (s.until τ.toNat).holdsRoles = true) ∧ rdmBroadcast r.data = false ∧ s.padsCut = false) ∧
    (∃ (p : Fin 8) (data : Bytes) (r : RdmReqSt) (rest : List RdmReqSt) (ring : Fin 64) (d : Desc) (s : State), s.isOff 20 = false ∧
      (s.dmx p.val).waits = some DmxWait.rdm ∧ (s.dmx p.val).queue = r :: rest ∧ r.ring = ring.val ∧ r.index = d.index ∧
      s.Alone ring.val d ∧ 26 ≤ List.length data ∧
      rdmSum (List.take (List.length data - 2) data) = beNat (List.drop (List.length data - 2) data) ∧
      List.take 6 (List.drop 9 data) = List.take 6 (List.drop 3 r.data) ∧
      List.take 6 (List.drop 3 data) = List.take 6 (List.drop 9 r.data) ∧ byteNat data 15 = byteNat r.data 15) ∧
    (∃ (p : Fin 8) (r : RdmReqSt) (rest : List RdmReqSt) (s : State), s.isOff 20 = false ∧ (s.dmx p.val).waits = some DmxWait.rdm ∧
      (s.dmx p.val).queue = r :: rest ∧ 0 < r.retries ∧ s.flag (Reg.DMX_CTRL_ENABLE p.val) = true) ∧
    (∃ (p : Fin 8) (d : Nat) (s : State), s.isOff 20 = false ∧ (s.dmx p.val).since = some d) ∧
    (∃ (ring : Fin 64) (d : Desc) (s : State), s.startedDesc ring.val 5122 = some d ∧ d.reservedOk false 0 = true ∧
      s.flag (Reg.DMX_CTRL_ENABLE (s.ringInst ring.val)) = true) ∧
    (∃ (ring : Fin 64) (d : Desc) (s : State), s.startedDesc ring.val 5122 = some d ∧ s.Alone ring.val d ∧
      (d.reservedOk false 0 = false ∨ s.flag (Reg.DMX_CTRL_ENABLE (s.ringInst ring.val)) = false)) ∧
    (∃ (p : Fin 8) (s : State), s.isOff 20 = false ∧ s.flag (Reg.DMX_CTRL_ENABLE p.val) = true ∧
      s.flag (Reg.DMX_CTRL_DISC_EN p.val) = true) :=
  ⟨⟨0, 0, rr 1 5, [rr 63 6], dm 0 { dmxIdle with queue := [rr 1 5, rr 63 6] } (mk (en 0)), by decide +kernel⟩,
   ⟨0, rsp, rr 1 5, [], 1, Dw .waiting, dm 0 { dmxIdle with queue := [rr 1 5], waits := some .rdm, since := some 40 } (withD 1 0x14 0 (Dw .waiting) (mk (en 0))), by decide +kernel⟩,
   ⟨0, rr 1 5, [], dm 0 { dmxIdle with queue := [rr 1 5], waits := some .rdm, since := some 40 } (withD 1 0x14 0 (Dw .waiting) (mk (en 0))), by decide +kernel⟩,
   ⟨0, 40, dm 0 { dmxIdle with queue := [rr 1 5, rr 63 6], waits := some .rdm, since := some 40, waitUntil := 900 } (withD 1 0x14 0 (Dw .working) (mk (en 0))), by decide +kernel⟩,
   ⟨1, F1.Dd [], withD 1 0x14 0 (F1.Dd []) (mk (en 0)), by decide +kernel⟩,
   ⟨1, F1.Dd [], withD 1 0x14 7 (F1.Dd []), by decide +kernel⟩,
   ⟨0, dm 0 { dmxIdle with queue := [rr 1 5, rr 63 6] } (mk (en 0)), by decide +kernel⟩⟩
end F2

namespace F3
def fr : FrameSt := { number := 5, deadline := 1000, apex := 20000, pos := 3, phase := .swapped, safe := false, table := 0x8000, count := 2, ftab := 0, ftStat := [], bands := [] }
def wf (p : Nat) (l : Bool := false) : WingFrameSt := { port := p, lmax := 3, holds := [], data := true, rep := true, stale := false, latched := l, training := false, owed := [] }
def x0 : EmiFrameSt := { frame := fr, f := 2^32 + 9, first := 700, base := 2000000, rep := true, stale := false, suppressed := false, launched := true, packets := [], streams := [(3, 1)], used := 0, late := 0, raised := [], emitted := [], sums := [], clamps := 0, clampFirst := 0, clampEpts := [], univs := [(5, 7)], sent := [], wings := [wf 0, wf 15, wf 0 true], closed := false, skew := 0 }
def pk (k : PacketKind) (p : Option (Nat × Nat)) : PacketSt := { kind := k, parts := [(1, 1)], first := 0, count := 3, apply := 0, launch := 900, order := 1, packed := p }
def x1 := { x0 with packets := [pk (.wing 0 1 0) none, pk (.wing 15 1 0) (some (3,4)), pk (.sacn 1 1) none] }
def em (xs : List EmiFrameSt) (s : State := State.reset) : State := { s with emi := { s.emi with frames := xs } }
def en (p : Nat) : List (Fld × Nat) := [(Reg.WNG_CTRL_ENABLE p, 1), (Reg.WNG_STAT_QUIESCENT p, 0), (Reg.WNG_NODEBASE p, 0x5000), (Reg.WNG_PROF_CFG_VALID p 0, 1), (Reg.WNG_PROF_CFG_VALID p 7, 1), (Reg.WNG_CTRL_POLL_EN p, 1), (Reg.WNG_CTRL_ECHO_EN p, 1), (Reg.WNG_CTRL_AUTOENUM p, 1), (Reg.WNG_TXFRAMES p, 0xFFFFFFFF), (Reg.WNG_TMO_RSPTO p, 9)]
def rc (n w0 w4 : Nat) (s : State) : State := s.storeWrite 55 (0x5000 + 32 * n) (leBytes 4 w0 ++ leBytes 12 0 ++ leBytes 4 w4 ++ leBytes 4 3)
def w1 : Nat := 1 + 2^16

/-- States and operands that meet the hypotheses of `Obligations.WingbeatSchedule`, clause by clause. -/
theorem witness_WingbeatSchedule :
    (∃ (p : Fin 16) (x : EmiFrameSt) (w : WingFrameSt) (s : State), s.isOff 15 = false ∧ s.latchFrame p.val = some (x, w) ∧
      (∀ (q : PacketSt), q ∈ x.packets → ∀ (n k : Nat), q.kind ≠ PacketKind.wing p.val n k) ∧ s.flag (Reg.WNG_CTRL_ENABLE p.val) = true ∧
      s.flag Reg.ROO_STAT_MUTED = false ∧ w.training = false) ∧
    (∃ (p : Fin 16) (n : BitVec 8) (s : State), s.isOff 15 = false ∧ s.StoreSound ∧
      (recValid (List.map (fun i => s.word32At (s.wingRec p.val n.toNat + 4 * i)) (List.range 8)) = true) ∧
      (s.flag (Reg.WNG_PROF_CFG_VALID p.val (recProfile (List.map (fun i => s.word32At (s.wingRec p.val n.toNat + 4 * i)) (List.range 8)))) = true) ∧
      (s.wing p.val).scanDue.contains n.toNat = true ∧ s.flag (Reg.WNG_CTRL_ENABLE p.val) = true ∧ s.flag Reg.ROO_STAT_MUTED = false ∧
      (s.wingFree p.val).wingClosed = false) :=
  ⟨⟨0, x0, wf 0, em [x0, x1] (mk (en 0)), by decide +kernel, by decide +kernel, by simp [x0], by decide +kernel⟩,
   ⟨0, 3, (rc 3 w1 0 (mk (en 0))).setWing 0 { wingIdle with scanDue := [3, 255], free := 77 }, by decide +kernel⟩⟩
end F3

namespace F4
def en := F3.en
def rc := F3.rc
def w1 := F3.w1
def rq (n k t : Nat) (q : Option (Nat × Nat)) : WingReqSt := { node := n, kind := k, tag := t, sent := 50, query := q }
def rp (n k t : Nat) (rt : Nat) : WingRsp := { node := BitVec.ofNat 8 n, kind := BitVec.ofNat 4 k, tag := BitVec.ofNat 8 t, payload := [1,2,3,4], position := 0, rt := BitVec.ofNat 32 rt }
def frame (t : Nat) : Bytes := let b : Bytes := leBytes 4 (t + 16) ++ leBytes 4 4 ++ leBytes 8 0 ++ leBytes 16 0; b ++ leBytes 4 (crc32 b)

/-- States and operands that meet the hypotheses of `Obligations.WingbeatRequests`, clause by clause. -/
theorem witness_WingbeatRequests :
    (∃ (p : Fin 16) (n : BitVec 8) (s : State), s.isOff 15 = false ∧ s.StoreSound ∧
      (recValid (List.map (fun i => s.word32At (s.wingRec p.val n.toNat + 4 * i)) (List.range 8)) = true) ∧
      s.flag (Reg.WNG_CTRL_ENABLE p.val) = true ∧ s.flag (Reg.WNG_CTRL_POLL_EN p.val) = true ∧
      ((s.untilElapsed (tblGet (s.wing p.val).nextStat 0 n.toNat)).wingFree p.val).wingClosed = false) ∧
    (∃ (p : Fin 16) (n : BitVec 8) (s : State), s.isOff 15 = false ∧ s.StoreSound ∧
      (recValid (List.map (fun i => s.word32At (s.wingRec p.val n.toNat + 4 * i)) (List.range 8)) = true) ∧
      s.flag (Reg.WNG_CTRL_ENABLE p.val) = true ∧ s.flag (Reg.WNG_CTRL_ECHO_EN p.val) = true ∧
      (recState (List.map (fun i => s.word32At (s.wingRec p.val n.toNat + 4 * i)) (List.range 8)) = 1) ∧
      ((s.untilElapsed (tblGet (s.wing p.val).nextEcho 0 n.toNat)).wingFree p.val).wingClosed = false) ∧
    (∃ (p : Fin 16) (s : State), s.isOff 15 = false ∧ s.rd (Reg.WNG_CTRL_END p.val) = 0 ∧ s.flag (Reg.WNG_CTRL_AUTOENUM p.val) = true ∧
      s.flag (Reg.WNG_CTRL_ENABLE p.val) = true ∧ s.flag Reg.ROO_STAT_MUTED = false ∧
      ((s.untilElapsed ((s.wing p.val).nextEnum.getD 0)).wingFree p.val).wingClosed = false) ∧
    (∃ (p : Fin 16) (r : WingRsp) (q : WingReqSt) (s : State), s.isOff 15 = false ∧ s.StoreSound ∧
      (List.find? (fun q => q.node == r.node.toNat && q.kind == r.kind.toNat && q.tag == r.tag.toNat) (s.wing p.val).reqs = some q) ∧
      q.query = none ∧ r.kind = 4 ∧ r.rt.toNat ≤ s.rd (Reg.WNG_TMO_RSPTO p.val) * 10000) ∧
    (∃ (p : Fin 16) (q : WingReqSt) (rest : List WingReqSt) (s : State), s.isOff 15 = false ∧ (s.wing p.val).enums = [] ∧
      (s.wing p.val).reqs = q :: rest ∧ q.query = none ∧ q.kind ≠ 2) ∧
    (∃ (first : WireGroup) (groups : List WireGroup) (s : State), s.isOff 15 = false ∧ wireBody (List.take 4117 (first :: groups)) = none) ∧
    (∃ (p : Fin 16) (first : WireGroup) (groups : List WireGroup) (s : State) (data : Bytes), s.isOff 15 = false ∧
      wireBody (List.take 4117 (first :: groups)) = some data ∧ wingCheck (s.wingDir p.val) data = WingCheck.bad) ∧
    (∃ (p : Fin 16) (first : WireGroup) (groups : List WireGroup) (s : State) (data : Bytes), s.isOff 15 = false ∧
      wireBody (List.take 4117 (first :: groups)) = some data ∧ wingCheck (s.wingDir p.val) data = WingCheck.used) ∧
    (∃ (p : Fin 16) (first : WireGroup) (groups : List WireGroup) (s : State) (data : Bytes), s.isOff 15 = false ∧
      wireBody (List.take 4117 (first :: groups)) = some data ∧ wingCheck (s.wingDir p.val) data = WingCheck.other) ∧
    (∃ (p : Fin 16) (lock : Bool) (s : State), s.isOff 15 = false ∧ s.flag (Reg.WNG_STAT_RXLOCK p.val) = !lock) :=
  ⟨⟨0, 3, (rc 3 w1 0 (mk (en 0))).setWing 0 { wingIdle with tag := 255, free := 77, nextStat := [(3, 500)], nextEcho := [(3, 700)], nextEnum := some 44 }, by decide +kernel⟩,
   ⟨0, 3, (rc 3 w1 0 (mk (en 0))).setWing 0 { wingIdle with tag := 255, free := 77, nextStat := [(3, 500)], nextEcho := [(3, 700)], nextEnum := some 44 }, by decide +kernel⟩,
   ⟨0, (rc 3 w1 0 (mk (en 0))).setWing 0 { wingIdle with tag := 255, free := 77, nextStat := [(3, 500)], nextEcho := [(3, 700)], nextEnum := some 44 }, by decide +kernel⟩,
   ⟨0, rp 255 4 9 5000, rq 255 4 9 none, (rc 255 (w1) 700 (mk (en 0 ++ [(Reg.WNG_RSPMISS 0, 0xFFFFFFFF), (Reg.WNG_CTRL_END 0, 1)]))).setWing 0 { wingIdle with tag := 4, reqs := [rq 255 4 9 none, rq 3 2 3 none, rq 255 4 9 none], free := 77 }, by decide +kernel⟩,
   ⟨0, rq 255 4 9 none, [rq 3 2 3 none, rq 255 4 9 none], (rc 255 (w1) 700 (mk (en 0 ++ [(Reg.WNG_RSPMISS 0, 0xFFFFFFFF), (Reg.WNG_CTRL_END 0, 1)]))).setWing 0 { wingIdle with tag := 4, reqs := [rq 255 4 9 none, rq 3 2 3 none, rq 255 4 9 none], free := 77 }, by decide +kernel⟩,
   ⟨.d 3, [], State.reset, by decide +kernel⟩,
   ⟨0, wireEof, [], State.reset, [], by decide +kernel⟩,
   ⟨0, .d ((frame 6).headD 0), (frame 6).tail.map .d ++ [wireEof], State.reset, frame 6, by decide +kernel⟩,
   ⟨0, .d ((frame 2).headD 0), (frame 2).tail.map .d ++ [wireEof], (rc 255 (w1) 700 (mk (en 0 ++ [(Reg.WNG_RSPMISS 0, 0xFFFFFFFF), (Reg.WNG_CTRL_END 0, 1)]))).setWing 0 { wingIdle with tag := 4, reqs := [rq 255 4 9 none, rq 3 2 3 none, rq 255 4 9 none], free := 77 }, frame 2, by decide +kernel⟩,
   ⟨0, false, mk [(Reg.WNG_STAT_RXLOCK 0, 1), (Reg.WNG_STAT_RXLOCK 15, 1)], by decide +kernel⟩⟩
end F4

namespace F5
def en := F3.en
def rq := F4.rq
def de (w : List Nat) : Desc := desc 0x0F01 5 w
def dsn (w0 : Nat) (len : Nat) : Desc := desc 0x0F02 5 [w0, 3] 0x700 len
def dq (w0 w1 len : Nat) : Desc := desc 0x0F03 5 [w0, w1] 0x700 len

/-- States and operands that meet the hypotheses of `Obligations.WingbeatOpcodes`, clause by clause. -/
theorem witness_WingbeatOpcodes :
    (∃ (ring : Fin 64) (d : Desc) (s : State),
      let p : Nat := s.ringInst ring.val
      let ok : Bool := d.reservedOk false 3 && bitsOf (d.w 0) 0 2 != 3 && bitsOf (d.w 0) 2 6 == 0 && bitsOf (d.w 0) 16 16 == 0
      s.isOff 15 = false ∧ s.startedDesc ring.val 3841 = some d ∧ ok = true ∧ s.flag (Reg.WNG_CTRL_ENABLE p) = true ∧
      s.rd (Reg.WNG_CTRL_END p) = 0 ∧ s.flag Reg.ROO_STAT_MUTED = false ∧ (s.wingFree p).wingClosed = false) ∧
    (∃ (ring : Fin 64) (d : Desc) (s : State),
      let p : Nat := s.ringInst ring.val
      let ok : Bool := d.reservedOk false 3 && bitsOf (d.w 0) 0 2 != 3 && bitsOf (d.w 0) 2 6 == 0 && bitsOf (d.w 0) 16 16 == 0
      s.isOff 15 = false ∧ s.startedDesc ring.val 3841 = some d ∧ s.Alone ring.val d ∧
      (ok = false ∨ s.flag (Reg.WNG_CTRL_ENABLE p) = false ∨ s.rd (Reg.WNG_CTRL_END p) = 1)) ∧
    (∃ (ring : Fin 64) (d : Desc) (s : State),
      let p : Nat := s.ringInst ring.val
      s.isOff 15 = false ∧ s.Alone ring.val d ∧ s.startedDesc ring.val 3842 = some d ∧ sendWordsOk d = true ∧
      s.flag (Reg.WNG_CTRL_ENABLE p) = true ∧ s.flag Reg.ROO_STAT_MUTED = false ∧ (s.wingFree p).wingClosed = false) ∧
    (∃ (ring : Fin 64) (err : Bool) (d : Desc) (s : State),
      let p : Nat := s.ringInst ring.val
      s.isOff 15 = false ∧ s.Alone ring.val d ∧ s.startedDesc ring.val 3842 = some d ∧
      (sendWordsOk d = false ∨ s.flag (Reg.WNG_CTRL_ENABLE p) = false ∨ err = true)) ∧
    (∃ (ring : Fin 64) (d : Desc) (s : State),
      let p : Nat := s.ringInst ring.val
      let ok : Bool := d.reservedOk true 2 && d.w 0 / 2 ^ 12 == 0 && replyWords d != 0 && decide (4 * replyWords d ≤ d.len)
      s.isOff 15 = false ∧ s.startedDesc ring.val 3843 = some d ∧ ok = true ∧ s.flag (Reg.WNG_CTRL_ENABLE p) = true ∧
      s.flag Reg.ROO_STAT_MUTED = false ∧ (s.wingFree p).wingClosed = false) ∧
    (∃ (ring : Fin 64) (d : Desc) (s : State),
      let p : Nat := s.ringInst ring.val
      let ok : Bool := d.reservedOk true 2 && d.w 0 / 2 ^ 12 == 0 && replyWords d != 0 && decide (4 * replyWords d ≤ d.len)
      s.isOff 15 = false ∧ s.startedDesc ring.val 3843 = some d ∧ s.Alone ring.val d ∧
      (ok = false ∨ s.flag (Reg.WNG_CTRL_ENABLE p) = false)) ∧
    (∃ (p : Fin 16) (s : State), s.isOff 15 = false ∧ s.selfCal.run = none ∧ s.flag (Reg.WNG_CTRL_ENABLE p.val) = true) ∧
    (∃ (p : Fin 16) (s : State), s.isOff 15 = false ∧ s.flag (Reg.WNG_CTRL_ENABLE p.val) = false ∧
      s.flag (Reg.WNG_STAT_QUIESCENT p.val) = false ∧ (s.wing p.val).enums = [] ∧
      (∀ (q : WingReqSt), q ∈ (s.wing p.val).reqs → q.query = none)) :=
  ⟨⟨1, de [0x1201, 5, 6], withD 1 15 0 (de [0x1201, 5, 6]) (mk (en 0)), by decide +kernel⟩,
   ⟨1, de [0x1201, 5, 6], withD 1 15 15 (de [0x1201, 5, 6]), by decide +kernel⟩,
   ⟨1, dsn 4 16, withD 1 15 0 (dsn 4 16) (mk (en 0)), by decide +kernel⟩,
   ⟨1, false, dsn 4 16, withD 1 15 15 (dsn 4 16), by decide +kernel⟩,
   ⟨1, dq (3 + 2 * 256) 0 32, withD 1 15 0 (dq (3 + 2 * 256) 0 32) (mk (en 0)), by decide +kernel⟩,
   ⟨1, dq (3 + 2 * 256) 0 32, withD 1 15 15 (dq (3 + 2 * 256) 0 32), by decide +kernel⟩,
   ⟨0, withD 1 15 0 (de [0x1201, 5, 6]) (mk (en 0)), by decide +kernel⟩,
   ⟨0, mk [(Reg.WNG_STAT_QUIESCENT 0, 0)] (State.reset.setWing 0 { wingIdle with reqs := [rq 3 3 3 none], scanDue := [3], last := some 4, free := 66 }), by decide +kernel⟩⟩
end F5

namespace G1
def fr (n : Nat) : Bytes := [0x11,0x22,0x33,0x44,0x55,0x66, 1,2,3,4,5,6, 0x88, 0xB5] ++ List.replicate (n - 14) 9
def en (p : Nat) : List (Fld × Nat) := [(Reg.MAC_CTRL_ENABLE p, 1), (Reg.MAC_STAT_QUIESCENT p, 0), (Reg.MAC_STAT_LINK p, 1), (Reg.MAC_CTRL_PROMISC p, 1), (Reg.MAC_CTRL_RXRING p, 2), (Reg.HST_RING_CTRL 2, 1)]
def mc (p : Nat) (m : MacSt) (s : State) : State := s.setMac p m
def rx (n : Nat) (c : Nat := 0) : RxFrame := { bytes := fr n, length := n + 4, time := 5, an := none, prp := false, lanB := false, tci := none, claim := c }
def db (op : Nat) (w : List Nat) (len : Nat) (ph : DescPhase := .started) : Desc := { desc op 5 w 0x4000 len with phase := ph }
def ds : List Desc := [db 0x1001 [] 256, db 0x1001 [] 255, db 0x1001 [1] 65536, db 0x1001 [] 256 .working]

/-- States and operands that meet the hypotheses of `Obligations.PortsReceive`, clause by clause. -/
theorem witness_PortsReceive :
    (∃ (p : Fin 10) (data : Bytes) (s : State), s.isOff 16 = false ∧ s.flag (Reg.MAC_CTRL_ENABLE p.val) = true ∧ 60 ≤ List.length data ∧
      List.length data + 4 ≤ s.rd (Reg.MAC_MAXFRAME p.val) + 4 * tagCount data ∧ s.macFill p.val + List.length data + 4 ≤ 262144 ∧
      p.val < 8 ∧ s.pairOn (p.val / 2) = false ∧ s.flag (Reg.MSC_CTRL_RX_EN p.val) = false ∧ etherType data ≠ 34824 ∧
      s.vlanDrops p.val data = false ∧ s.addressOk p.val data = true ∧ s.claimOf p.val data = 0 ∧
      s.flag (Reg.HST_RING_CTRL (s.rd (Reg.MAC_CTRL_RXRING p.val))) = true ∧ s.flag (Reg.MAC_CTRL_STRIP p.val) = false ∧
      s.flag (Reg.MAC_CTRL_PAUSE_TX p.val) = false) ∧
    (∃ (p : Fin 10) (data : Bytes) (fcsOk : Bool) (s : State), s.isOff 16 = false ∧ s.flag (Reg.MAC_CTRL_ENABLE p.val) = true ∧
      (8 ≤ p.val ∨ s.pairOn (p.val / 2) = false) ∧
      (List.length data < 60 ∨ List.length data + 4 ≤ s.rd (Reg.MAC_MAXFRAME p.val) + 46 ∧ s.macFill p.val + List.length data + 4 ≤ 262144 ∧ fcsOk = false)) ∧
    (∃ (p : Fin 10) (data : Bytes) (s : State), s.isOff 16 = false ∧ s.flag (Reg.MAC_CTRL_ENABLE p.val) = true ∧
      (8 ≤ p.val ∨ s.pairOn (p.val / 2) = false) ∧ 60 ≤ List.length data ∧ List.length data + 4 ≤ s.rd (Reg.MAC_MAXFRAME p.val) + 46 ∧
      s.macFill p.val + List.length data + 4 ≤ 262144) ∧
    (∃ (p : Fin 10) (h : Nat) (s : State), s.isOff 16 = false ∧ (s.mac p.val).holdUntil = some h) ∧
    (∃ (p : Fin 8) (s : State), s.isOff 16 = false ∧ (s.mac p.val).pauseHigh = true ∧ s.flag (Reg.MAC_CTRL_PAUSE_TX p.val) = true) ∧
    (∃ (ring : Fin 64) (d : Desc) (s : State),
      let p : Nat := s.ringInst ring.val
      s.Alone ring.val d ∧ s.startedDesc ring.val 4097 = some d ∧ p < 8 ∧ s.rd (Reg.MAC_CTRL_RXRING p) = ring.val ∧
      d.reservedOk true 0 = true ∧ d.len % 64 = 0 ∧ 256 ≤ d.len ∧ d.len ≤ 65536 ∧ s.flag (Reg.MAC_CTRL_ENABLE p) = true) ∧
    (∃ (ring : Fin 64) (d : Desc) (s : State),
      let p : Nat := s.ringInst ring.val
      s.Alone ring.val d ∧ s.startedDesc ring.val 4097 = some d ∧ p < 8 ∧ s.rd (Reg.MAC_CTRL_RXRING p) = ring.val ∧
      d.reservedOk true 0 = true ∧ d.len % 64 = 0 ∧ 256 ≤ d.len ∧ d.len ≤ 65536 ∧ s.flag (Reg.MAC_CTRL_ENABLE p) = false) ∧
    (∃ (ring : Fin 64) (d : Desc) (s : State),
      let p : Nat := s.ringInst ring.val
      s.Alone ring.val d ∧ s.startedDesc ring.val 4097 = some d ∧
      (¬(p < 8 ∧ s.rd (Reg.MAC_CTRL_RXRING p) = ring.val ∧ d.reservedOk true 0 = true ∧ d.len % 64 = 0 ∧ 256 ≤ d.len ∧ d.len ≤ 65536))) ∧
    (∃ (p : Fin 10) (f : RxFrame) (d : Desc) (s : State), s.isOff 16 = false ∧ (s.mac p.val).rx = [f] ∧ f.claim = 0 ∧ p.val < 8 ∧
      s.Alone (s.rd (Reg.MAC_CTRL_RXRING (s.portOf p.val))) d ∧ d.phase = DescPhase.working ∧ d.opcode = 4097 ∧
      List.length f.bytes ≤ d.len ∧ s.flag (Reg.MAC_CTRL_PAUSE_TX p.val) = false) :=
  ⟨⟨0, fr 60, mk (en 0), by decide +kernel⟩,
   ⟨0, [], false, mk (en 0), by decide +kernel⟩,
   ⟨0, fr 60, mk (en 0), by decide +kernel⟩,
   ⟨0, 44, mc 0 { macIdle with holdUntil := some 44, pauseHigh := true, pauseAt := 77 } (mk (en 0 ++ [(Reg.MAC_CTRL_PAUSE_TX 0, 1), (Reg.MAC_PAUSE 0, 3)])), by decide +kernel⟩,
   ⟨0, mc 0 { macIdle with holdUntil := some 44, pauseHigh := true, pauseAt := 77 } (mk (en 0 ++ [(Reg.MAC_CTRL_PAUSE_TX 0, 1), (Reg.MAC_PAUSE 0, 3)])), by decide +kernel⟩,
   ⟨2, db 0x1001 [] 256, withD 2 16 0 (db 0x1001 [] 256) (mk (en 0)), by decide +kernel⟩,
   ⟨2, db 0x1001 [] 256, withD 2 16 7 (db 0x1001 [] 256) (mk [(Reg.MAC_CTRL_RXRING 7, 2)]), by decide +kernel⟩,
   ⟨2, db 0x1001 [] 256, withD 2 16 8 (db 0x1001 [] 256) (mk (en 8)), by decide +kernel⟩,
   ⟨0, rx 64, db 0x1001 [] 256 .working, mc 0 { macIdle with rx := [rx 64] } (withD 2 16 0 ds[3] (mk (en 0))), by decide +kernel⟩⟩
end G1

namespace G2
def fr (n : Nat) : Bytes := [0x11,0x22,0x33,0x44,0x55,0x66, 1,2,3,4,5,6, 0x88, 0xB5] ++ List.replicate (n - 14) 9
def en (p : Nat) : List (Fld × Nat) := [(Reg.MAC_CTRL_ENABLE p, 1), (Reg.MAC_STAT_QUIESCENT p, 0), (Reg.MAC_STAT_LINK p, 1), (Reg.MAC_CTRL_PROMISC p, 1), (Reg.MAC_CTRL_RXRING p, 2), (Reg.HST_RING_CTRL 2, 1)]
def mc (p : Nat) (m : MacSt) (s : State) : State := s.setMac p m
def tx (n : Nat) (k : TxKind := .roost 0) (l : Option Nat := some 50) : TxFrame := { kind := k, bytes := fr n, express := true, launch := l, tci := none, prpSeq := none, poison := n == 61, done := none }
def db (w : List Nat) (len : Nat) (idx : Nat := 5) : Desc := desc 0x1002 idx w 0x4000 len
def b9 : State := mc 9 { macIdle with tx := [tx 61 .supervision none], wireUntil := 330000 } (mk (en 9))

/-- States and operands that meet the hypotheses of `Obligations.PortsSend`, clause by clause. -/
theorem witness_PortsSend :
    (∃ (ring : Fin 64) (d : Desc) (s : State),
      let p : Nat := s.ringInst ring.val
      s.Alone ring.val d ∧ s.startedDesc ring.val 4098 = some d ∧ d.index < 65536 ∧
      (¬(p < 8 ∧ s.rd (Reg.MAC_CTRL_RXRING p) ≠ ring.val ∧ 14 ≤ d.len ∧ macTxFieldsOk true [d] = true))) ∧
    (∃ (ring : Fin 64) (d : Desc) (s : State),
      let p : Nat := s.ringInst ring.val
      s.Alone ring.val d ∧ s.startedDesc ring.val 4098 = some d ∧ d.index < 65536 ∧ p < 8 ∧ s.rd (Reg.MAC_CTRL_RXRING p) ≠ ring.val ∧
      14 ≤ d.len ∧ macTxFieldsOk true [d] = true ∧ s.pairOn (p / 2) = false ∧ s.flag (Reg.MAC_CTRL_ENABLE p) = false) ∧
    (∃ (ring : Fin 64) (d : Desc) (s : State),
      let p : Nat := s.ringInst ring.val
      s.Alone ring.val d ∧ s.startedDesc ring.val 4098 = some d ∧ d.index < 65536 ∧ p < 8 ∧ s.rd (Reg.MAC_CTRL_RXRING p) ≠ ring.val ∧
      14 ≤ d.len ∧ macTxFieldsOk true [d] = true ∧ s.pairOn (p / 2) = false ∧ s.flag (Reg.MAC_CTRL_ENABLE p) = true ∧
      s.flag (Reg.MAC_STAT_LINK p) = false) ∧
    (∃ (ring : Fin 64) (data : Bytes) (d : Desc) (s : State),
      let p : Nat := s.ringInst ring.val
      s.Alone ring.val d ∧ s.startedDesc ring.val 4098 = some d ∧ d.index < 65536 ∧ p < 8 ∧ s.rd (Reg.MAC_CTRL_RXRING p) ≠ ring.val ∧
      14 ≤ d.len ∧ macTxFieldsOk true [d] = true ∧ s.pairOn (p / 2) = false ∧ s.isOff 16 = false ∧ s.flag (Reg.MAC_CTRL_ENABLE p) = true ∧
      s.flag (Reg.MAC_STAT_LINK p) = true ∧ List.length data = d.len ∧ bitOf (d.w 0) 16 = false ∧
      List.length data + 4 ≤ s.rd (Reg.MAC_MAXFRAME p) + 4 * tagCount data) ∧
    (∃ (p : Fin 10) (f : TxFrame) (s : State), s.isOff 16 = false ∧ s.flag (Reg.MAC_CTRL_ENABLE p.val) = true ∧
      s.flag (Reg.MAC_STAT_LINK p.val) = true ∧ s.flag (Reg.MAC_STAT_PREEMPT p.val) = false ∧ (s.mac p.val).pause = none ∧
      (s.mac p.val).holdUntil = none ∧ (s.mac p.val).cut = none ∧ (s.mac p.val).tx = [f] ∧
      f.at_ ≤ (s.untilElapsed (s.mac p.val).wireUntil).planeTime p.val ∧ (∀ (r a n : Nat) (b : Bool), f.kind ≠ TxKind.host r a n b) ∧
      (∀ (r : Nat), f.kind ≠ TxKind.roost r) ∧ f.kind ≠ TxKind.ptpEvent ∧ f.kind ≠ TxKind.ptpOneStep ∧ f.tci = none ∧ f.prpSeq = none ∧
      (∀ (g q : Nat), f.kind ≠ TxKind.echo g q) ∧ (8 ≤ p.val ∨ s.flag (Reg.MSC_CTRL_TX_EN p.val) = false) ∧ 60 ≤ List.length f.bytes ∧
      List.length f.bytes + 4 ≤ s.rd (Reg.MAC_MAXFRAME p.val) + 4 * tagCount f.bytes) ∧
    (∃ (p : Fin 10) (q : Nat) (s : State), s.isOff 16 = false ∧ s.flag (Reg.MAC_CTRL_ENABLE p.val) = true ∧
      s.flag (Reg.MAC_STAT_LINK p.val) = true ∧ (s.mac p.val).cut = none ∧ (s.mac p.val).pause = some q) ∧
    (∃ (p : Fin 10) (up : Bool) (s : State), s.isOff 16 = false ∧ s.flag (Reg.MAC_STAT_LINK p.val) = !up ∧
      s.flag (Reg.MAC_PREEMPT_EN p.val) = false ∧ s.flag (Reg.MAC_STAT_PREEMPT p.val) = false ∧ (s.mac p.val).tx = []) ∧
    (∃ (p : Fin 10) (τ : Nat) (s : State), s.isOff 16 = false ∧ (s.mac p.val).nextVerify = some τ ∧ (s.mac p.val).verifyTries < 3) ∧
    (∃ (k : Fin 4) (τ : Nat) (s : State), s.isOff 16 = false ∧ (s.mac (2 * k.val)).nextSupervision = some τ ∧ s.pairOn k.val = true ∧
      s.flag (Reg.MAC_PRP_SUPER_EN (2 * k.val)) = true ∧
      (∀ (p : Nat), p = 2 * k.val ∨ p = 2 * k.val + 1 → s.macUp p = true ∧ s.macTooLong p (s.supervisionFrame (2 * k.val) (s.mac (2 * k.val)).supSeq) = false)) ∧
    (∃ (k : Fin 4) (e : PrpEntry) (rest : List PrpEntry) (s : State), s.isOff 16 = false ∧ (s.mac (2 * k.val)).prpTable = e :: rest) :=
  ⟨⟨2, db [0] 64, withD 2 16 0 (db [0] 64) (mk (en 0)), by decide +kernel⟩,
   ⟨3, db [0] 64, withD 3 16 5 (db [0] 64) (mk []), by decide +kernel⟩,
   ⟨3, db [0] 64, withD 3 16 7 (db [0] 64) (mk (en 7 ++ [(Reg.MAC_STAT_LINK 7, 0)])), by decide +kernel⟩,
   ⟨3, fr 64, db [0] 64, withD 3 16 0 (db [0] 64) (mk (en 0)), by decide +kernel⟩,
   ⟨9, tx 61 .supervision none, b9, by decide +kernel, by decide +kernel, by decide +kernel, by decide +kernel, by decide +kernel, by decide +kernel, by decide +kernel, by decide +kernel, by decide +kernel, nofun, nofun, by decide +kernel, by decide +kernel, by decide +kernel, by decide +kernel, nofun, by decide +kernel⟩,
   ⟨7, 7, mc 7 { macIdle with tx := [tx 60 (.data 3 3 3)], pause := some 7 } (mk (en 7)), by decide +kernel⟩,
   ⟨0, false, mk (en 0), by decide +kernel⟩,
   ⟨0, 7, mc 0 { macIdle with nextVerify := some 7, verifyTries := 2 } (mk (en 0)), by decide +kernel⟩,
   ⟨0, 500, { mc 0 { macIdle with nextSupervision := some 500, supSeq := 65535, prpNext := 65535 } (mk (en 0 ++ en 1 ++ [(Reg.MAC_CTRL_PRP_EN 0, 1), (Reg.MAC_PRP_SUPER_EN 0, 1)])) with time := State.reset.time }, by decide +kernel, by decide +kernel, by decide +kernel, by decide +kernel, by intro p h; rcases h with h | h <;> subst h <;> decide +kernel⟩,
   ⟨3, { source := 4, seq := 3, lan := 0, stored := 7 }, [{ source := 4, seq := 3, lan := 0, stored := 7 }], mc 6 { macIdle with nextSupervision := some 500, prpTable := [{ source := 4, seq := 3, lan := 0, stored := 7 }, { source := 4, seq := 3, lan := 0, stored := 7 }] } (mk (en 6 ++ en 7 ++ [(Reg.MAC_CTRL_PRP_EN 6, 1), (Reg.MAC_PRP_SUPER_EN 6, 1)])), by decide +kernel⟩⟩
end G2

namespace G3
def en := G2.en
def mc := G2.mc
def full : MacSt := { macIdle with rx := [{ bytes := G2.fr 60, length := 64, time := 5, an := none, prp := false, lanB := false, tci := none, claim := 0 }], pause := some 4, holdUntil := some 4, prpNext := 7, prpTable := [{ source := 4, seq := 3, lan := 0, stored := 7 }], wireUntil := 99, nextVerify := some 4 }

/-- States and operands that meet the hypotheses of `Obligations.PortControl`, clause by clause. -/
theorem witness_PortControl :
    (∃ (p : Fin 10) (s : State), s.isOff 16 = false ∧ s.flag (Reg.MAC_CTRL_ENABLE p.val) = false ∧
      s.flag (Reg.MAC_STAT_QUIESCENT p.val) = true ∧ s.flag (Reg.MAC_PREEMPT_EN p.val) = false ∧
      s.flag (Reg.MAC_STAT_PREEMPT p.val) = false) ∧
    (∃ (p : Fin 10) (s : State), s.isOff 16 = false ∧ s.flag (Reg.MAC_CTRL_ENABLE p.val) = true ∧ (s.mac p.val).tx = [] ∧
      s.selfCal.run = none) ∧
    (∃ (p : Fin 10) (s : State), s.isOff 16 = false ∧ (s.mac p.val).disabling = true) ∧
    (∃ (p : Fin 10) (s : State), s.isOff 16 = false ∧
      (∀ (j : Nat), j < 42 → s.rd64 (Reg.MAC_CNT_LO p.val j) (Reg.MAC_CNT_HI p.val j) < 2 ^ macCounterWidth j) ∧
      (∀ (j : Nat), j < 10 → s.rd64 (Reg.MSC_CNT_LO p.val j) (Reg.MSC_CNT_HI p.val j) < 2 ^ if j = 1 ∨ j = 8 then 48 else 32)) ∧
    (∃ (s : State), s.isOff 17 = false) :=
  ⟨⟨0, State.reset, by decide +kernel⟩,
   ⟨0, mc 0 full (mk (en 0 ++ [(Reg.MAC_STAT_PREEMPT 0, 1)])), by decide +kernel⟩,
   ⟨9, mc 9 { full with disabling := true } State.reset, by decide +kernel⟩,
   ⟨0, State.reset, by decide +kernel⟩,
   ⟨State.reset, by decide +kernel⟩⟩
end G3

namespace H1
def vi (i : Nat) (v : VinSt) (l : List (Fld × Nat) := []) : State := (mk (l ++ [(Reg.VIN_CTRL_ENABLE i, 1), (Reg.VIN_STAT_QUIESCENT i, 0), (Reg.VIN_BASE0 i, 0x10000), (Reg.VIN_BASE1 i, 0x20000), (Reg.VIN_CFG_WIDTH i, 64), (Reg.VIN_CFG_HEIGHT i, 32)])).setVin i v
def lk (i : Nat) : List (Fld × Nat) := [(Reg.VIN_STAT_LOCK i, 1)]
def fl (f kind tgt : Nat) (x : FlowSt) (s : State) : State := (mk [(Reg.VIN_FLOW_CTRL_ENABLE f, 1), (Reg.VIN_FLOW_CTRL_QUIESCENT f, 0), (Reg.VIN_FLOW_CTRL_KIND f, kind), (Reg.VIN_FLOW_CTRL_TARGET f, tgt), (Reg.VIN_FLOW_PACKETS f, 0xFFFFFFFF)] s).setFlow f x
def v0 := vinIdle
def v1 : VinSt := { vinIdle with buf0 := .complete 3, buf1 := .writing, started := some 7 }
def v2 : VinSt := { vinIdle with buf0 := .writing, buf1 := .complete 4, started := some 7, held := [1], run := (3, 4) }
def f0 : FlowSt := { seq := some 0xFFFFFFFF, gap := false, inFrame := true }
def sel : List (Fld × Nat) := [(Reg.ANT_REF_CFG_SDI_SEL, 2)]
def F1 : SdiFormat := { width := 1280, height := 720, interlaced := false, rate := 50, divided := false, link := .g1_5, ycc422 := true }

/-- States and operands that meet the hypotheses of `Obligations.VideoFrames`, clause by clause. -/
theorem witness_VideoFrames :
    (∃ (i : Fin 16) (x : SdiFormat) (against : SdiCheck) (s : State), s.isOff 18 = false ∧ i.val < 4 ∧
      s.flag (Reg.VIN_CTRL_ENABLE i.val) = true ∧ s.sdiRuns = true ∧ sdiBad x against = 0 ∧ s.flag (Reg.VIN_STAT_LOCK i.val) = true ∧
      s.rd (Reg.VIN_STAT_FMT i.val) = sdiFmt x ∧ s.rd Reg.ANT_REF_CFG_SDI_SEL ≠ i.val ∧ (s.vin i.val).writing = none ∧
      (s.vin i.val).held = []) ∧
    (∃ (i : Fin 16) (x : SdiFormat) (against : SdiCheck) (s : State), s.isOff 18 = false ∧ i.val < 4 ∧
      s.flag (Reg.VIN_CTRL_ENABLE i.val) = true ∧ s.sdiRuns = true ∧ sdiBad x against = 0 ∧ s.flag (Reg.VIN_STAT_LOCK i.val) = false) ∧
    (∃ (i : Fin 16) (x : SdiFormat) (against : SdiCheck) (s : State), s.isOff 18 = false ∧ i.val < 4 ∧
      s.flag (Reg.VIN_CTRL_ENABLE i.val) = true ∧ s.sdiRuns = true ∧ sdiBad x against ≠ 0 ∧ s.flag (Reg.VIN_STAT_LOCK i.val) = false) ∧
    (∃ (i : Fin 16) (s : State), s.isOff 18 = false ∧ s.StoreSound ∧ 4 ≤ i.val) ∧
    (∃ (i : Fin 16) (b : Nat) (s : State), s.isOff 18 = false ∧ s.StoreSound ∧ i.val < 4 ∧ (s.vin i.val).writing = some b) ∧
    (∃ (i : Fin 4) (s : State), s.isOff 18 = false ∧ s.flag (Reg.VIN_CTRL_ENABLE i.val) = true ∧ s.sdiRuns = true ∧
      s.flag (Reg.VIN_STAT_LOCK i.val) = false ∧ 4 ≤ (s.vin i.val).run.snd) ∧
    (∃ (i : Fin 16) (s : State), s.isOff 18 = false ∧ s.flag (Reg.VIN_STAT_LOCK i.val) = true ∧ s.flag (Reg.VIN_CTRL_LOSS i.val) = false ∧
      s.rd Reg.ANT_REF_CFG_SDI_SEL ≠ i.val) ∧
    (∃ (k : Fin 48) (s : State), s.isOff 18 = false ∧ s.selfCal.run = none ∧ k.val < 16) ∧
    (∃ (k : Fin 48) (s : State), s.isOff 18 = false ∧ s.selfCal.run = none ∧ 16 ≤ k.val) ∧
    (∃ (k : Fin 48) (s : State),
      let i : Nat := if k.val < 16 then k.val else s.flowTarget (k.val - 16)
      let en : Fld := if k.val < 16 then Reg.VIN_CTRL_ENABLE k.val else Reg.VIN_FLOW_CTRL_ENABLE (k.val - 16)
      let q : Fld := if k.val < 16 then Reg.VIN_STAT_QUIESCENT k.val else Reg.VIN_FLOW_CTRL_QUIESCENT (k.val - 16)
      s.isOff 18 = false ∧ s.flag en = false ∧ s.flag q = false ∧ (s.vin i).held = [] ∧ (s.vin i).emptyLater = []) ∧
    (∃ (f : Fin 32) (s : State), s.isOff 18 = false ∧ s.flag (Reg.VIN_FLOW_CTRL_ENABLE f.val) = false ∧
      s.flag (Reg.VIN_FLOW_CTRL_QUIESCENT f.val) = true ∧ s.flowRefusal f.val = 0) ∧
    (∃ (f : Fin 32) (s : State), s.isOff 18 = false ∧ s.flag (Reg.VIN_FLOW_CTRL_ENABLE f.val) = false ∧
      s.flag (Reg.VIN_FLOW_CTRL_QUIESCENT f.val) = true ∧ s.flowRefusal f.val ≠ 0) ∧
    (∃ (h : FlowHead) (f : Nat) (g : RowData) (s : State),
      let i : Nat := s.flowTarget f
      s.isOff 18 = false ∧ s.StoreSound ∧ s.flowFor h 1 = some f ∧ s.flow f = flowIdle ∧ (s.vin i).writing = none ∧ (s.vin i).held = [] ∧
      g.line = 0 ∧ g.offset = 0) ∧
    (∃ (h : FlowHead) (f n : Nat) (seq : BitVec 16) (g : RowData) (b : Nat) (s : State),
      let i : Nat := s.flowTarget f
      s.isOff 18 = false ∧ s.StoreSound ∧ s.flowFor h 1 = some f ∧ s.flow f = { seq := some n, gap := false, inFrame := true } ∧
      n < 2 ^ 32 ∧ n % 2 ^ 16 = seq.toNat ∧ (s.vin i).writing = some b ∧ List.length g.data = 5 ∧
      segFits (s.rd (Reg.VIN_CFG_WIDTH i)) (s.rd (Reg.VIN_CFG_HEIGHT i)) g = true) ∧
    (∃ (h : FlowHead) (f n : Nat) (seq : BitVec 16) (b : Nat) (s : State),
      let i : Nat := s.flowTarget f
      s.isOff 18 = false ∧ s.flowFor h 1 = some f ∧ s.flow f = { seq := some n, gap := false, inFrame := true } ∧ n < 2 ^ 32 ∧
      n % 2 ^ 16 = seq.toNat ∧ (s.vin i).writing = some b ∧ 4 ≤ i) :=
  ⟨⟨3, F1, { ident := none, refDivided := false }, vi 3 { v0 with buf0 := .complete 3 } (sel ++ lk 3 ++ [(Reg.VIN_STAT_FMT 3, 1), (Reg.VIN_STAT_HAVE 3, 1)]), by decide +kernel⟩,
   ⟨0, F1, { ident := none, refDivided := false }, vi 0 { v0 with run := (3, 2) } sel, by decide +kernel⟩,
   ⟨0, F1, { ident := some F1, refDivided := true }, vi 0 { v0 with run := (3, 2) } sel, by decide +kernel⟩,
   ⟨4, State.reset, by decide +kernel⟩,
   ⟨0, 1, vi 0 v1 (sel ++ lk 0 ++ [(Reg.VIN_STAT_HAVE 0, 1)]), by decide +kernel⟩,
   ⟨3, vi 3 v2 sel, by decide +kernel⟩,
   ⟨0, vi 0 v1 (sel ++ lk 0 ++ [(Reg.VIN_STAT_HAVE 0, 1)]), by decide +kernel⟩,
   ⟨0, State.reset, by decide +kernel⟩,
   ⟨16, State.reset, by decide +kernel⟩,
   ⟨0, mk [(Reg.VIN_CTRL_ENABLE 0, 0)] (vi 0 { v0 with buf0 := .complete 3, started := some 4 } []), by decide +kernel⟩,
   ⟨0, mk [(Reg.VIN_FLOW_CTRL_KIND 0, 1), (Reg.VIN_FLOW_CTRL_TARGET 0, 4)], by decide +kernel⟩,
   ⟨0, State.reset, by decide +kernel⟩,
   ⟨{ port := 0, srcIp := 0, dstIp := 0, dport := 0 }, 0, { line := 0, offset := 0, data := [1,2,3,4,5] }, fl 0 1 4 flowIdle (vi 4 v0), by decide +kernel⟩,
   ⟨{ port := 0, srcIp := 0, dstIp := 0, dport := 0 }, 0, 0xFFFFFFFF, 0xFFFF, { line := 31, offset := 62, data := [1,2,3,4,5] }, 0, fl 0 1 31 f0 (vi 15 v2), by decide +kernel⟩,
   ⟨{ port := 0, srcIp := 0, dstIp := 0, dport := 0 }, 0, 0xFFFFFFFF, 0xFFFF, 0, fl 0 1 31 f0 (vi 15 v2), by decide +kernel⟩⟩
end H1

namespace H2
def ch (c : Nat) (w b l : Nat) : List (Fld × Nat) := [(Reg.AUD_CH_CFG_ENABLE c, 1), (Reg.AUD_CH_WIDX c, w), (Reg.AUD_CH_BASE c, b), (Reg.AUD_CH_CFG_LOG2LEN c, l)]
def ae (k : Nat) : List (Fld × Nat) := [(Reg.AUD_CTRL_AES_EN, 2^k), (Reg.AUD_AES_STAT_LOCK k, 1), (Reg.AUD_AES_STAT_RATE k, 2), (Reg.ANT_REF_CFG_AUD_SEL, 3)]
def fl (f kind tgt : Nat) (x : FlowSt) (s : State) : State := (mk [(Reg.VIN_FLOW_CTRL_ENABLE f, 1), (Reg.VIN_FLOW_CTRL_QUIESCENT f, 0), (Reg.VIN_FLOW_CTRL_KIND f, kind), (Reg.VIN_FLOW_CTRL_TARGET f, tgt), (Reg.VIN_FLOW_PACKETS f, 0xFFFFFFFF)] s).setFlow f x
def f0 : FlowSt := { seq := none, gap := false, inFrame := false }
def late : State := { State.reset with time := { acc := 5000000007 * 2^32 + 77, elapsed := 4999999998, rho := 3000000, rhoTarget := -5000000 } }

/-- States and operands that meet the hypotheses of `Obligations.AudioRings`, clause by clause. -/
theorem witness_AudioRings :
    (∃ (k : Fin 4) (second : Bool) (s : State),
      let c : Nat := 2 * k.val + b2n second
      s.isOff 19 = false ∧ s.StoreSound ∧ bitOf (s.rd Reg.AUD_CTRL_AES_EN) k.val = true ∧ s.flag (Reg.AUD_AES_STAT_LOCK k.val) = true ∧
      s.flag (Reg.AUD_CH_CFG_ENABLE c) = true) ∧
    (∃ (k : Fin 4) (s : State), s.isOff 19 = false ∧ bitOf (s.rd Reg.AUD_CTRL_AES_EN) k.val = true ∧
      s.flag (Reg.AUD_AES_STAT_LOCK k.val) = true ∧ s.rd Reg.ANT_REF_CFG_AUD_SEL ≠ k.val) ∧
    (∃ (k : Fin 4) (s : State), s.isOff 19 = false ∧ bitOf (s.rd Reg.AUD_CTRL_AES_EN) k.val = true ∧
      s.flag (Reg.AUD_AES_STAT_LOCK k.val) = true ∧ s.rd Reg.ANT_REF_CFG_AUD_SEL = k.val ∧ (s.source 5).last = none ∧
      (s.source 5).expected = none) ∧
    (∃ (k : Fin 4) (rate : Fin 5) (s : State), s.isOff 19 = false ∧ s.rd (Reg.AUD_AES_STAT_RATE k.val) ≠ rate.val ∧ rate ≠ 0 ∧
      bitOf (s.rd Reg.AUD_CTRL_AES_EN) k.val = true) ∧
    (∃ (k : Fin 4) (s : State), s.isOff 19 = false ∧ s.rd (Reg.AUD_AES_STAT_RATE k.val) ≠ 0 ∧ s.rd Reg.ANT_REF_CFG_AUD_SEL ≠ k.val) ∧
    (∃ (h : FlowHead) (f : Nat) (data : Bytes) (s : State),
      let c : Nat := 8 + 8 * s.flowTarget f
      let size : Nat := if s.flag (Reg.VIN_FLOW_CTRL_L24 f) = true then 3 else 2
      s.isOff 18 = false ∧ s.isOff 19 = false ∧ s.StoreSound ∧ s.flowFor h 2 = some f ∧ s.flowTarget f ≤ 7 ∧ (s.flow f).seq = none ∧
      s.rd (Reg.VIN_FLOW_CTRL_CHANS f) = 0 ∧ List.length data = size ∧ s.flag (Reg.AUD_CH_CFG_ENABLE c) = true ∧ s.ptpHeld = false ∧
      s.rd Reg.AUD_CTRL_CLKSTREAM ≠ s.flowTarget f) ∧
    (∃ (h : FlowHead) (f : Nat) (data : Bytes) (s : State),
      let b : Bytes := leBytes 4 (List.length data) ++ data
      s.isOff 18 = false ∧ s.StoreSound ∧ s.flowFor h 3 = some f ∧
      s.rd Reg.VIN_ANC_WIDX % 2 ^ s.rd Reg.VIN_ANC_LOG2 + List.length b ≤ 2 ^ s.rd Reg.VIN_ANC_LOG2) ∧
    (∃ (fn : Fin 79) (s : State), s.isOff 19 = false ∧ fn.val < 7 ∧ s.flag (audFld fn.val) = true) ∧
    (∃ (fn : Fin 79) (s : State), s.isOff 19 = false ∧ 7 ≤ fn.val ∧ s.flag (Reg.AUD_CH_CFG_ENABLE (fn.val - 7)) = true) :=
  ⟨⟨0, false, mk (ae 0 ++ ch 0 0xFFFFFFFF 0x1000 8 ++ ch 1 3 0x1F7FFC00 8), by decide +kernel⟩,
   ⟨0, mk (ae 0 ++ ch 0 0xFFFFFFFF 0x1000 8 ++ ch 1 3 0x1F7FFC00 8), by decide +kernel⟩,
   ⟨3, mk (ae 3 ++ ch 7 0xFFFFFFFF 0x1000 8), by decide +kernel⟩,
   ⟨0, 2, mk [(Reg.AUD_CTRL_AES_EN, 0xF)], by decide +kernel⟩,
   ⟨0, mk (ae 0 ++ ch 0 0xFFFFFFFF 0x1000 8 ++ ch 1 3 0x1F7FFC00 8), by decide +kernel⟩,
   ⟨{ port := 0, srcIp := 0, dstIp := 0, dport := 0 }, 0, [1,2,3], mk (ch 8 0xFFFFFFFF 0x2000 8 ++ [(Reg.AUD_CTRL_CLKSTREAM, 7), (Reg.VIN_FLOW_CTRL_CHANS 0, 0)]) (fl 0 2 0 f0 late), by decide +kernel⟩,
   ⟨{ port := 0, srcIp := 0, dstIp := 0, dport := 0 }, 0, [], mk [(Reg.VIN_ANC_LOG2, 12), (Reg.VIN_ANC_BASE, 0x8000), (Reg.VIN_ANC_WIDX, 0xFFFFFFF0)] (fl 0 3 0 f0 late), by decide +kernel⟩,
   ⟨0, mk (ae 0 ++ ch 0 0xFFFFFFFF 0x1000 8 ++ ch 1 3 0x1F7FFC00 8), by decide +kernel⟩,
   ⟨7, mk (ae 0 ++ ch 0 0xFFFFFFFF 0x1000 8 ++ ch 1 3 0x1F7FFC00 8), by decide +kernel⟩⟩
end H2

namespace H3
def tk (t : TrkSt) (l : List (Fld × Nat)) : State := { mk (l ++ [(Reg.AUD_CTRL_TRK_EN, 1), (Reg.AUD_TRK_CFG_TAP_EN, 1), (Reg.AUD_TRK_BEATS, 0xFFFFFFFF)]) with trk := t }
def t0 : TrkSt := State.reset.trk
def now (n : Nat) (s : State) : State := { s with time := { s.time with acc := n * 2^32 } }
def lt (l : LtcSt) (x : List (Fld × Nat)) : State := { mk (x ++ [(Reg.AUD_CTRL_LTCIN_EN, 1)]) with ltc := l }

/-- States and operands that meet the hypotheses of `Obligations.TrackerAndTimecode`, clause by clause. -/
theorem witness_TrackerAndTimecode :
    (∃ (ms : Fin 64) (τ : Nat) (s : State), s.isOff 19 = false ∧ s.flag Reg.AUD_CTRL_TRK_EN = true ∧ s.trk.next = some τ ∧
      s.rd Reg.AUD_TRK_STAT_STATE = 0 ∧ ms.val ≤ s.rd Reg.AUD_TRK_CFG_BEATWIN ∧ trkConf (List.take 16 (true :: s.trk.matched)) < 128) ∧
    (∃ (ms : Fin 64) (τ : Nat) (s : State), s.isOff 19 = false ∧ s.flag Reg.AUD_CTRL_TRK_EN = true ∧ s.trk.next = some τ ∧
      s.rd Reg.AUD_TRK_STAT_STATE = 1 ∧ ms.val ≤ s.rd Reg.AUD_TRK_CFG_BEATWIN ∧ τ < s.trk.loudAt + 1000000000 ∧
      64 ≤ trkConf (List.take 16 (true :: s.trk.matched))) ∧
    (∃ (τ : Nat) (s : State), s.isOff 19 = false ∧ s.flag Reg.AUD_CTRL_TRK_EN = true ∧ s.trk.next = some τ ∧
      s.rd Reg.AUD_TRK_STAT_STATE = 1 ∧ s.trk.loudAt + 1000000000 ≤ τ ∧ s.trk.coast + 1 < s.rd Reg.AUD_TRK_CFG_COASTMAX) ∧
    (∃ (s : State), s.isOff 19 = false ∧ s.flag Reg.AUD_CTRL_TRK_EN = true ∧ s.flag Reg.AUD_TRK_CFG_TAP_EN = true ∧ s.trk.taps = []) ∧
    (∃ (s : State) (l : Nat), s.isOff 19 = false ∧ s.flag Reg.AUD_CTRL_TRK_EN = true ∧ s.flag Reg.AUD_TRK_CFG_TAP_EN = true ∧
      s.trk.taps = [l] ∧ l + s.beatMin ≤ s.now ∧ s.now ≤ l + s.beatMax) ∧
    (∃ (tc : Word) (good : Bool) (s : State), s.isOff 19 = false ∧ s.flag Reg.AUD_CTRL_LTCIN_EN = true ∧
      (good && tcOk (s.rd Reg.AUD_LTCIN_RATE) (BitVec.toNat tc)) = true ∧ s.ltc.count = none ∧ s.flag Reg.AUD_LTCIN_LOCK = false) ∧
    (∃ (tc : Word) (good : Bool) (s : State), s.isOff 19 = false ∧ s.flag Reg.AUD_CTRL_LTCIN_EN = true ∧
      (good && tcOk (s.rd Reg.AUD_LTCIN_RATE) (BitVec.toNat tc)) = false) ∧
    (∃ (s : State), s.isOff 19 = false ∧ s.flag Reg.AUD_LTCIN_LOCK = true ∧ s.sourceValid 4 = false) ∧
    (∃ (s : State), s.isOff 19 = false ∧ s.flag Reg.AUD_LTCIN_LOCK = true ∧ s.sourceValid 4 = true ∧ s.measuring 4 = false) ∧
    (∃ (s : State), s.isOff 19 = false ∧ s.flag Reg.AUD_CTRL_LTCOUT_EN = true ∧ s.ltcOutBad (s.rd Reg.AUD_LTCOUT_CTX) = 0 ∧
      s.padsCut = false) ∧
    (∃ (s : State), s.isOff 19 = false ∧ s.flag Reg.AUD_CTRL_LTCOUT_EN = true ∧ s.ltcOutBad (s.rd Reg.AUD_LTCOUT_CTX) ≠ 0) :=
  ⟨⟨0, 9000, tk { t0 with next := some 9000, matched := [false, true] } [], by decide +kernel⟩,
   ⟨0, 9000, tk { t0 with next := some 9000, matched := List.replicate 20 true, period := 500000000 } [(Reg.AUD_TRK_STAT_STATE, 1)], by decide +kernel⟩,
   ⟨2000000000, tk { t0 with next := some 2000000000, matched := List.replicate 20 true, period := 500000000 } [(Reg.AUD_TRK_STAT_STATE, 1), (Reg.AUD_TRK_CFG_COASTMAX, 4)], by decide +kernel⟩,
   ⟨tk { t0 with next := some 9000, matched := [false, true] } [], by decide +kernel⟩,
   ⟨now 9000000000 (tk { t0 with onsets := [1, 2], taps := [8500000000] } []), 8500000000, by decide +kernel⟩,
   ⟨0x01020304, true, lt { count := none, run := 0, last := 5 } [], by decide +kernel⟩,
   ⟨0xFFFFFFFF, false, lt { count := none, run := 0, last := 5 } [], by decide +kernel⟩,
   ⟨lt { count := some 4, run := 3, last := 5 } [(Reg.AUD_LTCIN_LOCK, 1)], by decide +kernel⟩,
   ⟨lt { count := some 4, run := 3, last := 5 } [(Reg.AUD_LTCIN_LOCK, 1), (Reg.ANT_STAT_VALID, 8), (Reg.ANT_STAT_STATE, 3)], by decide +kernel⟩,
   ⟨(mk [(Reg.AUD_CTRL_LTCOUT_EN, 1), (Reg.AUD_LTCOUT_OFS, 0xFFFFFFF0), (Reg.ANT_CTX_STAT_STATE 0, 1), (Reg.ANT_CTX_PERIOD_HI 0, 40000000), (Reg.AUD_LTCOUT_RATE, 1)]).setCtx 0 { pb := 5 * 2^24, tb := 0, cmd := none, rewrite := false }, by decide +kernel⟩,
   ⟨mk [(Reg.AUD_CTRL_LTCOUT_EN, 1)], by decide +kernel⟩⟩
end H3

namespace I1
def base (st rank : Nat) (l : List (Fld × Nat)) (s : State := State.reset) : State := mk ([(Reg.ROO_STAT_STATE, st), (Reg.ROO_STAT_RANK, rank), (Reg.ROO_ID, 77), (Reg.ROO_CTRL_ENABLE, 1), (Reg.ROO_STAT_QUIESCENT, 0), (Reg.ROO_STAT_KEY, 1)] ++ l) s
def peer (n ser st rank : Nat) (p : PeerSt) (s : State) : State := (mk [(Reg.ROO_PEER_SERIAL_LO n, ser), (Reg.ROO_PEER_STAT_VALID n, 1), (Reg.ROO_PEER_STAT_STATE n, st), (Reg.ROO_PEER_STAT_RANK n, rank)] s).setPeer n p
def rs (f : RooSt → RooSt) (s : State) : State := { s with roo := f s.roo }
def m (st rank : Nat) (payload : Bytes) : RoostMsg := { path := 2, tagOk := true, undefinedType := false, id := 77, hopped := false, state := BitVec.ofNat _ st, rank := BitVec.ofNat _ rank, sender := 5, dest := 0, mseq := 9, f := 6, txtime := 7, payload := payload, time := 100 }
def p1 : PeerSt := { peerIdle with lastHeard := some 50, pref := 3, acked := [3] }
def hb : Bytes := beBytes 4 0x11 ++ beBytes 4 0x22 ++ beBytes 8 0x33 ++ beBytes 16 0

/-- States and operands that meet the hypotheses of `Obligations.RoostPeers`, clause by clause. -/
theorem witness_RoostPeers :
    (∃ (m : RoostMsg) (n : Nat) (s : State), s.Takes 1 m ∧ m.path = 2 ∧ s.roo.digests = [] ∧ s.rooState = 3 ∧ s.rd Reg.ROO_STAT_RANK = 0 ∧
      m.rank ≠ 0 ∧ m.state ≠ 0 ∧ m.state ≠ 5 ∧
      (s.peerOf m.sender.toNat = some n ∨ s.peerOf m.sender.toNat = none ∧ n = 0 ∧ s.peerValid 0 = false)) ∧
    (∃ (m : RoostMsg) (n : Nat) (s : State), s.Takes 1 m ∧ m.path = 2 ∧ m.state = 5 ∧ s.roo.bulk = [] ∧ s.peerOf m.sender.toNat = some n) ∧
    (∃ (n : Fin 2) (τ : Nat) (s : State), s.isOff 21 = false ∧ (s.peer n.val).lastHeard = some τ ∧ s.peerValid n.val = true ∧
      s.roo.bulk = []) ∧
    (∃ (m : RoostMsg) (n : Nat) (s : State), s.Takes 2 m ∧ s.peerOf m.sender.toNat = some n ∧ s.roo.bulk = []) ∧
    (∃ (m : RoostMsg) (s : State), s.isOff 21 = false ∧ s.rooState ≠ 0 ∧ m.tagOk = false) :=
  ⟨⟨m 3 1 hb, 0, base 3 0 [], by decide +kernel⟩,
   ⟨m 5 3 hb, 0, peer 0 5 3 1 p1 (base 3 0 []), by decide +kernel⟩,
   ⟨0, 50, peer 0 5 3 1 p1 (base 3 0 []), by decide +kernel⟩,
   ⟨m 3 1 hb, 0, peer 0 5 3 1 p1 (base 3 0 []), by decide +kernel⟩,
   ⟨{ m 3 1 hb with tagOk := false }, base 3 0 [], by decide +kernel⟩⟩
end I1

namespace I2
open I1 in def grant (l : List (Fld × Nat)) (f : RooSt → RooSt) (st rank : Nat) : State := rs f (base st rank l)
def m := I1.m
def wit : List (Fld × Nat) := [(Reg.ROO_CFG_WITNESS, 1)]

/-- States and operands that meet the hypotheses of `Obligations.RoostLeasesAndModes`, the part RoostLeases, clause by clause. -/
theorem witness_RoostLeases :
    (∃ (s : State), s.isOff 21 = false ∧ s.rooActive = true ∧ s.rd Reg.ROO_CFG_WITNESS ≠ 0) ∧
    (∃ (m : RoostMsg) (n : Nat) (s : State), s.Takes 8 m ∧ s.peerOf m.sender.toNat = some n ∧ s.rooState = 3 ∧
      (s.rd Reg.ROO_STAT_RANK = 1 ∨ s.rd Reg.ROO_STAT_RANK = 2) ∧ s.memberPeer n = true ∧ s.peerRank n = 0) ∧
    (∃ (m : RoostMsg) (sent : Nat) (s : State), s.Takes 9 m ∧ s.rooActive = true ∧
      (List.find? (fun r => r.fst == msgField m 0 4) s.roo.leaseReqs = some (msgField m 0 4, sent)) ∧ s.rd Reg.ROO_CFG_WITNESS ≠ 0) ∧
    (∃ (s : State), s.isOff 21 = false ∧ s.rooActive = true ∧ s.rd Reg.ROO_CFG_WITNESS ≠ 1) ∧
    (∃ (τ : Nat) (s : State), s.isOff 21 = false ∧ s.roo.leaseEnd = some τ) :=
  ⟨⟨grant wit id 3 0, by decide +kernel⟩,
   ⟨m 3 0 (beBytes 4 5), 0, I1.peer 0 5 3 0 I1.p1 (grant [(Reg.MAC_STAT_LINK 8, 1)] id 3 1), by decide +kernel⟩,
   ⟨m 3 0 (beBytes 4 5), 40, grant (wit ++ [(Reg.MAC_STAT_LINK 8, 1)]) (fun r => { r with leaseReqs := [(5, 40)], requestNo := 0xFFFFFFFF, messages := 0xFFFFFFFF }) 3 0, by decide +kernel⟩,
   ⟨grant [(Reg.ROO_CFG_WITNESS, 2)] (fun r => { r with leaseEnd := some 99 }) 3 0, by decide +kernel⟩,
   ⟨99, grant [(Reg.ROO_CFG_WITNESS, 2)] (fun r => { r with leaseEnd := some 99 }) 3 0, by decide +kernel⟩⟩
end I2

namespace I3
def base := @I1.base
def rs := I1.rs

/-- States and operands that meet the hypotheses of `Obligations.RoostLeasesAndModes`, the part RoostModes, clause by clause. -/
theorem witness_RoostModes :
    (∃ (s : State), s.isOff 21 = false ∧ s.flag Reg.ROO_STAT_KEY = true ∧ s.flag Reg.ROO_STAT_QUIESCENT = true ∧ s.rooState = 0 ∧
      s.roo.sagged = false) ∧
    (∃ (s : State), s.isOff 21 = false ∧ s.flag Reg.ROO_STAT_KEY = false) ∧
    (∃ (τ : Nat) (s : State), s.isOff 21 = false ∧ s.rooState = 1 ∧ s.roo.joinSince = some τ ∧
      (∀ (n : Nat), n < 2 → s.peerValid n = false)) ∧
    (∃ (s : State), s.isOff 21 = false ∧ 1 ≤ s.rooState ∧ s.rooState ≤ 4) ∧
    (∃ (τ : Nat) (s : State), s.isOff 21 = false ∧ s.rooState = 4 ∧ s.roo.lagSince = some τ) ∧
    (∃ (τ : Nat) (s : State), s.isOff 21 = false ∧ s.rooState = 5 ∧ s.roo.demotedAt = some τ ∧ s.rd Reg.ROO_DEMCAUSE ∈ [1, 2, 4, 5, 6]) ∧
    (∃ (τ : Nat) (s : State), s.isOff 21 = false ∧ s.rooState = 5 ∧ s.roo.demotedAt = some τ ∧ s.flag Reg.ROO_CTRL_AUTOREJOIN = true ∧
      s.rd Reg.ROO_DEMCAUSE ∈ [1, 2, 4, 6]) ∧
    (∃ (s : State), s.isOff 21 = false ∧ s.flag Reg.ROO_CTRL_ENABLE = true ∧ (∀ (e : CueEntry), e ∈ s.roo.entries → e.source = none) ∧
      s.roo.bulk = []) ∧
    (∃ (s : State), s.isOff 21 = false ∧ s.flag Reg.ROO_CTRL_ENABLE = false ∧ s.flag Reg.ROO_STAT_QUIESCENT = false) :=
  ⟨⟨mk [(Reg.ROO_STAT_KEY, 1)], by decide +kernel⟩,
   ⟨State.reset, by decide +kernel⟩,
   ⟨40, rs (fun r => { r with joinSince := some 40 }) (base 1 3 [(Reg.ROO_JOINWAIT, 3)]), by decide +kernel⟩,
   ⟨rs (fun r => { r with joinSince := some 40 }) (base 1 3 [(Reg.ROO_JOINWAIT, 3)]), by decide +kernel⟩,
   ⟨40, rs (fun r => { r with lagSince := some 40, leaseEnd := some 4 }) (base 4 2 []), by decide +kernel⟩,
   ⟨40, rs (fun r => { r with demotedAt := some 40 }) (base 5 3 [(Reg.ROO_DEMCAUSE, 4), (Reg.ROO_CTRL_AUTOREJOIN, 1)]), by decide +kernel⟩,
   ⟨40, rs (fun r => { r with demotedAt := some 40 }) (base 5 3 [(Reg.ROO_DEMCAUSE, 4), (Reg.ROO_CTRL_AUTOREJOIN, 1)]), by decide +kernel⟩,
   ⟨rs (fun r => { r with joinSince := some 40 }) (base 1 3 [(Reg.ROO_JOINWAIT, 3)]), by decide +kernel⟩,
   ⟨mk [(Reg.ROO_CTRL_ENABLE, 0), (Reg.ROO_STAT_MUTED, 1)] (base 3 0 []), by decide +kernel⟩⟩
end I3

namespace I4
def base := @I1.base
def rs := I1.rs
def peer := I1.peer
def p1 := I1.p1
def mm (pl : Bytes) : RoostMsg := { I1.m 3 0 pl with path := 0 }
def w8 (lsn : Nat) : Bytes := ((List.range 8).map (fun k => beBytes 4 (if k = 0 then lsn else k))).flatten
def ent (l : Nat) : CueEntry := { lsn := l, words := [l, 1, 2, 3, 4, 5, 6, 7], source := none, replay := false }
def ep (k n : Nat) (cs : List (Nat × Bytes)) : EpochSt := { kind := k, number := n, applyF := 0, lsnFirst := 0, lsnLast := 0, chunks := cs, length := 0, digest := [], closed := false, asked := false, verified := false, sender := 5, theta := 0 }
def dig (es : List CueEntry) (b : Bytes) : Bytes := sha256 (entryBytes es ++ b)
def close (k n l0 l1 len : Nat) (d : Bytes) : Bytes := beBytes 4 k ++ beBytes 4 n ++ beBytes 4 9 ++ beBytes 4 l0 ++ beBytes 4 l1 ++ beBytes 4 len ++ d
def sb (st rank : Nat) (f : RooSt → RooSt) : State := rs f (peer 0 5 3 0 p1 (base st rank []))
def regs (s : State) : State := mk [(Reg.ROO_REG_LEN_VALID 0, 1), (Reg.ROO_REG_BASE 0, 0x1000), (Reg.ROO_REG_LEN_LEN 0, 0x20000)] s
def sy (a b : Nat) : Desc := desc 0x1501 5 [a, b]
def e1 (k : Nat) (cs : List (Nat × Bytes)) (d : Bytes) (l0 l1 : Nat) (len : Nat) : EpochSt := { ep k 4 cs with applyF := 9, lsnFirst := l0, lsnLast := l1, length := len, digest := d, closed := true }
def c1 : List (Nat × Bytes) := [(0x4000, [1,2,3,4])]

/-- States and operands that meet the hypotheses of `Obligations.RoostEpochs`, clause by clause. -/
theorem witness_RoostEpochs :
    (∃ (m : RoostMsg) (s : State), s.Takes 3 m ∧ s.takesEpochs = true ∧ s.roo.epochs = [] ∧ s.roo.entries = [] ∧
      List.length m.payload = 32 ∧ s.roo.appliedLsn < snapWord m.payload 0) ∧
    (∃ (m : RoostMsg) (s : State), s.Takes 5 m ∧ s.takesEpochs = true ∧ s.roo.epochs = [] ∧ s.StoreSound) ∧
    (∃ (m : RoostMsg) (e : EpochSt) (s : State), s.Takes 4 m ∧ s.takesEpochs = true ∧
      e =
  { s.epochSt (msgField m 0 4) (msgField m 4 4) with applyF := msgField m 8 4, lsnFirst := msgField m 12 4, lsnLast := msgField m 16 4, length := msgField m 20 4, digest := List.take 32 (List.drop 24 m.payload), closed := true, sender := m.sender.toNat, theta := (s.peerOf m.sender.toNat).elim 0 s.theta } ∧
      e.verified = false ∧ e.lsnLast + 1 - e.lsnFirst ≤ (entriesIn s.roo.entries e.lsnFirst e.lsnLast).length ∧
      List.length e.data = e.length ∧ sha256 (entryBytes (entriesIn s.roo.entries e.lsnFirst e.lsnLast) ++ e.data) = e.digest ∧
      e.kind ≠ 1) ∧
    (∃ (m : RoostMsg) (e : EpochSt) (s : State), s.Takes 4 m ∧ s.takesEpochs = true ∧
      e =
  { s.epochSt (msgField m 0 4) (msgField m 4 4) with applyF := msgField m 8 4, lsnFirst := msgField m 12 4, lsnLast := msgField m 16 4, length := msgField m 20 4, digest := List.take 32 (List.drop 24 m.payload), closed := true, sender := m.sender.toNat, theta := (s.peerOf m.sender.toNat).elim 0 s.theta } ∧
      e.verified = false ∧ e.lsnLast + 1 - e.lsnFirst ≤ (entriesIn s.roo.entries e.lsnFirst e.lsnLast).length ∧
      List.length e.data = e.length ∧ sha256 (entryBytes (entriesIn s.roo.entries e.lsnFirst e.lsnLast) ++ e.data) ≠ e.digest) ∧
    (∃ (m : RoostMsg) (e : EpochSt) (s : State) (a : Nat) (b : Bytes), s.Takes 4 m ∧ s.takesEpochs = true ∧
      e =
  { s.epochSt (msgField m 0 4) (msgField m 4 4) with applyF := msgField m 8 4, lsnFirst := msgField m 12 4, lsnLast := msgField m 16 4, length := msgField m 20 4, digest := List.take 32 (List.drop 24 m.payload), closed := true, sender := m.sender.toNat, theta := (s.peerOf m.sender.toNat).elim 0 s.theta } ∧
      e.verified = false ∧ e.lsnLast + 1 - e.lsnFirst ≤ (entriesIn s.roo.entries e.lsnFirst e.lsnLast).length ∧
      List.length e.data = e.length ∧ sha256 (entryBytes (entriesIn s.roo.entries e.lsnFirst e.lsnLast) ++ e.data) = e.digest ∧
      e.kind = 1 ∧ e.chunks = [(a, b)] ∧ s.StoreSound) ∧
    (∃ (m : RoostMsg) (n : Nat) (s : State), s.Takes 6 m ∧ s.peerOf m.sender.toNat = some n ∧ s.rooActive = true ∧ s.roo.bulk = [] ∧
      msgField m 0 4 = 1 ∧ msgField m 8 4 = 0) ∧
    (∃ (m : RoostMsg) (n : Nat) (s : State), s.Takes 7 m ∧ s.peerOf m.sender.toNat = some n ∧ s.rooActive = true ∧ msgField m 0 4 = 1 ∧
      entriesIn (s.roo.held ++ s.roo.entries) (msgField m 4 4) (msgField m 8 4) ≠ []) ∧
    (∃ (m : RoostMsg) (n : Nat) (s : State), s.Takes 7 m ∧ s.peerOf m.sender.toNat = some n ∧ s.rooActive = true ∧ msgField m 0 4 = 2 ∧
      (∀ (r : Nat), r < 64 → s.flag (Reg.ROO_REG_LEN_VALID r) = false)) ∧
    (∃ (ring : Fin 64) (d : Desc) (s : State), s.Alone ring.val d ∧ s.startedDesc ring.val 5377 = some d ∧
      (¬(s.rooState ≠ 0 ∧ s.flag Reg.ROO_CTRL_ENABLE = true))) ∧
    (∃ (ring : Fin 64) (d : Desc) (s : State), s.Alone ring.val d ∧ s.startedDesc ring.val 5377 = some d ∧ s.rooState ≠ 0 ∧
      s.flag Reg.ROO_CTRL_ENABLE = true ∧ s.rooActive = false) ∧
    (∃ (ring : Fin 64) (d : Desc) (s : State), s.Alone ring.val d ∧ s.startedDesc ring.val 5377 = some d ∧ s.rooState ≠ 0 ∧
      s.flag Reg.ROO_CTRL_ENABLE = true ∧ s.rooActive = true ∧
      (¬(d.reservedOk false 2 = true ∧ d.w 0 % 256 = 0 ∧ d.w 1 % 256 = 0 ∧ s.inRegion (d.w 0) (d.w 1) = true))) ∧
    (∃ (ring : Fin 64) (d : Desc) (s : State) (p : Nat), s.Alone ring.val d ∧ s.startedDesc ring.val 5377 = some d ∧ p < 2 ∧
      s.rooState ≠ 0 ∧ s.flag Reg.ROO_CTRL_ENABLE = true ∧ s.rooActive = true ∧ d.reservedOk false 2 = true ∧ d.w 0 % 256 = 0 ∧
      d.w 1 % 256 = 0 ∧ s.inRegion (d.w 0) (d.w 1) = true ∧ s.StoreSound ∧ 0 < d.w 1 ∧ s.roo.bulk = [] ∧ s.memberPeer p = true ∧
      (s.peer p).acked = []) :=
  ⟨⟨mm (w8 4), sb 3 1 id, by decide +kernel⟩,
   ⟨mm (w8 4), sb 3 1 id, by decide +kernel⟩,
   ⟨mm (close 0 4 5 6 0 (dig [ent 5, ent 6] [])), e1 0 [] (dig [ent 5, ent 6] []) 5 6 0, sb 3 1 (fun r => { r with entries := [ent 5, ent 6] }), by decide +kernel⟩,
   ⟨mm (close 0 4 5 6 0 (List.replicate 32 0)), e1 0 [] (List.replicate 32 0) 5 6 0, sb 3 1 (fun r => { r with entries := [ent 5, ent 6] }), by decide +kernel⟩,
   ⟨mm (close 1 4 1 0 4 (dig [] [1,2,3,4])), e1 1 c1 (dig [] [1,2,3,4]) 1 0 4, sb 3 1 (fun r => { r with epochs := [ep 1 4 c1] }), 0x4000, [1,2,3,4], by decide +kernel⟩,
   ⟨mm (beBytes 4 1 ++ beBytes 4 9 ++ beBytes 4 0), 1, peer 1 5 3 2 p1 (peer 0 8 3 1 p1 (rs (fun r => { r with held := [ent 5], entries := [ent 6], messages := 0xFFFFFFFF }) (base 3 0 [(Reg.MAC_STAT_LINK 8, 1)]))), by decide +kernel⟩,
   ⟨mm (close 1 4 1 0 4 (dig [] [1,2,3,4])), 1, peer 1 5 3 2 p1 (peer 0 8 3 1 p1 (rs (fun r => { r with held := [ent 5], entries := [ent 6], messages := 0xFFFFFFFF }) (base 3 0 [(Reg.MAC_STAT_LINK 8, 1)]))), by decide +kernel⟩,
   ⟨mm (close 2 4 1 0 4 (dig [] [1,2,3,4])), 1, peer 1 5 3 2 p1 (peer 0 8 3 1 p1 (rs (fun r => { r with held := [ent 5], entries := [ent 6], messages := 0xFFFFFFFF }) (base 3 0 [(Reg.MAC_STAT_LINK 8, 1)]))), by decide +kernel⟩,
   ⟨1, sy 0x1000 0x100, withD 1 21 0 (sy 0x1000 0x100), by decide +kernel⟩,
   ⟨1, sy 0x1000 0x100, withD 1 21 0 (sy 0x1000 0x100) (base 3 1 []), by decide +kernel⟩,
   ⟨1, sy 0x1000 0x100, withD 1 21 0 (sy 0x1000 0x100) (base 3 0 []), by decide +kernel⟩,
   ⟨1, sy 0x1000 0x10100, withD 1 21 0 (sy 0x1000 0x10100) (regs (peer 1 5 3 1 { p1 with acked := [] } (base 3 0 []))), 1, by decide +kernel⟩⟩
end I4

namespace J3
def P (f : PwrSt → PwrSt) (l : List (Fld × Nat)) (s : State := State.reset) : State := { mk l s with pwr := f s.pwr }

/-- States and operands that meet the hypotheses of `Obligations.SupplyMonitors`, clause by clause. -/
theorem witness_SupplyMonitors :
    (∃ (level : BitVec 16) (s : State), s.pwr.mode = PwrMode.on ∧ level.toNat < 10800 ∧ s.flag Reg.PWR_STAT_SAG = false ∧ s.rooState ≤ 4 ∧
      s.isOff 21 = false ∧ s.isOff 24 = false ∧ (∀ (p : Nat), p < 16 → s.flag (Reg.WNG_CTRL_ENABLE p) = false)) ∧
    (∃ (level : BitVec 16) (s : State), s.pwr.mode = PwrMode.on ∧ 11200 < level.toNat ∧ s.flag Reg.PWR_STAT_SAG = true) ∧
    (∃ (level : BitVec 16) (s : State), s.pwr.mode = PwrMode.on ∧ level.toNat < 9600) ∧
    (∃ (s : State), s.pwr.mode = PwrMode.on ∧ demotesFrom 3 s.rooState = false) ∧
    (∃ (s : State), s.pwr.avsStopped = false ∧ s.flag Reg.CHY_STAT_RUN = true ∧ 720 ≤ s.pwr.vcore ∧ s.pwr.vcore ≤ 800) :=
  ⟨⟨0, State.reset, by decide +kernel⟩,
   ⟨11201, P (fun p => { p with held := some 4 }) [(Reg.PWR_STAT_SAG, 1), (Reg.PWR_SAGCNT, 0xFFFF)], by decide +kernel⟩,
   ⟨0, State.reset, by decide +kernel⟩,
   ⟨State.reset, by decide +kernel⟩,
   ⟨State.reset, by decide +kernel⟩⟩
end J3

namespace J4
def P := @J3.P
def st : StartSt := { cause := 4, began := 500, cold := false, kept := true, recovery := false, bist := [] }
def stl : StartSt := { st with cold := true, bist := [⟨200, false⟩] }

/-- States and operands that meet the hypotheses of `Obligations.StartsAndClocks`, clause by clause. -/
theorem witness_StartsAndClocks :
    (∃ (s : State), s.pwr.mode ≠ PwrMode.cocoon ∧ s.pwr.held = none) ∧
    (∃ (s : State), s.pwr.mode ≠ PwrMode.cocoon ∧ s.pwr.testmode = false) ∧
    (∃ (s : State), s.pwr.mode ≠ PwrMode.cocoon ∧ s.pwr.testmode = true) ∧
    (∃ (s : State), s.pwr.lostClocks.contains 0 = false ∧ s.pwr.mode = PwrMode.on) ∧
    (∃ (c : Fin 7) (s : State), s.pwr.lostClocks.contains c.val = false ∧ c ≠ 0) ∧
    (∃ (s : State), s.pwr.lostClocks.contains 0 = true ∧ s.pwr.held = some 6) ∧
    (∃ (c : Fin 7) (s : State), s.pwr.lostClocks.contains c.val = true ∧ c ≠ 0 ∧ c ≠ 5) ∧
    (∃ (s : State), s.pwr.lostClocks.contains 5 = true) ∧
    (∃ (rails lost : Bool) (cause : Nat) (s : State), s.startCause rails lost = some cause ∧ s.pwr.failedBoots < 3 ∧ s.chy.session = none ∧
      s.rd Reg.CHY_STAT_CAND ≠ 2 ∧ s.rd Reg.CHY_STAT_CAND ≠ 3) ∧
    (∃ (rails lost : Bool) (cause : Nat) (s : State), s.startCause rails lost = some cause ∧ s.pwr.failedBoots < 3 ∧ s.chy.session = none ∧
      s.rd Reg.CHY_STAT_CAND = 2) ∧
    (∃ (st : StartSt) (s : State), s.pwr.starting = some st ∧ s.chy.restart = none ∧ s.flag Reg.CHY_STAT_HALTED = false ∧ s.chy.held = [] ∧
      (∀ (d : BistDie), d ∈ st.bist → d.repaired = true) ∧ st.bist.length ≤ 8) ∧
    (∃ (st : StartSt) (s : State) (x : BistDie), s.pwr.starting = some st ∧ s.chy.restart = none ∧ s.flag Reg.CHY_STAT_HALTED = false ∧
      s.chy.held = [] ∧ st.cold = true ∧ st.bist = [x] ∧ x.repaired = false ∧ s.rooState = 0) :=
  ⟨⟨State.reset, by decide +kernel⟩,
   ⟨State.reset, by decide +kernel⟩,
   ⟨P (fun p => { p with testmode := true }) [], by decide +kernel⟩,
   ⟨State.reset, by decide +kernel⟩,
   ⟨1, State.reset, by decide +kernel⟩,
   ⟨P (fun p => { p with lostClocks := [0, 2], held := some 6 }) [], by decide +kernel⟩,
   ⟨1, P (fun p => { p with lostClocks := [1, 4, 5] }) [(Reg.MAC_STAT_LINK 3, 1)], by decide +kernel⟩,
   ⟨P (fun p => { p with lostClocks := [1, 4, 5] }) [(Reg.MAC_STAT_LINK 3, 1)], by decide +kernel⟩,
   ⟨false, false, 9, P (fun p => { p with held := some 9, released := true, mode := .on }) [] (State.reset.storeWrite 55 0x40 [1,2]), by decide +kernel⟩,
   ⟨false, false, 2, P (fun p => { p with held := some 2, released := true, keepOk := false }) [(Reg.CHY_STAT_CAND, 2)], by decide +kernel⟩,
   ⟨st, P (fun p => { p with starting := some st, failedBoots := 2 }) [(Reg.CHY_STAT_RUN, 0), (Reg.CHY_LOGSEQ, 0xFFFFFFFF)], by decide +kernel⟩,
   ⟨stl, P (fun p => { p with starting := some stl, failedBoots := 2 }) [(Reg.CHY_STAT_RUN, 0), (Reg.HST_STAT_LINK_UP, 1)], ⟨200, false⟩, by decide +kernel⟩⟩
end J4

namespace J5

/-- States and operands that meet the hypotheses of `Obligations.WakesPadsAndBoundaryScan`, the part BoundaryScan, clause by clause. -/
theorem witness_BoundaryScan :
    (∃ (code : BitVec 8) (s : State), s.jtagOn = true ∧ ¬code.toNat ∈ [0, 1, 2, 8, 9, 16, 17]) ∧
    (∃ (s : State), s.jtagOn = false) :=
  ⟨⟨0x12, State.reset, by decide +kernel⟩,
   ⟨mk [(Reg.CHY_STAT_RUN, 0)], by decide +kernel⟩⟩
end J5

namespace J1
def d (w : Nat) (r : List Nat := []) : Desc := desc 0x1601 5 (w :: r)
def R (x : Desc) (l : List (Fld × Nat)) (n : Nat := 1) : State := withD n 22 0 x (mk l)
def idle (s : State) : State := { mk [(Reg.PWR_STAT_STATE, 1)] s with off := [0x0A, 0x0B], pwr := { s.pwr with idle := [0x0A, 0x0B] } }
def rg (x : Desc) (s : State) : State := withD 1 22 0 x s

/-- States and operands that meet the hypotheses of `Obligations.PowerEntry`, clause by clause. -/
theorem witness_PowerEntry :
    (∃ (ring : Fin 64) (d : Desc) (s : State), s.Alone ring.val d ∧ s.startedDesc ring.val 5633 = some d ∧ d.w 0 % 4 = 0 ∧
      (d.reservedOk false 1 = false ∨ 4 ≤ d.w 0)) ∧
    (∃ (ring : Fin 64) (d : Desc) (s : State), s.Alone ring.val d ∧ s.startedDesc ring.val 5633 = some d ∧ d.w 0 % 4 = 0 ∧
      d.reservedOk false 1 = true ∧ d.w 0 = 0 ∧ s.rd Reg.PWR_STAT_STATE = 0) ∧
    (∃ (ring : Fin 64) (d : Desc) (s : State), s.Alone ring.val d ∧ s.startedDesc ring.val 5633 = some d ∧ d.w 0 % 4 = 1 ∧
      (d.reservedOk false 1 = false ∨ 4 ≤ d.w 0)) ∧
    (∃ (ring : Fin 64) (d : Desc) (s : State), s.Alone ring.val d ∧ s.startedDesc ring.val 5633 = some d ∧ d.w 0 % 4 = 1 ∧
      d.reservedOk false 1 = true ∧ d.w 0 = 1 ∧ s.rd Reg.PWR_STAT_STATE = 1) ∧
    (∃ (ring : Fin 64) (d : Desc) (s : State), s.Alone ring.val d ∧ s.startedDesc ring.val 5633 = some d ∧ d.w 0 % 4 = 2 ∧
      (d.reservedOk false 1 = false ∨ 4 ≤ d.w 0)) ∧
    (∃ (ring : Fin 64) (d : Desc) (s : State), s.Alone ring.val d ∧ s.startedDesc ring.val 5633 = some d ∧ d.w 0 % 4 = 2 ∧
      d.reservedOk false 1 = true ∧ d.w 0 = 2 ∧ s.rd Reg.PWR_STAT_STATE = 2) ∧
    (∃ (ring : Fin 64) (d : Desc) (s : State), s.Alone ring.val d ∧ s.startedDesc ring.val 5633 = some d ∧ d.w 0 % 4 = 3 ∧
      (d.reservedOk false 1 = false ∨ 4 ≤ d.w 0)) ∧
    (∃ (ring : Fin 64) (d : Desc) (s : State), s.Alone ring.val d ∧ s.startedDesc ring.val 5633 = some d ∧ d.w 0 % 4 = 3 ∧
      d.reservedOk false 1 = true ∧ d.w 0 = 3 ∧ s.rd Reg.PWR_STAT_STATE = 3) ∧
    (∃ (ring : Fin 64) (d : Desc) (s : State), s.Alone ring.val d ∧ s.startedDesc ring.val 5633 = some d ∧ d.w 0 = 1 ∧
      d.reservedOk false 1 = true ∧ s.rd Reg.PWR_STAT_STATE ≠ 1 ∧
      (∃ b, b ∈ s.targetSet 1 ∧ b ≠ 17 ∧ (s.refuses ring.val b).isSome = true)) ∧
    (∃ (ring : Fin 64) (d : Desc) (s : State), s.Alone ring.val d ∧ s.startedDesc ring.val 5633 = some d ∧ d.w 0 = 2 ∧
      d.reservedOk false 1 = true ∧ s.rd Reg.PWR_STAT_STATE ≠ 2 ∧
      (∃ b, b ∈ s.targetSet 2 ∧ b ≠ 17 ∧ (s.refuses ring.val b).isSome = true)) ∧
    (∃ (ring : Fin 64) (d : Desc) (s : State), s.Alone ring.val d ∧ s.startedDesc ring.val 5633 = some d ∧ d.w 0 = 3 ∧
      d.reservedOk false 1 = true ∧ s.rd Reg.PWR_STAT_STATE ≠ 3 ∧
      (∃ b, b ∈ s.targetSet 3 ∧ b ≠ 17 ∧ (s.refuses ring.val b).isSome = true)) ∧
    (∃ (ring : Fin 64) (d : Desc) (s : State), s.Alone ring.val d ∧ s.startedDesc ring.val 5633 = some d ∧ d.w 0 = 1 ∧
      d.reservedOk false 1 = true ∧ s.rd Reg.PWR_STAT_STATE ≠ 1 ∧ (∀ (b : Nat), b ∈ s.targetSet 1 → s.refuses ring.val b = none) ∧
      s.arb.locks = [] ∧ s.arb.bursts = []) ∧
    (∃ (ring : Fin 64) (d : Desc) (s : State), s.Alone ring.val d ∧ s.startedDesc ring.val 5633 = some d ∧ d.w 0 = 2 ∧
      d.reservedOk false 1 = true ∧ s.rd Reg.PWR_STAT_STATE ≠ 2 ∧ (∀ (b : Nat), b ∈ s.targetSet 2 → s.refuses ring.val b = none) ∧
      s.arb.locks = [] ∧ s.arb.bursts = []) ∧
    (∃ (ring : Fin 64) (d : Desc) (s : State), s.Alone ring.val d ∧ s.startedDesc ring.val 5633 = some d ∧ d.w 0 = 3 ∧
      d.reservedOk false 1 = true ∧ s.rd Reg.PWR_STAT_STATE ≠ 3 ∧ (∀ (b : Nat), b ∈ s.targetSet 3 → s.refuses ring.val b = none) ∧
      s.arb.locks = [] ∧ s.arb.bursts = []) ∧
    (∃ (ring : Fin 64) (d : Desc) (s : State), s.Alone ring.val d ∧ s.startedDesc ring.val 5633 = some d ∧ d.w 0 = 0 ∧
      d.reservedOk false 1 = true ∧ s.rd Reg.PWR_STAT_STATE = 1) :=
  ⟨⟨1, d 0 [3], R (d 0 [3]) [], by decide +kernel⟩,
   ⟨1, d 0, R (d 0) [], by decide +kernel⟩,
   ⟨1, d 1 [3], R (d 1 [3]) [], by decide +kernel⟩,
   ⟨1, d 1, idle (rg (d 1) State.reset), by decide +kernel⟩,
   ⟨1, d 2 [7], R (d 2 [7]) [], by decide +kernel⟩,
   ⟨1, d 2, rg (d 2) (mk [(Reg.PWR_STAT_STATE, 2)]), by decide +kernel⟩,
   ⟨1, d 7, R (d 7) [], by decide +kernel⟩,
   ⟨1, d 3, rg (d 3) (mk [(Reg.PWR_STAT_STATE, 3)]), by decide +kernel⟩,
   ⟨1, d 1, R (d 1) [(Reg.PIX_STAT_QUIESCENT, 0), (Reg.PWR_REFUSE_COUNT, 255)], by decide +kernel⟩,
   ⟨1, d 2, R (d 2) [(Reg.MAC_STAT_QUIESCENT 3, 0)], by decide +kernel⟩,
   ⟨1, d 3, R (d 3) [(Reg.MAC_STAT_QUIESCENT 3, 0)], by decide +kernel⟩,
   ⟨1, d 1, R (d 1) [], by decide +kernel⟩,
   ⟨1, d 2, R (d 2) [], by decide +kernel⟩,
   ⟨1, d 3, R (d 3) [], by decide +kernel⟩,
   ⟨1, d 0, idle (rg (d 0) State.reset), by decide +kernel⟩⟩
end J1

namespace J2b
def dm (m : PwrMode) (l : List (Fld × Nat)) (s : State := State.reset) : State := { mk l s with pwr := { s.pwr with mode := m } }
def wk : List (Fld × Nat) := [(Reg.PWR_WAKE_EN_PIN, 1), (Reg.PWR_WAKE_EN_RTC, 1), (Reg.PWR_WAKE_EN_PATTERN, 1), (Reg.MAC_WAKE_WAKE_EN, 0xC), (Reg.MAC_WMASK 2 0, 3), (Reg.MAC_WPAT 2 0, 0x0201), (Reg.MAC_WMASK 3 3, 2^31), (Reg.MAC_WPAT 3 31, 7 * 2^24)]
def jt (i : Nat) (s : State) : State := { s with jtag := { s.jtag with ir := i } }

/-- States and operands that meet the hypotheses of `Obligations.WakesPadsAndBoundaryScan`, the part WakesAndPads, clause by clause. -/
theorem witness_WakesAndPads :
    (∃ (s : State), s.pwr.mode = PwrMode.cocoonPending) ∧
    (∃ (s : State), s.rd Reg.PWR_STAT_STATE ≠ 1 ∧ (s.pwr.mode = PwrMode.dormant ∨ s.pwr.mode = PwrMode.cocoonPending) ∧
      s.flag Reg.PWR_WAKE_EN_PIN = true) ∧
    (∃ (s : State), s.rd Reg.PWR_STAT_STATE ≠ 1 ∧ (s.pwr.mode = PwrMode.dormant ∨ s.pwr.mode = PwrMode.cocoonPending) ∧
      s.flag Reg.PWR_WAKE_EN_RTC = true ∧ s.rd Reg.PWR_RTC = s.rd Reg.PWR_ALARM) ∧
    (∃ (data : Bytes) (k : Nat) (s : State), s.rd Reg.PWR_STAT_STATE ≠ 1 ∧ s.pwr.mode = PwrMode.dormant ∧
      s.flag Reg.PWR_WAKE_EN_PATTERN = true ∧ List.find? (s.wakeMatch data) (List.range 4) = some k) ∧
    (∃ (data : Bytes) (k : Nat) (s : State), s.pwr.mode = PwrMode.dormant ∧ s.flag Reg.PWR_WAKE_EN_PATTERN = false ∧
      List.find? (s.wakeMatch data) (List.range 4) = some k) ∧
    (∃ (s : State), s.rd Reg.PWR_STAT_STATE = 1 ∧ s.flag Reg.PWR_WAKE_EN_PIN = true) ∧
    (∃ (s : State), s.rd Reg.PWR_STAT_STATE = 1 ∧ s.flag Reg.PWR_WAKE_EN_RTC = true ∧ s.rd Reg.PWR_RTC = s.rd Reg.PWR_ALARM) ∧
    (∃ (s : State), s.isOff 22 = false ∧ s.flag Reg.PWR_STAT_PADLATCH = true ∧ s.jtag.ir = 1) ∧
    (∃ (s : State), s.isOff 22 = false ∧ s.flag Reg.PWR_STAT_PADLATCH = false) :=
  ⟨⟨dm .cocoonPending wk, by decide +kernel⟩,
   ⟨dm .cocoonPending wk, by decide +kernel⟩,
   ⟨dm .cocoonPending wk, by decide +kernel⟩,
   ⟨[1,2], 2, dm .dormant wk, by decide +kernel⟩,
   ⟨[1,2], 2, dm .dormant (wk ++ [(Reg.PWR_WAKE_EN_PATTERN, 0), (Reg.PWR_STAT_STATE, 3)]), by decide +kernel⟩,
   ⟨{ mk [(Reg.PWR_STAT_STATE, 1)] (dm .on wk) with off := [0x0A, 0x0B], pwr := { State.reset.pwr with idle := [0x0A, 0x0B] } }, by decide +kernel⟩,
   ⟨{ mk [(Reg.PWR_STAT_STATE, 1)] (dm .on wk) with off := [0x0A, 0x0B], pwr := { State.reset.pwr with idle := [0x0A, 0x0B] } }, by decide +kernel⟩,
   ⟨jt 1 (mk [(Reg.PWR_STAT_PADLATCH, 1), (Reg.DMX_CTRL_ENABLE 3, 1)]), by decide +kernel⟩,
   ⟨State.reset, by decide +kernel⟩⟩
end J2b

namespace A
def rd (v : Int) : BitVec 16 × Bool := (BitVec.ofInt 16 v, false)
def base : State := State.reset
def s1 := base
def s2 : State := mk [(Reg.THM_TRIP_TRIP, 0x100)] { base with thm := { base.thm with updates := 5, hotRun := 7, tripRun := 7, baseline := some 0 }, time := {base.time with elapsed := 100, rho := 5} }
def s3 : State := mk [(Reg.THM_DTH_DTH, 0x4000), (Reg.THM_SENS_STAT_FAULT 0,1), (Reg.THM_SENS_STAT_PASS1S 0,1),(Reg.THM_STAT_FAULTS,1)] { base with pwr := {base.pwr with held := some 7, heldAt := 10}, thm := { base.thm with updates := 2000, hotRun := 7, sensors := [(0, {sensorIdle with failed := some 3})] }}

/-- States and operands that meet the hypotheses of `Obligations.ThermalModels`, the part ThermalUpdates, clause by clause. -/
theorem witness_ThermalUpdates :
    (∃ (sens : List (BitVec 16 × Bool)) (power : List Word) (s : State), s.isOff 23 = false ∧ sens.length = 8 ∧ power.length = 6 ∧
      s.thm.tripRun < 7 ∧ s.flag Reg.THM_CTRL_NODE_EN = false) ∧
    (∃ (sens : List (BitVec 16 × Bool)) (power : List Word) (k : Nat) (v : BitVec 16) (s : State), s.isOff 23 = false ∧ sens.length = 8 ∧
      power.length = 6 ∧ 7 ≤ s.thm.tripRun ∧ s.thm.updates < 1000 ∧ (∀ (r : Nat), r < 8 → (s.sensor r).failed = none) ∧
      (∀ (e : BitVec 16 × Bool), e ∈ sens → readingOut e.fst.toInt e.snd = false) ∧ sens[k]? = some (v, false) ∧
      s.rdInt Reg.THM_TRIP_TRIP ≤ v.toInt) ∧
    (∃ (s : State), s.pwr.held = some 7) ∧
    (∃ (r : Fin 8) (s : State), s.isOff 23 = false ∧ s.flag (Reg.THM_SENS_STAT_PASS1S r.val) = true ∧
      s.flag (Reg.THM_SENS_STAT_FAULT r.val) = true) ∧
    (∃ (r : Fin 8) (s : State), s.isOff 23 = false ∧
      (s.flag (Reg.THM_SENS_STAT_PASS1S r.val) = false ∨ s.flag (Reg.THM_SENS_STAT_FAULT r.val) = false)) :=
  ⟨⟨[rd 30000, rd 200, (0,true), rd 39000, rd (-10241), rd 9, rd 10, rd 38400], [1,2,3,4,5,0xFFFFFFFF], s1, by decide +kernel⟩,
   ⟨[rd 30000, rd 200, rd 0, rd 5, rd 9, rd 10, rd 1, rd 2], [1,2,3,4,5,0xFFFFFFFF], 0, 0x7530, s2, by
     refine ⟨by decide +kernel, by decide +kernel, by decide +kernel, by decide +kernel, by decide +kernel, by decide +kernel, ?_,
       by decide +kernel, by decide +kernel⟩
     intro e he
     simp only [List.mem_cons, List.not_mem_nil, or_false] at he
     rcases he with rfl | rfl | rfl | rfl | rfl | rfl | rfl | rfl <;> decide +kernel⟩,
   ⟨s3, by decide +kernel⟩,
   ⟨0, s3, by decide +kernel⟩,
   ⟨0, s1, by decide +kernel⟩⟩
end A

namespace B
def st (a : Nat) (bs : Bytes) (s : State) : State := s.storeWrite 55 a bs
def cls : List Nat := [0,0,5, 100, 0x7000, 0x20001000, 0x40003000, 0x80000010]
def m1 : State := mk [(Reg.THM_PTAB, 0x1000),(Reg.THM_MTAB,0x2000),(Reg.PIX_STAT_BUSY,1)] State.reset
def m2 : State := st 0x2008 (wordsBytes [1 + 2*256 + 0, 0]) (st 0x1040 (wordsBytes cls) (mk [(Reg.THM_PTAB, 0x1000),(Reg.THM_MTAB,0x2000),(Reg.THM_AMB 0, 0x1900)] State.reset))
def m3 := mk [(Reg.THM_CTRL_NODE_EN,1)] State.reset

theorem m1_models (m : Nat) (_ : m < 4096) : bitOf (m1.word32At (m1.rd Reg.THM_MTAB + 8 * m + 4 * 0)) 0 = false := by
  rw [word32At_unlisted _ _ (fun e he => absurd (show e ∈ ([] : List (Nat × Byte)) from he) (by simp))]; rfl

theorem m2_models (k : Nat) (_ : k < 4096) (hk : k ≠ 1) : bitOf (m2.word32At (m2.rd Reg.THM_MTAB + 8 * k + 4 * 0)) 0 = false := by
  have hr : m2.rd Reg.THM_MTAB = 0x2000 := by decide +kernel
  have hb : ∀ e ∈ m2.store.bytes, e.1 < 0x2000 ∨ 0x2008 ≤ e.1 ∧ e.1 < 0x2010 := by decide +kernel
  rw [hr, word32At_unlisted _ _ (fun e he => by have := hb e he; omega)]; rfl

/-- States and operands that meet the hypotheses of `Obligations.ThermalModels`, the part NodeModelsEnable, clause by clause. -/
theorem witness_NodeModelsEnable :
    (∃ (s : State), s.isOff 23 = false ∧ s.flag Reg.THM_CTRL_NODE_EN = false ∧ s.StoreSound ∧
      (∀ (m : Nat), m < 4096 → bitOf (s.word32At (s.rd Reg.THM_MTAB + 8 * m + 4 * 0)) 0 = false)) ∧
    (∃ (s : State) (m : Nat), s.isOff 23 = false ∧ s.flag Reg.THM_CTRL_NODE_EN = false ∧ s.StoreSound ∧ m < 4096 ∧
      bitOf (s.word32At (s.rd Reg.THM_MTAB + 8 * m + 4 * 0)) 0 = true ∧
      (∀ (k : Nat), k < 4096 → k ≠ m → bitOf (s.word32At (s.rd Reg.THM_MTAB + 8 * k + 4 * 0)) 0 = false) ∧
      ((thmClassOf fun k => s.word32At (s.rd Reg.THM_PTAB + 32 * modelClass (s.word32At (s.rd Reg.THM_MTAB + 8 * m + 4 * 0)) + 4 * k)).valid = true) ∧
      ((thmClassBad fun k => s.word32At (s.rd Reg.THM_PTAB + 32 * modelClass (s.word32At (s.rd Reg.THM_MTAB + 8 * m + 4 * 0)) + 4 * k)) = false)) ∧
    (∃ (s : State), s.isOff 23 = false ∧ s.flag Reg.THM_CTRL_NODE_EN = true) :=
  ⟨⟨m1, by decide +kernel, by decide +kernel, by decide +kernel, m1_models⟩,
   ⟨m2, 1, by decide +kernel, by decide +kernel, by decide +kernel, by decide +kernel, by decide +kernel, m2_models, by decide +kernel, by decide +kernel⟩,
   ⟨m3, by decide +kernel⟩⟩
end B

namespace C
def d (w : Nat) (ph : DescPhase := .started) : Desc := desc 0x0803 5 [w] 0 0 77 ph
def c1 := withD 3 8 0 (d 1)
def c2 := withD 3 8 0 (d (2 + 0x0F * 256))
def c3 := withD 3 8 0 (d 3)
def c4 := mk [(Reg.ANT_STAT_STATE, 2),(Reg.CAL_SC_CTRL_AUTO_OSC,1)] c3
def c5 := withD 3 8 0 (d 4)
def c7 := {State.reset with pwr := {State.reset.pwr with lostClocks := [6]}, off := [0x17]}
def run (k : Nat) (tb := 0x0F) (ring := 3) : CalRunSt := { ring := ring, index := 5, kind := k, gradual := false, tblock := tb, tinst := 1, start := 0, startNow := 0, trained := true, setting := 9 }
def rs (r : CalRunSt) : State := let s := withD 3 8 0 (d r.kind .working); {s with selfCal := {s.selfCal with run := some r}}
def tr (x : EmiFrameSt) (r : CalRunSt) : State := let s := rs r; { s with emi := { s.emi with frames := [x] } }
def xt : EmiFrameSt := { frame := { number := 5, deadline := 1000, apex := 20000, pos := 3, phase := .swapped, safe := false, table := 0x8000, count := 2, ftab := 0, ftStat := [], bands := [] }, f := 9, first := 700, base := 20000, rep := true, stale := false, suppressed := false, launched := true, packets := [], streams := [], used := 0, late := 0, raised := [], emitted := [], sums := [], clamps := 0, clampFirst := 0, clampEpts := [], univs := [], sent := [], wings := [{ port := 1, lmax := 3, holds := [], data := true, rep := true, stale := false, latched := false, training := true, owed := [] }], closed := false, skew := 0 }
def runY : CalRunSt := { run 2 with result := some (some (5, 3)) }
def runN : CalRunSt := { run 2 with result := some none }

/-- States and operands that meet the hypotheses of `Obligations.SelfCalibration`, clause by clause. -/
theorem witness_SelfCalibration :
    (∃ (s : State), s.pwr.lostClocks.contains 6 = true) ∧
    (∃ (s : State), s.pwr.lostClocks.contains 6 = false) ∧
    (∃ (ring : Fin 64) (d : Desc) (s : State), s.isOff 8 = false ∧ s.Alone ring.val d ∧ s.startedDesc ring.val 2051 = some d ∧
      s.selfCal.waiting = [] ∧ calParamsOk d = true ∧ bitsOf (d.w 0) 0 4 = 1 ∧ s.selfCal.run.isSome = true) ∧
    (∃ (ring : Fin 64) (d : Desc) (s : State), s.isOff 8 = false ∧ s.Alone ring.val d ∧ s.startedDesc ring.val 2051 = some d ∧
      s.selfCal.waiting = [] ∧ calParamsOk d = true ∧ bitsOf (d.w 0) 0 4 = 1 ∧ s.selfCal.run = none ∧
      s.calReady 1 (bitsOf (d.w 0) 8 8) (bitsOf (d.w 0) 16 8) = true) ∧
    (∃ (ring : Fin 64) (d : Desc) (s : State), s.isOff 8 = false ∧ s.Alone ring.val d ∧ s.startedDesc ring.val 2051 = some d ∧
      s.selfCal.waiting = [] ∧ calParamsOk d = true ∧ bitsOf (d.w 0) 0 4 = 2 ∧ s.selfCal.run.isSome = true) ∧
    (∃ (ring : Fin 64) (d : Desc) (s : State), s.isOff 8 = false ∧ s.Alone ring.val d ∧ s.startedDesc ring.val 2051 = some d ∧
      s.selfCal.waiting = [] ∧ calParamsOk d = true ∧ bitsOf (d.w 0) 0 4 = 2 ∧ s.selfCal.run = none ∧
      s.calReady 2 (bitsOf (d.w 0) 8 8) (bitsOf (d.w 0) 16 8) = true) ∧
    (∃ (ring : Fin 64) (d : Desc) (s : State), s.isOff 8 = false ∧ s.Alone ring.val d ∧ s.startedDesc ring.val 2051 = some d ∧
      s.selfCal.waiting = [] ∧ calParamsOk d = false) ∧
    (∃ (ring : Fin 64) (d : Desc) (s : State), s.isOff 8 = false ∧ s.Alone ring.val d ∧ s.startedDesc ring.val 2051 = some d ∧
      s.selfCal.waiting = [] ∧ calParamsOk d = true ∧ bitsOf (d.w 0) 0 4 = 3 ∧ s.selfCal.run.isSome = true) ∧
    (∃ (ring : Fin 64) (d : Desc) (s : State), s.isOff 8 = false ∧ s.Alone ring.val d ∧ s.startedDesc ring.val 2051 = some d ∧
      s.selfCal.waiting = [] ∧ calParamsOk d = true ∧ bitsOf (d.w 0) 0 4 = 3 ∧ s.selfCal.run = none ∧
      s.calReady 3 (bitsOf (d.w 0) 8 8) (bitsOf (d.w 0) 16 8) = true) ∧
    (∃ (ring : Fin 64) (d : Desc) (s : State), s.isOff 8 = false ∧ s.Alone ring.val d ∧ s.startedDesc ring.val 2051 = some d ∧
      s.selfCal.waiting = [] ∧ calParamsOk d = true ∧ bitsOf (d.w 0) 0 4 = 2 ∧ s.selfCal.run = none ∧
      s.calReady 2 (bitsOf (d.w 0) 8 8) (bitsOf (d.w 0) 16 8) = false) ∧
    (∃ (ring : Fin 64) (d : Desc) (s : State), s.isOff 8 = false ∧ s.Alone ring.val d ∧ s.startedDesc ring.val 2051 = some d ∧
      s.selfCal.waiting = [] ∧ calParamsOk d = true ∧ bitsOf (d.w 0) 0 4 = 3 ∧ s.selfCal.run = none ∧
      s.calReady 3 (bitsOf (d.w 0) 8 8) (bitsOf (d.w 0) 16 8) = false) ∧
    (∃ (s : State), s.isOff 8 = false ∧ s.flag Reg.CAL_SC_CTRL_AUTO_OSC = true ∧ s.rd Reg.ANT_STAT_STATE = 2 ∧ s.selfCal.run = none ∧
      s.selfCal.waiting = []) ∧
    (∃ (ds : List Int) (r : CalRunSt) (d : Desc) (s : State), s.Calibrates r d ∧ r.kind = 1 ∧ s.selfCal.deltas = [] ∧ ds ≠ [] ∧
      50 < largestDelta ds) ∧
    (∃ (ds : List Int) (r : CalRunSt) (d : Desc) (s : State), s.Calibrates r d ∧ r.kind = 1 ∧ s.selfCal.deltas = [] ∧ ds ≠ [] ∧
      largestDelta ds ≤ 50 ∧ r.gradual = false ∧ s.flag Reg.OTU_STAT_RUNNING = false ∧ s.selfCal.applied = []) ∧
    (∃ (ds : List Int) (r : CalRunSt) (d : Desc) (s : State), s.Calibrates r d ∧ r.kind = 1 ∧ s.selfCal.deltas = [] ∧ ds ≠ [] ∧
      largestDelta ds ≤ 50 ∧ (r.gradual = true ∨ s.flag Reg.OTU_STAT_RUNNING = true)) ∧
    (∃ (r : CalRunSt) (d : Desc) (s : State), s.Calibrates r d ∧ r.kind = 2 ∧ r.tblock ≠ 15) ∧
    (∃ (r : CalRunSt) (d : Desc) (s : State) (x : EmiFrameSt), s.Calibrates r d ∧ r.kind = 2 ∧ r.tblock = 15 ∧ r.trained = true ∧
      r.result = none ∧ x.launched = true ∧
      (List.find? (fun x => x.wings.any fun w => w.port == r.tinst && w.training && !w.latched) s.emi.frames = some x)) ∧
    (∃ (r : CalRunSt) (d : Desc) (s : State) (k n : Nat), s.Calibrates r d ∧ r.kind = 2 ∧ r.tblock = 15 ∧ r.trained = true ∧
      s.emi.frames = [] ∧ r.result = some (some (k, n))) ∧
    (∃ (r : CalRunSt) (d : Desc) (s : State), s.Calibrates r d ∧ r.kind = 2 ∧ r.tblock = 15 ∧ r.trained = true ∧ s.emi.frames = [] ∧
      r.result = some none) ∧
    (∃ (r : CalRunSt) (d : Desc) (s : State), s.Calibrates r d ∧ r.kind = 3) ∧
    (∃ (e : Int) (r : CalRunSt) (s : State), s.selfCal.run = some r ∧ r.ring = 64 ∧ r.kind = 3 ∧ e.natAbs ≤ 30720) :=
  ⟨⟨c7, by decide +kernel⟩,
   ⟨c1, by decide +kernel⟩,
   ⟨3, d 1, { c1 with selfCal := {c1.selfCal with run := some (run 3 0 64)}}, by decide +kernel⟩,
   ⟨3, d 1, c1, by decide +kernel⟩,
   ⟨3, d (2+0x0F*256), { c2 with selfCal := {c2.selfCal with run := some (run 3 0 64)}}, by decide +kernel⟩,
   ⟨3, d (2+0x0F*256), mk [(Reg.WNG_CTRL_ENABLE 0, 1)] c2, by decide +kernel⟩,
   ⟨3, d 4, c5, by decide +kernel⟩,
   ⟨3, d 3, { c3 with selfCal := {c3.selfCal with run := some (run 3 0 64)}}, by decide +kernel⟩,
   ⟨3, d 3, c4, by decide +kernel⟩,
   ⟨3, d (2+0x0F*256), c2, by decide +kernel⟩,
   ⟨3, d 3, c3, by decide +kernel⟩,
   ⟨c4, by decide +kernel⟩,
   ⟨[51], run 1, d 1 .working, rs (run 1), by decide +kernel⟩,
   ⟨[50, -3], run 1, d 1 .working, rs (run 1), by decide +kernel⟩,
   ⟨[50, -3], run 1, d 1 .working, mk [(Reg.OTU_STAT_RUNNING,1)] (rs (run 1)), by decide +kernel⟩,
   ⟨run 2 0x10, d 2 .working, rs (run 2 0x10), by decide +kernel⟩,
   ⟨run 2, d 2 .working, tr xt (run 2), xt, by decide +kernel⟩,
   ⟨runY, d 2 .working, rs runY, 5, 3, by decide +kernel⟩,
   ⟨runN, d 2 .working, rs runN, by decide +kernel⟩,
   ⟨run 3, d 3 .working, rs (run 3), by decide +kernel⟩,
   ⟨0, run 3 0 64, rs (run 3 0 64), by decide +kernel⟩⟩
end C

namespace L1
def req (op : Nat) (svc : Bool) (ps : Bytes) (cap : Nat := 1024) : ChyReq := { svc := svc, src := 5, op := op, tag := 9, blk := 0x3000, params := ps, rpOfs := 1024, rpCap := cap }
def cur (r : ChyReq) (s : State := State.reset) : State := { s with chy := { s.chy with current := some r } }
def rdy : State := mk [(Reg.QUE_STAT_READY 30, 1)]
def word : Nat := 2^62 + 3*2^58 + 1*2^48 + 7*2^40 + 0x3000
def q1 : State := ({ rdy with queues := [(30, [word, 2^62 + 4])] } : State).storeWrite 55 0x3000 (leBytes 4 8 ++ leBytes 4 64 ++ leBytes 4 256 ++ leBytes 4 0 ++ leBytes 8 55)
def q2 : State := { rdy with queues := [(30, [2^62 + 4, 3])] }
def v1 : State := { State.reset with chy := { State.reset.chy with svc := [(0, req 1 true []), (1, req 2 true [])] } }
def v2 : State := { State.reset with chy := { State.reset.chy with svc := [(0, req 0x77 true []), (1, req 2 true [])] } }

/-- States and operands that meet the hypotheses of `Obligations.ChrysalisRequests`, clause by clause. -/
theorem witness_ChrysalisRequests :
    (∃ (r : ChyReq) (rest : List (Nat × ChyReq)) (s : State), s.chyUp = true ∧ s.chy.current = none ∧ s.chy.svc = (0, r) :: rest ∧
      s.opPermitted r = true) ∧
    (∃ (r : ChyReq) (rest : List (Nat × ChyReq)) (s : State), s.chyUp = true ∧ s.chy.current = none ∧ s.chy.svc = (0, r) :: rest ∧
      s.opPermitted r = false ∧ s.StoreSound ∧ s.NoWake) ∧
    (∃ (w : Nat) (rest : List Nat) (r : ChyReq) (s : State), s.chyUp = true ∧ s.chy.current = none ∧ s.chy.svc = [] ∧
      s.queue 30 = w :: rest ∧ s.flag (Reg.QUE_STAT_READY 30) = true ∧ bitOf w 62 = true ∧
      r = { svc := false, src := bitsOf w 58 4, op := bitsOf w 48 8, tag := bitsOf w 40 8, blk := bitsOf w 0 29, params := s.bytesAt (bitsOf w 0 29 + 16) (s.word32At (bitsOf w 0 29)), rpOfs := s.word32At (bitsOf w 0 29 + 4), rpCap := s.word32At (bitsOf w 0 29 + 8) } ∧
      r.blk % 256 = 0 ∧ s.word32At r.blk ≤ 4080 ∧ r.rpOfs % 8 = 0 ∧ 16 + s.word32At r.blk ≤ r.rpOfs ∧ r.rpOfs + r.rpCap ≤ 4096 ∧
      r.blk + r.rpOfs + r.rpCap ≤ 528482304 ∧ s.StoreSound ∧ s.opPermitted r = true) ∧
    (∃ (w : Nat) (rest : List Nat) (r : ChyReq) (s : State), s.chyUp = true ∧ s.chy.current = none ∧ s.chy.svc = [] ∧
      s.queue 30 = w :: rest ∧ s.flag (Reg.QUE_STAT_READY 30) = true ∧ bitOf w 62 = true ∧
      r = { svc := false, src := bitsOf w 58 4, op := bitsOf w 48 8, tag := bitsOf w 40 8, blk := bitsOf w 0 29, params := s.bytesAt (bitsOf w 0 29 + 16) (s.word32At (bitsOf w 0 29)), rpOfs := s.word32At (bitsOf w 0 29 + 4), rpCap := s.word32At (bitsOf w 0 29 + 8) } ∧
      (r.blk % 256 ≠ 0 ∨ 528482304 < r.blk + 16) ∧ s.NoWake) ∧
    (∃ (r : ChyReq) (s : State), s.Executes 1 r ∧ r.rpCap < 64) :=
  ⟨⟨req 1 true [], [(1, req 2 true [])], v1, by decide +kernel⟩,
   ⟨req 0x77 true [], [(1, req 2 true [])], v2, by decide +kernel⟩,
   ⟨word, [2^62+4], { svc := false, src := 3, op := 1, tag := 7, blk := 0x3000, params := leBytes 8 55, rpOfs := 64, rpCap := 256 }, q1, by decide +kernel⟩,
   ⟨2^62 + 4, [3], { svc := false, src := 0, op := 0, tag := 0, blk := 4, params := [], rpOfs := 0, rpCap := 0 }, q2, by decide +kernel⟩,
   ⟨req 1 true [] 63, cur (req 1 true [] 63), by decide +kernel⟩⟩
end L1

namespace L2
def cur := @L1.cur
def req := @L1.req
def e (n : Nat) : LogEntry := { seq := n, rtc := 4, time := 5, code := 6, cls := 7, data := [1,2,3,4,5,6,7,8,9,10,11,12] }
def lg : State := { State.reset with chy := { State.reset.chy with log := [e 3, e 4, e 5], unflushed := 2, flash := [e 1, e 2, e 3], hostTimes := List.replicate 16 0, settings := [(5, [1,2])] } }
def old : State := { lg with time := { lg.time with elapsed := 1000000000 } }
/-- The length of the certificate chain, which nothing constrains. -/
def chainLength : Nat :=
  (Config.identityChain (leNat lg.instarDigest) lg.life (lg.flag Reg.CHY_STAT_SEALED) (lg.rd Reg.CHY_STAT_DEBUG) lg.pwr.starts).length

/-- States and operands that meet the hypotheses of `Obligations.ChrysalisTells`, clause by clause. -/
theorem witness_ChrysalisTells :
    (∃ (r : ChyReq) (s : State), s.Executes 1 r ∧ 64 ≤ r.rpCap) ∧
    (∃ (r : ChyReq) (e : LogEntry) (es : List LogEntry) (s : State), s.Executes 2 r ∧ List.length r.params = 8 ∧ 1 ≤ r.word 1 ∧
      r.word 1 ≤ 64 ∧ (e :: es = List.take (r.word 1) (List.filter (fun e => decide (r.word 0 ≤ e.seq)) s.heldLog)) ∧
      (List.flatMap LogEntry.bytes (e :: es)).length + 8 ≤ r.rpCap) ∧
    (∃ (r : ChyReq) (s : State),
      let recent : List Nat := List.filter (fun u => decide (s.time.elapsed < u + 1000000000)) s.chy.hostTimes
      s.Executes 3 r ∧ List.length r.params = 12 ∧ recent.length < 16) ∧
    (∃ (r : ChyReq) (s : State),
      let recent : List Nat := List.filter (fun u => decide (s.time.elapsed < u + 1000000000)) s.chy.hostTimes
      s.Executes 3 r ∧ List.length r.params = 12 ∧ 16 ≤ recent.length) ∧
    (∃ (s : State), s.chyUp = true ∧ s.chy.flash.length + s.chy.unflushed ≤ 2048 ∧ s.chy.unflushed ≤ s.chy.log.length) ∧
    (∃ (r : ChyReq) (s : State),
      let chain : List (BitVec 8) := Config.identityChain (leNat s.instarDigest) s.life (s.flag Reg.CHY_STAT_SEALED) (s.rd Reg.CHY_STAT_DEBUG) s.pwr.starts
      s.Executes 8 r ∧ chain.length ≤ r.rpCap) ∧
    (∃ (r : ChyReq) (s : State), s.Executes 9 r ∧ List.length r.params = 32 ∧ 352 ≤ r.rpCap) ∧
    (∃ (r : ChyReq) (s : State), s.Executes 10 r ∧ 32 ≤ r.rpCap) ∧
    (∃ (r : ChyReq) (s : State) (v : Bytes), s.Executes 40 r ∧ s.setting (r.word 0) = some v ∧ List.length r.params = 4 ∧
      List.length v ≤ r.rpCap) ∧
    (∃ (r : ChyReq) (s : State), s.Executes 40 r ∧ s.setting (r.word 0) = none) :=
  ⟨⟨req 1 true [] 64, cur (req 1 true [] 64) lg, by decide +kernel⟩,
   ⟨req 2 true (leBytes 4 2 ++ leBytes 4 64) 4000, e 2, [e 3, e 4, e 5], cur (req 2 true (leBytes 4 2 ++ leBytes 4 64) 4000) lg, by decide +kernel⟩,
   ⟨req 3 true (List.replicate 12 7) 0, cur (req 3 true (List.replicate 12 7) 0) old, by decide +kernel⟩,
   ⟨req 3 true (List.replicate 12 7) 0, cur (req 3 true (List.replicate 12 7) 0) lg, by decide +kernel⟩,
   ⟨cur (req 1 true [] 64) lg, by decide +kernel⟩,
   ⟨req 8 true [] chainLength, cur (req 8 true [] chainLength) lg, ⟨by decide +kernel, rfl, rfl, by decide +kernel⟩, Nat.le_refl _⟩,
   ⟨req 9 true (List.replicate 32 3) 352, cur (req 9 true (List.replicate 32 3) 352) lg, by decide +kernel⟩,
   ⟨req 10 true [] 32, cur (req 10 true [] 32) lg, by decide +kernel⟩,
   ⟨req 0x28 true (leBytes 4 5) 2, cur (req 0x28 true (leBytes 4 5) 2) lg, [1,2], by decide +kernel⟩,
   ⟨req 0x28 false (leBytes 4 6) 2, cur (req 0x28 false (leBytes 4 6) 2) lg, by decide +kernel⟩⟩
end L2

namespace L3
def req (op : Nat) (svc : Bool) (ps : Bytes) (cap : Nat := 1024) : ChyReq := { svc := svc, src := 5, op := op, tag := 9, blk := 0x3000, params := ps, rpOfs := 1024, rpCap := cap }
def cur (r : ChyReq) (s : State := State.reset) : State := { s with chy := { s.chy with current := some r } }
def man (slot : Nat) (bad : Bool) : Bytes := leBytes 4 0x5748534F ++ leBytes 2 1 ++ leBytes 2 1 ++ leBytes 1 slot ++ List.replicate 7 0 ++ (if bad then List.replicate 48 1 else [152,57,128,55,50,19,72,45,213,201,165,164,36,219,137,65,142,51,68,196,89,250,49,163,86,228,46,170,40,84,76,160,27,152,57,246,89,60,158,93,121,253,67,155,93,166,235,239]) ++ leBytes 4 0x8000 ++ leBytes 4 256
def ms (slot : Nat) (bad : Bool) (s : State := State.reset) : State := s.storeWrite 55 0x4000 (man slot bad)
def rq := req 0x10 true (leBytes 4 0x4000) 48
def rq' := req 0x10 false (leBytes 4 0x4000) 48
def k1 : KeyBlob := { slot := 0, serialOk := true, plain := true, unwrapOk := false, signature := none, key := List.replicate 32 9 }
def keyed : State := { State.reset with chy := { State.reset.chy with rooActive := some [1], rooPending := some [2], rooOld := some ([3], 50), caks := [(0, [1]), (7, [2])] } }

/-- States and operands that meet the hypotheses of `Obligations.ShowsAndKeys`, clause by clause. -/
theorem witness_ShowsAndKeys :
    (∃ (r : ChyReq) (s : State), s.Executes 16 r ∧ List.length r.params = 4 ∧ r.word 0 % 256 = 0 ∧
      ((r.word 0 + 64 + 8 * leNat (s.bytesAt (r.word 0 + 6) 2) + if BitVec.toNat (s.byteAt (r.word 0 + 8)) = 255 then 0 else 96) ≤ 528482304) ∧
      s.word32At (r.word 0) = 1464357711 ∧ leNat (s.bytesAt (r.word 0 + 4) 2) = 1 ∧ 1 ≤ leNat (s.bytesAt (r.word 0 + 6) 2) ∧
      leNat (s.bytesAt (r.word 0 + 6) 2) ≤ 16 ∧ s.bytesAt (r.word 0 + 9) 7 = List.replicate 7 0 ∧
      regionsOk (manifestRegions (s.bytesAt (r.word 0) (64 + 8 * leNat (s.bytesAt (r.word 0 + 6) 2))) (leNat (s.bytesAt (r.word 0 + 6) 2))) = true ∧
      s.life = 2) ∧
    (∃ (sig : Bool) (r : ChyReq) (s : State), s.Executes 16 r ∧ List.length r.params = 4 ∧ r.word 0 % 256 = 0 ∧
      ((r.word 0 + 64 + 8 * leNat (s.bytesAt (r.word 0 + 6) 2) + if BitVec.toNat (s.byteAt (r.word 0 + 8)) = 255 then 0 else 96) ≤ 528482304) ∧
      s.word32At (r.word 0) = 1464357711 ∧ leNat (s.bytesAt (r.word 0 + 4) 2) = 1 ∧ 1 ≤ leNat (s.bytesAt (r.word 0 + 6) 2) ∧
      leNat (s.bytesAt (r.word 0 + 6) 2) ≤ 16 ∧ s.bytesAt (r.word 0 + 9) 7 = List.replicate 7 0 ∧
      regionsOk (manifestRegions (s.bytesAt (r.word 0) (64 + 8 * leNat (s.bytesAt (r.word 0 + 6) 2))) (leNat (s.bytesAt (r.word 0 + 6) 2))) = true ∧
      s.life ≠ 2 ∧ s.manifestCause (BitVec.toNat (s.byteAt (r.word 0 + 8))) sig ≠ 0 ∧ 4 ≤ r.rpCap) ∧
    (∃ (sig : Bool) (r : ChyReq) (s : State),
      let data : Bytes := List.flatMap (fun q => s.bytesAt q.fst q.snd) (manifestRegions (s.bytesAt (r.word 0) (64 + 8 * leNat (s.bytesAt (r.word 0 + 6) 2))) (leNat (s.bytesAt (r.word 0 + 6) 2)))
      s.Executes 16 r ∧ List.length r.params = 4 ∧ r.word 0 % 256 = 0 ∧
      ((r.word 0 + 64 + 8 * leNat (s.bytesAt (r.word 0 + 6) 2) + if BitVec.toNat (s.byteAt (r.word 0 + 8)) = 255 then 0 else 96) ≤ 528482304) ∧
      s.word32At (r.word 0) = 1464357711 ∧ leNat (s.bytesAt (r.word 0 + 4) 2) = 1 ∧ 1 ≤ leNat (s.bytesAt (r.word 0 + 6) 2) ∧
      leNat (s.bytesAt (r.word 0 + 6) 2) ≤ 16 ∧ s.bytesAt (r.word 0 + 9) 7 = List.replicate 7 0 ∧
      regionsOk (manifestRegions (s.bytesAt (r.word 0) (64 + 8 * leNat (s.bytesAt (r.word 0 + 6) 2))) (leNat (s.bytesAt (r.word 0 + 6) 2))) = true ∧
      s.life ≠ 2 ∧ s.manifestCause (BitVec.toNat (s.byteAt (r.word 0 + 8))) sig = 0 ∧ sha384 data ≠ s.bytesAt (r.word 0 + 16) 48 ∧
      4 ≤ r.rpCap) ∧
    (∃ (sig : Bool) (r : ChyReq) (s : State),
      let data : Bytes := List.flatMap (fun q => s.bytesAt q.fst q.snd) (manifestRegions (s.bytesAt (r.word 0) (64 + 8 * leNat (s.bytesAt (r.word 0 + 6) 2))) (leNat (s.bytesAt (r.word 0 + 6) 2)))
      let show_ : Bytes := sha384 (s.bytesAt (r.word 0) (64 + 8 * leNat (s.bytesAt (r.word 0 + 6) 2)))
      s.Executes 16 r ∧ List.length r.params = 4 ∧ r.word 0 % 256 = 0 ∧
      ((r.word 0 + 64 + 8 * leNat (s.bytesAt (r.word 0 + 6) 2) + if BitVec.toNat (s.byteAt (r.word 0 + 8)) = 255 then 0 else 96) ≤ 528482304) ∧
      s.word32At (r.word 0) = 1464357711 ∧ leNat (s.bytesAt (r.word 0 + 4) 2) = 1 ∧ 1 ≤ leNat (s.bytesAt (r.word 0 + 6) 2) ∧
      leNat (s.bytesAt (r.word 0 + 6) 2) ≤ 16 ∧ s.bytesAt (r.word 0 + 9) 7 = List.replicate 7 0 ∧
      regionsOk (manifestRegions (s.bytesAt (r.word 0) (64 + 8 * leNat (s.bytesAt (r.word 0 + 6) 2))) (leNat (s.bytesAt (r.word 0 + 6) 2))) = true ∧
      s.life ≠ 2 ∧ s.manifestCause (BitVec.toNat (s.byteAt (r.word 0 + 8))) sig = 0 ∧ sha384 data = s.bytesAt (r.word 0 + 16) 48 ∧
      List.length show_ ≤ r.rpCap) ∧
    (∃ (blob : KeyBlob) (r : ChyReq) (s : State), s.Executes 24 r ∧ 4 ≤ r.rpCap ∧ s.blobCause blob = 0 ∧ blob.key ≠ []) ∧
    (∃ (blob : KeyBlob) (r : ChyReq) (s : State), s.Executes 24 r ∧ 4 ≤ r.rpCap ∧ s.blobCause blob ≠ 0 ∧ s.blobCause blob ≠ 9) ∧
    (∃ (r : ChyReq) (s : State), s.Executes 25 r ∧ List.length r.params = 4 ∧ r.word 0 ≤ 8 ∧ s.heldSlots.contains (r.word 0) = true) ∧
    (∃ (r : ChyReq) (s : State), s.Executes 25 r ∧ List.length r.params = 4 ∧ r.word 0 ≤ 8 ∧ s.heldSlots.contains (r.word 0) = false) ∧
    (∃ (r : ChyReq) (s : State), s.Executes 25 r ∧ List.length r.params = 4 ∧ 8 < r.word 0) ∧
    (∃ (r : ChyReq) (k : Bytes) (s : State), s.Executes 26 r ∧ s.chy.rooPending = some k) ∧
    (∃ (old : Bytes) (τ : Nat) (s : State), s.chy.rooOld = some (old, τ)) :=
  ⟨⟨rq, cur rq (ms 255 false (mk [(Reg.CHY_STAT_LIFE,2)])), by decide +kernel⟩,
   ⟨false, rq, cur rq (ms 255 false (mk [(Reg.CHY_STAT_SEALED,1),(Reg.CHY_STAT_LIFE,1)])), by decide +kernel⟩,
   ⟨false, rq, cur rq (ms 255 true), by decide +kernel⟩,
   ⟨false, rq, cur rq (ms 255 false), by decide +kernel⟩,
   ⟨k1, req 0x18 true [] 4, cur (req 0x18 true [] 4) State.reset, by decide +kernel⟩,
   ⟨k1, req 0x18 true [] 4, cur (req 0x18 true [] 4) (mk [(Reg.CHY_STAT_LIFE, 1)]), by decide +kernel⟩,
   ⟨req 0x19 true (leBytes 4 0) 4, cur (req 0x19 true (leBytes 4 0) 4) keyed, by decide +kernel⟩,
   ⟨req 0x19 true (leBytes 4 0) 4, cur (req 0x19 true (leBytes 4 0) 4) State.reset, by decide +kernel⟩,
   ⟨req 0x19 true (leBytes 4 9) 4, cur (req 0x19 true (leBytes 4 9) 4) State.reset, by decide +kernel⟩,
   ⟨req 0x1A true [] 4, [2], cur (req 0x1A true [] 4) keyed, by decide +kernel⟩,
   ⟨[3], 50, cur (req 0x18 true [] 4) keyed, by decide +kernel⟩⟩
end L3

namespace L4
def req (op : Nat) (svc : Bool) (ps : Bytes) (cap : Nat := 1024) : ChyReq := { svc := svc, src := 5, op := op, tag := 9, blk := 0x3000, params := ps, rpOfs := 1024, rpCap := cap }
def cur (r : ChyReq) (s : State := State.reset) : State := { s with chy := { s.chy with current := some r } }
def tok (v : Bool) (slot : Fin 4) (l : Nat := 0) : Token := { vendor := v, slot := slot, serialOk := true, challenge := [5], sigOk := true, length := l }
def owned : State := { mk [(Reg.CHY_STAT_LIFE,1),(Reg.CHY_TAMPER_ACT, 2)] with chy := { State.reset.chy with owners := [(1, ([], false)),(2, ([7],false))], challenge := some ([5], 0), rooActive := some [1], caks := [(3,[4])], settings := [(4, [9]), (0x80000001, [1])] } }
def openS : State := { owned with regs := State.reset.regs }

/-- States and operands that meet the hypotheses of `Obligations.SettingsLifeAndDebug`, clause by clause. -/
theorem witness_SettingsLifeAndDebug :
    (∃ (tok : Option Token) (r : ChyReq) (s : State), s.Executes 41 r ∧ 4 ≤ List.length r.params ∧
      (List.length r.params - 4 - (Option.map (fun x => x.length) tok).getD 0 ≤ 1024) ∧
      (r.word 0 < 2147483648 ∨ s.life ≠ 1 ∨ s.tokenCause false tok = 0) ∧
      (List.take (List.length r.params - 4 - (Option.map (fun x => x.length) tok).getD 0) (List.drop 4 r.params) ≠ [])) ∧
    (∃ (tok : Option Token) (r : ChyReq) (s : State), s.Executes 41 r ∧ 4 ≤ List.length r.params ∧
      (List.length r.params - 4 - (Option.map (fun x => x.length) tok).getD 0 ≤ 1024) ∧ 2147483648 ≤ r.word 0 ∧ s.life = 1 ∧
      s.tokenCause false tok ≠ 0 ∧ 4 ≤ r.rpCap) ∧
    (∃ (r : ChyReq) (s : State), s.Executes 48 r ∧ s.life = 0 ∧ List.length r.params = 48) ∧
    (∃ (tok : Option Token) (slot : Fin 4) (hash : Bytes) (r : ChyReq) (s : State), s.Executes 48 r ∧ s.life = 1 ∧
      s.tokenCause false tok = 0 ∧ slot ≠ 0 ∧ s.ownerCause slot.val = 1 ∧ List.length hash = 48) ∧
    (∃ (tok : Option Token) (slot : Fin 4) (r : ChyReq) (s : State), s.Executes 48 r ∧ s.life = 1 ∧ s.tokenCause false tok = 0 ∧ slot ≠ 0 ∧
      s.ownerCause slot.val ≠ 1 ∧ (List.map (fun x => x.fst) (List.filter (fun e => !e.snd.snd) s.chy.owners) ≠ [slot.val])) ∧
    (∃ (tok : Option Token) (r : ChyReq) (s : State), s.life = 1 ∧ s.tokenCause false tok = 0 ∧ s.Executes 49 r) ∧
    (∃ (tok : Option Token) (r : ChyReq) (s : State), s.life = 1 ∧ s.tokenCause false tok = 0 ∧ s.Executes 50 r) ∧
    (∃ (tok : Option Token) (r : ChyReq) (s : State), 4 ≤ r.rpCap ∧ s.life = 1 ∧ s.tokenCause false tok ≠ 0 ∧ s.Executes 48 r) ∧
    (∃ (tok : Option Token) (r : ChyReq) (s : State), 4 ≤ r.rpCap ∧ s.life = 1 ∧ s.tokenCause false tok ≠ 0 ∧ s.Executes 49 r) ∧
    (∃ (tok : Option Token) (r : ChyReq) (s : State), 4 ≤ r.rpCap ∧ s.life = 1 ∧ s.tokenCause false tok ≠ 0 ∧ s.Executes 50 r) ∧
    (∃ (owner vendor : Option Token) (r : ChyReq) (s : State), s.Executes 56 r ∧ (r.word 0 = 1 ∨ r.word 0 = 2) ∧
      s.debugCause (r.word 0) owner vendor = 0) ∧
    (∃ (owner vendor : Option Token) (r : ChyReq) (s : State), s.Executes 56 r ∧ (r.word 0 = 1 ∨ r.word 0 = 2) ∧
      s.debugCause (r.word 0) owner vendor ≠ 0 ∧ 4 ≤ r.rpCap) ∧
    (∃ (r : ChyReq) (s : State), s.Executes 57 r) :=
  ⟨⟨none, req 0x29 true (leBytes 4 5 ++ [1,2]), cur (req 0x29 true (leBytes 4 5 ++ [1,2])) owned, by decide +kernel⟩,
   ⟨none, req 0x29 false (leBytes 4 0x80000001 ++ [6,2]), cur (req 0x29 false (leBytes 4 0x80000001 ++ [6,2])) owned, by decide +kernel⟩,
   ⟨req 0x30 true (List.replicate 48 3), cur (req 0x30 true (List.replicate 48 3)) openS, by decide +kernel⟩,
   ⟨some (tok false 1), 3, List.replicate 48 1, req 0x30 true (List.replicate 48 3), cur (req 0x30 true (List.replicate 48 3)) owned, by decide +kernel⟩,
   ⟨some (tok false 1), 1, req 0x30 true (List.replicate 48 3), cur (req 0x30 true (List.replicate 48 3)) owned, by decide +kernel⟩,
   ⟨some (tok false 1), req 0x31 true [], cur (req 0x31 true []) owned, by decide +kernel⟩,
   ⟨some (tok false 1), req 0x32 true [], cur (req 0x32 true []) owned, by decide +kernel⟩,
   ⟨none, req 0x30 true (List.replicate 48 3), cur (req 0x30 true (List.replicate 48 3)) owned, by decide +kernel⟩,
   ⟨none, req 0x31 true [], cur (req 0x31 true []) owned, by decide +kernel⟩,
   ⟨none, req 0x32 true [], cur (req 0x32 true []) owned, by decide +kernel⟩,
   ⟨none, none, req 0x38 true (leBytes 4 1), cur (req 0x38 true (leBytes 4 1)) openS, by decide +kernel⟩,
   ⟨none, none, req 0x38 true (leBytes 4 1), cur (req 0x38 true (leBytes 4 1)) owned, by decide +kernel⟩,
   ⟨req 0x39 true [], cur (req 0x39 true []) owned, by decide +kernel⟩⟩
end L4

namespace M1
def req (op : Nat) (svc : Bool) (ps : Bytes) (cap : Nat := 1024) : ChyReq := { svc := svc, src := 5, op := op, tag := 9, blk := 0x3000, params := ps, rpOfs := 1024, rpCap := cap }
def cur (r : ChyReq) (s : State := State.reset) : State := { s with chy := { s.chy with current := some r } }
def img : Bytes := leBytes 4 0x52415449 ++ leBytes 2 1 ++ [0,0] ++ leBytes 4 77 ++ leBytes 1 64 ++ List.replicate 100 5
def x (dig : Bytes) (len := img.length) (src := 1) : SessionSt := { id := 7, source := src, length := len, digest := dig, idleSince := 3, reboot := false, autoEclose := true }
def good : SessionSt := x (sha384 img)
def bad : SessionSt := x []
def ss (x : SessionSt) (staged : Bytes) (s : State := State.reset) : State := { mk [(Reg.CHY_STAT_CAND, 1), (Reg.CHY_STAT_SRC, 1)] s with chy := { s.chy with session := some x, staged := staged } }
def x2 := x [] 1024
def x3 := x [] 1024 3
def x4 := { good with source := 3 }
def m (sub : Nat) (body : Bytes) : RoostMsg := { path := 0, tagOk := true, undefinedType := false, id := 0, hopped := false, state := 3, rank := 0, sender := 5, dest := 0, mseq := 1, f := 0, txtime := 0, payload := beBytes 1 sub ++ body, time := 100 }
def peer (s : State) : State := mk [(Reg.ROO_STAT_STATE, 3), (Reg.ROO_STAT_RANK, 1), (Reg.ROO_PEER_SERIAL_LO 0, 5), (Reg.ROO_PEER_STAT_VALID 0, 1), (Reg.ROO_PEER_STAT_STATE 0, 3), (Reg.ROO_PEER_STAT_RANK 0, 0)] s

/-- States and operands that meet the hypotheses of `Obligations.Staging`, clause by clause. -/
theorem witness_Staging :
    (∃ (r : ChyReq) (s : State), s.Executes 32 r ∧ List.length r.params = 52 ∧ lengthOk (r.word 0) = true ∧ s.life ≠ 2 ∧ 4 ≤ r.rpCap ∧
      s.rd Reg.CHY_STAT_CAND ≠ 1 ∧ s.rd Reg.CHY_STAT_CAND ≠ 3) ∧
    (∃ (r : ChyReq) (s : State), s.Executes 32 r ∧ List.length r.params = 52 ∧ lengthOk (r.word 0) = true ∧ s.life ≠ 2 ∧ 4 ≤ r.rpCap ∧
      s.rd Reg.CHY_STAT_CAND = 1) ∧
    (∃ (r : ChyReq) (s : State), s.Executes 32 r ∧ List.length r.params = 52 ∧ lengthOk (r.word 0) = true ∧ s.life ≠ 2 ∧ 4 ≤ r.rpCap ∧
      s.rd Reg.CHY_STAT_CAND = 3) ∧
    (∃ (x : SessionSt) (r : ChyReq) (s : State), s.Executes 33 r ∧ s.chy.session = some x ∧ r.word 0 = x.id ∧
      stageFits (List.length s.chy.staged) x.length (r.word 1) (r.word 3) = true ∧
      (List.length r.params = 16 + if r.svc = true then r.word 3 else 0) ∧
      (r.svc = false → r.word 2 % 256 = 0 ∧ r.word 2 + r.word 3 ≤ 528482304) ∧ 4 ≤ r.rpCap) ∧
    (∃ (x : SessionSt) (r : ChyReq) (s : State), s.Executes 34 r ∧ s.chy.session = some x ∧ r.word 0 = x.id ∧ s.pwr.recovery = false ∧
      s.commitCause x = 0) ∧
    (∃ (x : SessionSt) (r : ChyReq) (s : State), s.Executes 34 r ∧ s.chy.session = some x ∧ r.word 0 = x.id ∧ s.pwr.recovery = false ∧
      s.commitCause x ≠ 0 ∧ s.commitCause x ≠ 9 ∧ 4 ≤ r.rpCap) ∧
    (∃ (x : SessionSt) (r : ChyReq) (s : State), s.Executes 35 r ∧ s.chy.session = some x ∧ r.word 0 = x.id) ∧
    (∃ (r : ChyReq) (s : State), s.chy.session = none ∧ s.Executes 33 r) ∧
    (∃ (r : ChyReq) (s : State), s.chy.session = none ∧ s.Executes 34 r) ∧
    (∃ (r : ChyReq) (s : State), s.chy.session = none ∧ s.Executes 35 r) ∧
    (∃ (x : SessionSt) (s : State), s.chy.session = some x ∧ s.chy.current.any (·.ofSession x) = false ∧ s.chyUp = true) ∧
    (∃ (m : RoostMsg) (n : Nat) (s : State),
      let sub : Nat := msgField m 0 1
      s.Takes 15 m ∧ s.chyUp = true ∧ s.peerOf m.sender.toNat = some n ∧ s.memberPeer n = true ∧ s.peerRank n = 0 ∧ sub = 1 ∧ s.life ≠ 2 ∧
      lengthOk (msgField m 1 4) = true ∧ s.rd Reg.CHY_STAT_CAND ≠ 1 ∧ s.rd Reg.CHY_STAT_CAND ≠ 3) ∧
    (∃ (m : RoostMsg) (n : Nat) (s : State) (x : SessionSt),
      let sub : Nat := msgField m 0 1
      s.Takes 15 m ∧ s.chyUp = true ∧ s.peerOf m.sender.toNat = some n ∧ s.memberPeer n = true ∧ s.peerRank n = 0 ∧
      s.chy.session = some x ∧ x.source = 3 ∧ sub = 2 ∧ msgField m 1 4 = List.length s.chy.staged ∧
      List.length s.chy.staged + (List.drop 5 m.payload).length ≤ x.length ∧ (List.drop 5 m.payload).length ≤ 8192) ∧
    (∃ (m : RoostMsg) (n : Nat) (s : State) (x : SessionSt),
      let sub : Nat := msgField m 0 1
      s.Takes 15 m ∧ s.chyUp = true ∧ s.peerOf m.sender.toNat = some n ∧ s.memberPeer n = true ∧ s.peerRank n = 0 ∧
      s.chy.session = some x ∧ x.source = 3 ∧ sub = 3 ∧ x.reboot = false ∧ s.commitCause x = 0) ∧
    (∃ (m : RoostMsg) (n : Nat) (s : State) (x : SessionSt),
      let sub : Nat := msgField m 0 1
      s.Takes 15 m ∧ s.chyUp = true ∧ s.peerOf m.sender.toNat = some n ∧ s.memberPeer n = true ∧ s.peerRank n = 0 ∧
      s.chy.session = some x ∧ x.source = 3 ∧ sub = 4) :=
  ⟨⟨req 0x20 true (leBytes 4 5000 ++ List.replicate 48 1) 4, cur (req 0x20 true (leBytes 4 5000 ++ List.replicate 48 1) 4), by decide +kernel⟩,
   ⟨req 0x20 true (leBytes 4 5000 ++ List.replicate 48 1) 4, cur (req 0x20 true (leBytes 4 5000 ++ List.replicate 48 1) 4) (mk [(Reg.CHY_STAT_CAND,1)]), by decide +kernel⟩,
   ⟨req 0x20 true (leBytes 4 5000 ++ List.replicate 48 1) 4, cur (req 0x20 true (leBytes 4 5000 ++ List.replicate 48 1) 4) (mk [(Reg.CHY_STAT_CAND,3)]), by decide +kernel⟩,
   ⟨x2, req 0x21 true (leBytes 4 7 ++ leBytes 4 2 ++ leBytes 4 0 ++ leBytes 4 256 ++ List.replicate 256 3) 4, cur (req 0x21 true (leBytes 4 7 ++ leBytes 4 2 ++ leBytes 4 0 ++ leBytes 4 256 ++ List.replicate 256 3) 4) (ss x2 [1,2]), by decide +kernel⟩,
   ⟨good, req 0x22 true (leBytes 4 7) 4, cur (req 0x22 true (leBytes 4 7) 4) (ss good img), by decide +kernel⟩,
   ⟨bad, req 0x22 true (leBytes 4 7) 4, cur (req 0x22 true (leBytes 4 7) 4) (ss bad img), by decide +kernel⟩,
   ⟨good, req 0x23 true (leBytes 4 7) 0, cur (req 0x23 true (leBytes 4 7) 0) (ss good img), by decide +kernel⟩,
   ⟨req 0x21 true (leBytes 4 7 ++ leBytes 4 2 ++ leBytes 4 0 ++ leBytes 4 256 ++ List.replicate 256 3) 4, cur (req 0x21 true (leBytes 4 7 ++ leBytes 4 2 ++ leBytes 4 0 ++ leBytes 4 256 ++ List.replicate 256 3) 4), by decide +kernel⟩,
   ⟨req 0x22 true (leBytes 4 7) 4, cur (req 0x22 true (leBytes 4 7) 4), by decide +kernel⟩,
   ⟨req 0x23 true (leBytes 4 7) 0, cur (req 0x23 true (leBytes 4 7) 0), by decide +kernel⟩,
   ⟨good, cur (req 0x22 true (leBytes 4 8) 4) (ss good img), by decide +kernel⟩,
   ⟨m 1 (beBytes 4 5000 ++ List.replicate 48 2 ++ [3]), 0, peer State.reset, by decide +kernel⟩,
   ⟨m 2 (beBytes 4 2 ++ [9,8,7]), 0, peer (ss x3 [1,2]), x3, by decide +kernel⟩,
   ⟨m 3 [], 0, peer (ss x4 img), x4, by decide +kernel⟩,
   ⟨m 4 [], 0, peer (ss x3 [1,2]), x3, by decide +kernel⟩⟩
end M1

namespace M2
def req (op : Nat) (svc : Bool) (ps : Bytes) (cap : Nat := 1024) : ChyReq := { svc := svc, src := 5, op := op, tag := 9, blk := 0x3000, params := ps, rpOfs := 1024, rpCap := cap }
def cur (r : ChyReq) (s : State := State.reset) : State := { s with chy := { s.chy with current := some r } }
def img : Bytes := leBytes 4 0x52415449 ++ leBytes 2 1 ++ [0,0] ++ leBytes 4 77 ++ leBytes 1 64 ++ List.replicate 100 5
def cand (s : State := State.reset) : State := { mk [(Reg.CHY_STAT_CAND, 3), (Reg.CHY_CAND, 77), (Reg.CHY_FLOOR, 3)] s with chy := { s.chy with staged := img, windowOpen := true, autoEclose := true, readySince := some 5, otherSettings := [(1,[1])] } }
def roles (s : State) : State := { mk [(Reg.ROO_STAT_STATE, 3), (Reg.ROO_STAT_RANK, 0), (Reg.ROO_PEER_SERIAL_LO 1, 5), (Reg.ROO_PEER_STAT_VALID 1, 1)] s with roo := { s.roo with leaseEnd := some 10000 } }
def noroles (s : State) : State := mk [(Reg.ROO_STAT_STATE, 3), (Reg.ROO_STAT_RANK, 1)] s
def pp : PushSt := { image := [1,2], flags := 0, peers := [{ serial := 5, opened := true, sent := 0, acked := 0, committing := false, status := none }, { serial := 6, opened := true, sent := 0, acked := 0, committing := false, status := some 1 }] }
def rs : List ChyReq := [req 0x24 true [] 4, req 0x24 false [] 4, req 0x25 true (leBytes 4 0 ++ leBytes 4 1 ++ leBytes 4 1) 24, req 0x25 false (leBytes 4 1 ++ leBytes 4 1 ++ leBytes 4 1) 24]
def st2 := mk [(Reg.CHY_STAT_CAND, 2)]

/-- States and operands that meet the hypotheses of `Obligations.EclosionAndPush`, clause by clause. -/
theorem witness_EclosionAndPush :
    (∃ (r : ChyReq) (s : State), s.Executes 36 r ∧ s.mayEclose = true) ∧
    (∃ (r : ChyReq) (s : State), s.Executes 36 r ∧ s.mayEclose = false ∧ 4 ≤ r.rpCap) ∧
    (∃ (τ : Nat) (s : State), s.chy.readySince = some τ ∧ s.chyUp = true ∧ s.chy.autoEclose = true ∧ s.rd Reg.CHY_STAT_CAND = 3 ∧
      s.rd Reg.CHY_ECLWIN = 0) ∧
    (∃ (τ : Nat) (s : State), s.windowEnd = some τ ∧ s.chyUp = true ∧ s.chy.windowOpen = true ∧ s.rd Reg.CHY_STAT_CAND = 3) ∧
    (∃ (r : ChyReq) (s : State), s.Executes 37 r ∧ s.chy.push = none ∧ List.length r.params = 12 ∧ r.word 0 ≤ 1 ∧ r.word 1 ≤ 1 ∧
      r.word 2 ≤ 1 ∧ 12 * (List.map s.peerSerial (List.filter s.peerValid [0, 1])).length ≤ r.rpCap ∧ s.holdsRoles = false) ∧
    (∃ (r : ChyReq) (s : State), s.Executes 37 r ∧ s.chy.push = none ∧ List.length r.params = 12 ∧ r.word 0 ≤ 1 ∧ r.word 1 ≤ 1 ∧
      r.word 2 ≤ 1 ∧ 12 * (List.map s.peerSerial (List.filter s.peerValid [0, 1])).length ≤ r.rpCap ∧ s.holdsRoles = true ∧ r.word 0 = 0 ∧
      s.rd Reg.CHY_STAT_CAND ≠ 2) ∧
    (∃ (r : ChyReq) (s : State), s.Executes 37 r ∧ s.chy.push = none ∧ List.length r.params = 12 ∧ r.word 0 ≤ 1 ∧ r.word 1 ≤ 1 ∧
      r.word 2 ≤ 1 ∧ 12 * (List.map s.peerSerial (List.filter s.peerValid [0, 1])).length ≤ r.rpCap ∧ s.holdsRoles = true ∧
      (r.word 0 = 0 → s.rd Reg.CHY_STAT_CAND = 2) ∧ List.map s.peerSerial (List.filter s.peerValid [0, 1]) = []) ∧
    (∃ (r : ChyReq) (s : State), s.Executes 37 r ∧ s.chy.push = none ∧ List.length r.params = 12 ∧ r.word 0 ≤ 1 ∧ r.word 1 ≤ 1 ∧
      r.word 2 ≤ 1 ∧ 12 * (List.map s.peerSerial (List.filter s.peerValid [0, 1])).length ≤ r.rpCap ∧ s.holdsRoles = true ∧
      (r.word 0 = 0 → s.rd Reg.CHY_STAT_CAND = 2) ∧ List.map s.peerSerial (List.filter s.peerValid [0, 1]) ≠ []) ∧
    (∃ (r : ChyReq) (p : PushSt) (s : State), s.Executes 37 r ∧ s.chy.push = some p ∧ s.holdsRoles = false ∧ s.roo.messages < 2 ^ 32) :=
  ⟨⟨req 0x24 true [] 4, cur (rs.getD 0 (req 0 true [])) cand, by decide +kernel⟩,
   ⟨req 0x24 true [] 4, cur (rs.getD 0 (req 0 true [])), by decide +kernel⟩,
   ⟨5, cur (rs.getD 0 (req 0 true [])) (mk [(Reg.CHY_ECLWIN,0)] cand), by decide +kernel⟩,
   ⟨5000000000, mk [(Reg.CHY_ECLWIN,5)] cand, by decide +kernel⟩,
   ⟨req 0x25 true (leBytes 4 0 ++ leBytes 4 1 ++ leBytes 4 1) 24, cur (req 0x25 true (leBytes 4 0 ++ leBytes 4 1 ++ leBytes 4 1) 24) (noroles st2), by decide +kernel⟩,
   ⟨req 0x25 true (leBytes 4 0 ++ leBytes 4 1 ++ leBytes 4 1) 24, cur (req 0x25 true (leBytes 4 0 ++ leBytes 4 1 ++ leBytes 4 1) 24), by decide +kernel⟩,
   ⟨req 0x25 true (leBytes 4 0 ++ leBytes 4 1 ++ leBytes 4 1) 24, cur (req 0x25 true (leBytes 4 0 ++ leBytes 4 1 ++ leBytes 4 1) 24) st2, by decide +kernel⟩,
   ⟨req 0x25 true (leBytes 4 0 ++ leBytes 4 1 ++ leBytes 4 1) 24, cur (req 0x25 true (leBytes 4 0 ++ leBytes 4 1 ++ leBytes 4 1) 24) (roles st2), by decide +kernel⟩,
   ⟨req 0x25 true (leBytes 4 0 ++ leBytes 4 1 ++ leBytes 4 1) 24, pp, {cur (req 0x25 true (leBytes 4 0 ++ leBytes 4 1 ++ leBytes 4 1) 24) (noroles st2) with chy := {(cur (req 0x25 true (leBytes 4 0 ++ leBytes 4 1 ++ leBytes 4 1) 24)).chy with push := some pp}}, by decide +kernel⟩⟩
end M2

namespace M3
def req := @M2.req
def cur := @M2.cur
def rst (n : Nat) (s : State := State.reset) : State := { mk [(Reg.CHY_STAT_RUN,0)] s with chy := { s.chy with restart := some (2, 0), restartTimes := List.replicate n 0 } }

/-- States and operands that meet the hypotheses of `Obligations.RestartsAndTampering`, clause by clause. -/
theorem witness_RestartsAndTampering :
    (∃ (s : State), s.chy.restart = none ∧ s.flag Reg.CHY_STAT_HALTED = false ∧ s.flag Reg.CHY_STAT_RUN = true) ∧
    (∃ (cause began : Nat) (s : State), s.chy.restart = some (cause, began) ∧ s.pwr.starting = none ∧ s.chy.restartTimes.length < 3 ∧
      s.pwr.recovery = false ∧ s.chy.current = none) ∧
    (∃ (cause began : Nat) (s : State) (r : ChyReq), s.chy.restart = some (cause, began) ∧ s.pwr.starting = none ∧
      s.chy.restartTimes.length < 3 ∧ s.pwr.recovery = false ∧ s.chy.current = some r ∧ s.StoreSound) ∧
    (∃ (cause began : Nat) (s : State), s.chy.restart = some (cause, began) ∧ s.pwr.starting = none ∧ 3 ≤ s.chy.restartTimes.length) :=
  ⟨⟨State.reset, by decide +kernel⟩,
   ⟨2, 0, rst 1, by decide +kernel⟩,
   ⟨2, 0, rst 1 (cur (req 1 true [])), req 1 true [], by decide +kernel⟩,
   ⟨2, 0, rst 3, by decide +kernel⟩⟩
end M3

namespace M4
def runs (p : Nat) (s : State := State.reset) : State := { mk [(Reg.MSC_CTRL_RX_EN p,1)] s with chy := { s.chy with caks := [(p, [1])] } }
def k0 := runs 0
def k1 := mk [(Reg.MAC_CTRL_ENABLE 0,1), (Reg.MAC_STAT_LINK 0,1)] k0
def peer (p prio : Nat) (s : State) : State := s.setMka p { peers := [(1, prio, 3)], an := some 3, nextHello := 77 }

/-- States and operands that meet the hypotheses of `Obligations.MkaSessions`, clause by clause. -/
theorem witness_MkaSessions :
    (∃ (p : Fin 8) (sci : BitVec 64) (prio : BitVec 8) (s : State),
      let heard : State := s.setMka p.val ({ s.mka p.val with peers := mkaHeard (s.mka p.val).peers sci.toNat prio.toNat s.time.elapsed })
      s.mkaRuns p.val = true ∧ (mkaHeard (s.mka p.val).peers sci.toNat prio.toNat s.time.elapsed).length ≠ (s.mka p.val).peers.length ∧
      heard.keyServer p.val = false) ∧
    (∃ (p : Fin 8) (sci : BitVec 64) (prio : BitVec 8) (s : State),
      let heard : State := s.setMka p.val ({ s.mka p.val with peers := mkaHeard (s.mka p.val).peers sci.toNat prio.toNat s.time.elapsed })
      s.mkaRuns p.val = true ∧ (mkaHeard (s.mka p.val).peers sci.toNat prio.toNat s.time.elapsed).length ≠ (s.mka p.val).peers.length ∧
      heard.keyServer p.val = true) ∧
    (∃ (p : Fin 8) (sci : BitVec 64) (prio : BitVec 8) (s : State),
      let heard : State := s.setMka p.val ({ s.mka p.val with peers := mkaHeard (s.mka p.val).peers sci.toNat prio.toNat s.time.elapsed })
      s.mkaRuns p.val = true ∧ (mkaHeard (s.mka p.val).peers sci.toNat prio.toNat s.time.elapsed).length = (s.mka p.val).peers.length ∧
      heard.keyServer p.val = false) ∧
    (∃ (p : Fin 8) (e : Nat × Nat × Nat) (s : State), s.chyUp = true ∧ s.isOff 0x11 = false ∧ (s.mka p.val).peers = [e]) :=
  ⟨⟨0, 1, 0, k0, by decide +kernel⟩,
   ⟨0, 1, 255, k0, by decide +kernel⟩,
   ⟨0, 1, 0, peer 0 0 k1, by decide +kernel⟩,
   ⟨0, (1,0,3), peer 0 0 k1, by decide +kernel⟩⟩
end M4

/-- A state in which a command of requester 15 waits for the store. -/
def waits (slots : List (Nat × Nat)) : State :=
  { State.reset with arb := { State.reset.arb with ports := [(15, [{ requester := 15, addr := 0x800, op := .command }])]
                                                   held := [(15, [.postres 0])], slots := slots } }

/-- States that meet the hypotheses of the statements about the queue and every step. -/
theorem witness_queue :
    (∃ (s : State) (c : Instr) (rest : List Instr), s.pending = c :: rest) ∧
    (∃ s : State, s.pending = [] ∧ s.arb.held = [] ∧ s.arb.bursts = []) ∧
    (∃ s t : State, s.Canonical ∧ step s = .next t) ∧
    (∃ c : Instr, c.wf = true ∧ ∀ (page : Fin 4) (off : BitVec 22) (v : Word), c ≠ .registerWrite (.chyDevice page) off v) :=
  ⟨⟨State.reset.withPending [.latch, .postres 0], .latch, [.postres 0], rfl⟩, ⟨State.reset, rfl, rfl, rfl⟩,
   ⟨State.reset, State.reset.cycle, by decide +kernel, rfl⟩, ⟨.bar2Read 0x1FFFFFFF 1, by decide, nofun⟩⟩

/-- States that meet the hypotheses of `Obligations.IdleStepIsOneTimeCycle`, the parts about a command that waits for the store. -/
theorem witness_held :
    (∃ (s : State) (r : Fin 57) (c : Instr) (q : StoreRequest), s.pending = [] ∧ s.arb.bursts = [] ∧ s.arb.held = [(r.val, [c])] ∧
      s.port r = [q] ∧ q.op = .command ∧ ((s.cycle.setPort r []).setHeld r []).heldUp r q.addr.toNat 1 = true) ∧
    (∃ (s t : State) (r : Fin 57) (c : Instr) (q : StoreRequest), s.pending = [] ∧ s.arb.bursts = [] ∧ s.arb.held = [(r.val, [c])] ∧
      s.port r = [q] ∧ q.op = .command ∧ ((s.cycle.setPort r []).setHeld r []).heldUp r q.addr.toNat 1 = false ∧
      exec c ((s.cycle.setPort r []).setHeld r []) = .next t) :=
  ⟨⟨waits [(0, 900), (1, 900), (2, 900), (3, 900), (4, 900), (5, 900), (6, 900), (7, 900)], 15, .postres 0,
     { requester := 15, addr := 0x800, op := .command }, rfl, rfl, rfl, rfl, rfl, by decide +kernel⟩,
   ⟨waits [], _, 15, .postres 0, { requester := 15, addr := 0x800, op := .command }, rfl, rfl, rfl, rfl, rfl,
     by decide +kernel, rfl⟩⟩

/-- A state that meets the hypotheses of `Obligations.ControlPage`, the part about requests that wait at the core's port. -/
theorem witness_fence :
    ∃ (core : Fin 8) (s : State), s.isOff 4 = false ∧ s.port (16 + core.val) ≠ [] ∧ s.arb.waiting = none ∧
      ∀ q : StoreRequest, q ∈ s.port (16 + core.val) → q.op ≠ .command :=
  ⟨0, (waits []).setPort 16 [{ requester := 16, addr := 0x800, op := .read 0 }], rfl, by decide +kernel, rfl, by decide +kernel⟩

/-- Operands that meet the hypotheses of `Obligations.StoreAccess`, the part about accesses past the end. -/
theorem witness_Bar2OutsideWindowFaults :
    (∃ (addr : Nat) (data : List (Option Byte)), 0x20000000 < addr + data.length) ∧
    (∃ (addr len : Nat), 0x20000000 < addr + len) :=
  ⟨⟨0x1FFFFFFF, [some 1, some 2], by decide⟩, ⟨0x20000000, 1, by decide⟩⟩

/-- The row of a register by its offset. -/
def rowAt (off : Nat) : RegRow := (regRow? off).getD ⟨0, [], []⟩

/-- Operands that meet the hypotheses of `Obligations.RegisterWriteLoadsFieldByField`, a field of each access type and an undefined
encoding among them. -/
theorem witness_RegisterWriteLoadsFieldByField :
    ∀ x ∈ [(0x18, 0xFFFFFFFF, FieldInfo.mk 0 32 .rw 0 .any 0, true), (0x180000, 0xC, ⟨2, 2, .rw, 2, .range 0 2, 0⟩, false),
        (0x10, 1, ⟨0, 1, .w1c, 0, .any, 0⟩, true), (0x10, 0, ⟨8, 8, .ro, 0, .any, 0⟩, true)],
      State.reset.accessible .bar0 = true ∧ x.1 % 4 = 0 ∧
      (blockOf x.1 = 0x00 ∨ blockOf x.1 = 0x03 ∨ blockOf x.1 = 0x11) ∧ State.reset.offsetOff x.1 = false ∧
      regRow? x.1 = some (rowAt x.1) ∧ x.2.2.1 ∈ (rowAt x.1).fields ∧
      x.2.2.1.legal.ok (bitsOf x.2.1 x.2.2.1.lsb x.2.2.1.width) = x.2.2.2 := by decide +kernel

/-! Ill-formed commands, one for each check of `Instr.wf`. -/

theorem test_wf_registerWrite :
    (Instr.registerWrite .bar0 2 0).wf = false ∧ (Instr.registerWrite .chyRom 0x10000 0).wf = false ∧
    (Instr.registerWrite .chySram 0x80000 0).wf = false := by decide
theorem test_wf_loReadLatch : (Instr.loReadLatch .bar0 1).wf = false := by decide
theorem test_wf_bar0UnmappedAccess : (Instr.bar0UnmappedAccess .bar0 0x20FFFC true).wf = false := by decide
theorem test_wf_accessOff :
    (Instr.accessOff .bar0 2 true).wf = false ∧ (Instr.accessOff .bar0 0x210000 true).wf = false := by decide
theorem test_wf_descriptorFetch :
    (Instr.descriptorFetch [[1, 2, 3]]).wf = false ∧
      (Instr.descriptorFetch (List.replicate 9 (List.replicate 16 0))).wf = false := by decide
theorem test_wf_dmaToStore (data : Bytes) (h : 16777216 < data.length) : (Instr.dmaToStore 0 data false).wf = false := by
  simp [Instr.wf, h]
theorem test_wf_arbGrant :
    (StoreRequest.mk 3 0x10 (.read 0)).wf = false ∧ (StoreRequest.mk 3 0xE0 (.read 1)).wf = false ∧
    (StoreRequest.mk 3 0 (.write [])).wf = false ∧ (StoreRequest.mk 3 0xFF (.write [some 1, some 2])).wf = false ∧
    (StoreRequest.mk 19 0x100 (.lockBegin 1)).wf = false ∧ (StoreRequest.mk 19 0x80 (.lockEnd true)).wf = false ∧
    (StoreRequest.mk 3 0x20 (.writeBack (List.replicate 64 0) [])).wf = false ∧ (StoreRequest.mk 3 0 .command).wf = false ∧
    (Instr.arbGrant 0 [StoreRequest.mk 3 0x10 (.read 0)] []).wf = false := by decide
theorem test_wf_bar2 :
    (Instr.bar2Write 0 []).wf = false ∧ (Instr.bar2Write 0x1FFFFFFF [some 1, some 2]).wf = false ∧
    (Instr.bar2Read 0 0).wf = false ∧ (Instr.bar2Read 0x20000000 1).wf = false := by decide
theorem test_wf_clean : (Instr.clean 0 64 [(1, List.replicate 64 0)]).wf = false ∧ (Instr.clean 0 64 [(64, [1])]).wf = false := by decide
theorem test_wf_flush : (Instr.flush 0 64 [(1, List.replicate 64 0)]).wf = false := by decide
theorem test_wf_flowVideoPacket : (Instr.flowVideoPacket ⟨0, 0, 0, 0⟩ 0 true [⟨0, 0, [1, 2, 3, 4]⟩] 0).wf = false := by decide
theorem test_wf_vinFrameComplete : (Instr.vinFrameComplete 0 0 (List.replicate 31 0) 0).wf = false := by decide
theorem test_wf_thmUpdate : (Instr.thmUpdate [] []).wf = false := by decide
theorem test_wf_keyInstall : (Instr.keyInstall ⟨0, true, true, true, none, [1]⟩).wf = false := by decide
theorem test_wf_own : (Instr.own none 1 [1, 2] false).wf = false := by decide
theorem test_wf_pwrEnter :
    (Instr.pwrEnterIdle 1 [(0, .write .bar0 2 0)] none).wf = false ∧ (Instr.pwrEnterDormant 1 [(0, .write .bar0 2 0)] none).wf = false ∧
    (Instr.pwrEnterCocoon 1 [(0, .write .bar0 2 0)] none).wf = false := by decide

/-! Worked examples of the spec. -/

/-- 04_central_store.md, after R117: address 0x0123_4560 lies in bank 8, die 5. -/
theorem test_die_and_bank : dieOf 0x01234560 = 5 ∧ bankOf 0x01234560 = 8 := by decide

/-- 04_central_store.md, after R148: the lock word of an abandoned lock of core 3 reads 0x0041_1302 in its low word. -/
theorem test_lock_word : lockWord 2 false 19 0x41 77 % 2 ^ 32 = 0x00411302 := by decide

/-- 07_scale_colour.md, after R239: the tenth frame of a crossfade of 30 blends 0x0200_0000 and 0x0206_0000 to 0x0202_0004. -/
theorem test_blend_band : blendBand 0x02000000 0x02060000 10923 = 0x02020004 := by decide

/-- 07_scale_colour.md, worked example of an RGBW tile: white extraction. -/
theorem test_white_extract :
    whiteExtract [9437184, 8388608, 3145728] [0x00C00000, 0x00C00000, 0x00800000] 0x8000 = [4718592, 3670016, 0, 6291456] := by
  decide +kernel

/-- 07_scale_colour.md, the same tile: red is written 17,335 at N = 90,000 and 17,334 at N = 90,001. -/
theorem test_dither :
    ditherOffset true 90000 81957 0 = 12058624 ∧ driveCode 16 4437688 (ditherOffset true 90000 81957 0) = 17335 ∧
    driveCode 16 4437688 (ditherOffset true 90001 81957 0) = 17334 := by decide +kernel

/-- 12_media_inputs.md, R400: 01:00:00;00 drop-frame counts 107,892 frames. -/
theorem test_drop_frame : tcCount 2 0x01000000 = 107892 := by decide +kernel

/-- 09_wingbeat_link.md, the chain of 200 nodes: 6,875 symbol times are 22,000 ns and 6,175 are 19,760 ns. -/
theorem test_symbol_times : tauNs 6875 = 22000 ∧ tauNs 6175 = 19760 := by decide

/-- 09_wingbeat_link.md, the profile example at 60 frames/s: Tp is 5,208,333 clocks, RS 10,172, and W 9,980 in band 1. -/
theorem test_profile :
    let s := mk [(Reg.WNG_PROF_CFG_ROWS 0 0, 16), (Reg.WNG_PROF_CFG_SEG 0 0, 7), (Reg.WNG_PROF_CFG_MULT 0 0, 3),
      (Reg.WNG_PROF_CFG_GDIV 0 0, 0), (Reg.WNG_PROF_BAND_BLANK 0 0 1, 32), (Reg.WNG_PROF_BAND_PRE 0 0 1, 160)]
    let period := (effectivePeriod 60 1 (2 ^ 24)).getD 0
    s.profileTp 0 0 period = 5208333 ∧ s.profileRs 0 0 period = 10172 ∧ s.profileW 0 0 10172 1 = 9980 := by decide +kernel

/-- 08_endpoints_emission.md, the APT example: the header of packet 8. -/
theorem test_apt_header :
    (aptPacket 1 0x14 0x04B12C08 0x00012C4B 0 7 0x0B 1920 80 (List.replicate 480 0)).take 32 =
      [0x41, 0x50, 0x11, 0x14, 0x04, 0xB1, 0x2C, 0x08, 0x00, 0x01, 0x2C, 0x4B, 0, 0, 0, 0, 0, 0, 0, 0,
       0x00, 0x07, 0x0B, 0x00, 0x00, 0x00, 0x07, 0x80, 0x00, 0x50, 0x01, 0xE0] := by decide +kernel

/-- 02_antenna_timebase.md, after R62: context 4 of the example, anchored at 90000.0. -/
def cueContext : State :=
  let s := mk [(Reg.ANT_CTX_STAT_STATE 4, 1), (Reg.ANT_CTX_NUM 4, 60000), (Reg.ANT_CTX_DEN 4, 1001), (Reg.ANT_CTX_SPEED 4, 2 ^ 24)]
  let s := s.setCtxPeriod 4 ((effectivePeriod 60000 1001 (2 ^ 24)).getD 0)
  { s with ctxs := [(4, { s.ctx 4 with pb := 0x0000015F90000000, tb := 4280000000 * 2 ^ 32 })] }

/-- The cue at 90001.5 falls at 4,305,025,000 ns, and 89998.0 at 4,246,633,333 ns. -/
theorem test_convert :
    cueContext.ctxConvert 4 0x0000015F91800000 = some 4305025000 ∧
    cueContext.ctxConvert 4 0x0000015F8E000000 = some 4246633333 := by decide +kernel

/-- 03_host_rings.md, the GO cue on ring 5: CFG reads 0x4900_0880, and the descriptor is placed. -/
def goRing : State :=
  let d : Desc := { index := 0, words := [0x00010801, 0x101, 0, 0, 0, 0, 0x00020004, 0xB0800000, 0x4, 0x42, 0x2A7, 0, 0, 0, 0, 0], phase := .started }
  let s := mk [(Reg.HST_RING_CFG_LOG2SIZE 5, 8), (Reg.HST_RING_CFG_BLOCK 5, 8), (Reg.HST_RING_CFG_INST 5, 0), (Reg.HST_RING_CFG_VEC 5, 9),
    (Reg.HST_RING_CFG_VEC_EN 5, 1), (Reg.HST_RING_CBASE_LO 5, 0x20004000), (Reg.HST_RING_CBASE_HI 5, 1), (Reg.HST_RING_CTRL 5, 1),
    (Reg.CAL_CTRL_ENABLE, 1)]
  s.setRing 5 { s.ring 5 with descs := [d], fetched := 1 }

theorem test_cue_ring_cfg : goRing.word 0x11158 = 0x49000880 := by decide +kernel

/-- Its completion entry begins 0x8000_0000, 0x0000_0101, 0x0008_0000. -/
theorem test_cue_completion :
    ∃ t, exec (.calAdd 5) goRing = .next t ∧ t.cal.events.length = 1 ∧
      t.out.any (fun o => match o with
        | .hostWrite a e => a == 0x120004000 && e.take 12 == wordsBytes [0x80000000, 0x101, 0x00080000]
        | _ => false) = true :=
  ⟨_, rfl, by decide +kernel, by decide +kernel⟩

/-- 05_hawk_cores.md, after R167: cores 5 and 6 wait, core 3 is busy; a task held for core 3 waits within the affinity window, goes to
core 5 past it, and one of a FUNC with no recorded core goes to core 5. -/
def waitingCores : State :=
  let on (n : Nat) : List (Fld × Nat) := [(Reg.HWK_CTRL_ENABLE n, 1), (Reg.HWK_STAT_STATE n, 1)]
  let s := mk (on 3 ++ on 5 ++ on 6)
  let s := (s.setHawk 5 { hawkIdle with waits := true }).setHawk 6 { hawkIdle with waits := true }
  { s with tsk := { s.tsk with affinity := [(0x2A7, some 3)] } }

theorem test_affinity :
    waitingCores.headChoice 12 0x2A7 = .wait ∧ waitingCores.headChoice 4 0x011 = .core 5 ∧
    ({ waitingCores with time := { waitingCores.time with elapsed := 2000 } } : State).headChoice 12 0x2A7 = .core 5 := by
  decide +kernel

/-- FIPS 180-4: the digests of "abc" (log 10). -/
theorem test_sha256 : beNat (sha256 [0x61, 0x62, 0x63]) = 0xBA7816BF8F01CFEA414140DE5DAE2223B00361A396177A9CB410FF61F20015AD := by
  decide +kernel

theorem test_sha384 :
    beNat (sha384 [0x61, 0x62, 0x63]) =
      0xCB00753F45A35E8BB5A03D699AC65007272C32AB0EDED1631A8B605A43FF5BED8086072BA1E7CC2358BAECA134C825A7 := by
  decide +kernel

/-- R131: an access past the 512 MiB window of BAR2 has no address. -/
theorem test_bar2_past_the_window : exec (.bar2Read 0x20000000 1) State.reset = .fault .storeRange := by rfl

/-- R28, R32: a request that is no aligned word sets BAD_ACCESS, captured with block ID 0x03. -/
theorem test_bad_access :
    ∃ t, exec (.bar0BadAccess .bar0 0x30002 true) State.reset = .next t ∧ t.word 0x10 = 0x00000304 :=
  ⟨_, rfl, by decide +kernel⟩

/-- R17: a write of an undefined encoding leaves its field. -/
theorem test_undefined_encoding :
    ∃ t, exec (.registerWrite .bar0 0x180000 0xF) State.reset = .next t ∧ bitsOf (t.word 0x180000).toNat 0 4 = 0xB :=
  ⟨_, rfl, by decide +kernel⟩

/-- `step` takes the front command. -/
theorem test_step : ∃ t, step (State.reset.withPending [.bar0BadAccess .bar0 2 false, .latch]) = .next t ∧ t.pending = [.latch] :=
  ⟨_, rfl, rfl⟩

/-- No row of the opcode table gives bits. -/
theorem test_no_table_word : decodeTableWord 32 5 = none := rfl

end Sys2Proof.Tests
end

section
/-! PROOFS. Errors of accesses: what one capture leaves, and what a write of ones to GLB_ERRSTAT clears (R27, R28, R32, R455). -/
namespace Sys2Proof.Machine

/-! ### Fields that share no bit -/

/-- Two fields that share no bit: of different registers, or one below the other. -/
abbrev Fld.Apart (f g : Fld) : Prop := g.off ≠ f.off ∨ g.lsb + g.width ≤ f.lsb ∨ f.lsb + f.width ≤ g.lsb

/-- A field reads as before a write of a field that shares no bit with it. -/
theorem State.rd_wr_apart (s : State) (f g : Fld) (v : Nat) (hf : f.lsb + f.width ≤ 32) (h : f.Apart g) :
    (s.wr f v).rd g = s.rd g :=
  h.elim (s.rd_wr_off f g v) (s.rd_wr_bits f g v hf)

theorem State.flag_wr_apart (s : State) (f g : Fld) (v : Nat) (hf : f.lsb + f.width ≤ 32) (h : f.Apart g) :
    (s.wr f v).flag g = s.flag g := by
  rw [State.flag, s.rd_wr_apart f g v hf h, State.flag]

theorem State.rd_setFlag_apart (s : State) (f g : Fld) (b : Bool) (hf : f.lsb + f.width ≤ 32) (h : f.Apart g) :
    (s.setFlag f b).rd g = s.rd g := s.rd_wr_apart f g _ hf h

theorem State.flag_setFlag_apart (s : State) (f g : Fld) (b : Bool) (hf : f.lsb + f.width ≤ 32) (h : f.Apart g) :
    (s.setFlag f b).flag g = s.flag g :=
  s.flag_wr_apart f g _ hf h

theorem State.flag_count_apart (s : State) (f g : Fld) (n : Nat) (hf : f.lsb + f.width ≤ 32) (h : f.Apart g) :
    (s.count f n).flag g = s.flag g :=
  s.flag_wr_apart f g _ hf h

/-! ### The block and INST that an offset names -/

theorem blockOf_lt (off : Nat) : blockOf off < 2 ^ 8 := by
  unfold blockOf
  dsimp only
  repeat' split
  all_goals omega

theorem blockOf_of_unmapped {off : Nat} (h : 0x210000 ≤ off) : blockOf off = 0xFF := by
  unfold blockOf
  dsimp only
  repeat' split
  all_goals omega

/-- Above the map INST is 0xFF (R32). -/
theorem instOf_of_unmapped {off : Nat} (h : 0x210000 ≤ off) : instOf off = 0xFF := by
  simp [instOf, blockOf_of_unmapped h]

theorem windowInst_lt (off base size : Nat) {count : Nat} (hc : count ≤ 2 ^ 8) : windowInst off base size count < 2 ^ 8 := by
  unfold windowInst
  split
  · next h => exact Nat.lt_of_lt_of_le (Nat.div_lt_of_lt_mul (by omega)) hc
  · decide

/-- SDI inputs are INST 0 to 15 of VIN, flows 16 to 47 (R32). -/
theorem vinInst_lt (off : Nat) :
    (if 0x1A2000 ≤ off ∧ off < 0x1A2400 then 16 + (off - 0x1A2000) / 0x20 else windowInst off 0x1A0000 0x100 16) < 2 ^ 8 := by
  split
  · omega
  · exact windowInst_lt _ _ _ (by decide)

theorem ite_lt_of_lt {c : Prop} [Decidable c] {a b n : Nat} (ha : a < n) (hb : b < n) : (if c then a else b) < n := by
  split <;> assumption

/-- INST fits its field of GLB_ERRSTAT: one case for each block that numbers its windows. -/
theorem instOf_lt (off : Nat) : instOf off < 2 ^ 8 := by
  unfold instOf
  dsimp only
  iterate 8 refine ite_lt_of_lt (windowInst_lt _ _ _ (by decide)) ?_
  refine ite_lt_of_lt (vinInst_lt off) ?_
  refine ite_lt_of_lt (windowInst_lt _ _ _ (by decide)) ?_
  exact ite_lt_of_lt (by decide) (by decide)

/-! ### One error -/

/-- An error bit of GLB_ERRSTAT, set when its cause applies. -/
def State.markError (s : State) (f : Fld) (cause : Bool) : State := if cause then s.setFlag f true else s

theorem State.flag_markError_same (s : State) (f : Fld) (cause : Bool) (hf : f.lsb + f.width ≤ 32) (hw : f.width = 1) :
    (s.markError f cause).flag f = (s.flag f || cause) := by
  cases cause
  · simp [State.markError]
  · simp [State.markError, s.flag_setFlag_same f true hf hw]

theorem State.rd_markError_apart (s : State) (f g : Fld) (cause : Bool) (hf : f.lsb + f.width ≤ 32) (h : f.Apart g) :
    (s.markError f cause).rd g = s.rd g := by
  cases cause
  · rfl
  · exact s.rd_wr_apart f g _ hf h

theorem State.flag_markError_apart (s : State) (f g : Fld) (cause : Bool) (hf : f.lsb + f.width ≤ 32) (h : f.Apart g) :
    (s.markError f cause).flag g = s.flag g := by
  rw [State.flag, s.rd_markError_apart f g cause hf h, State.flag]

theorem State.markError_only {P : Nat → Prop} (s : State) (f : Fld) (cause : Bool) (h : P f.off) : OnlyRegs P s (s.markError f cause) := by
  cases cause
  · exact OnlyRegs.refl
  · exact s.setFlag_only f true h

/-- The error bits set and the error counted. -/
def State.countError (s : State) (accessOff unmapped bad : Bool) : State :=
  (((s.markError Reg.GLB_ERRSTAT_ACCESS_OFF accessOff).markError Reg.GLB_ERRSTAT_UNMAPPED unmapped).markError
    Reg.GLB_ERRSTAT_BAD_ACCESS bad).count Reg.GLB_ERRCNT 1

/-- The capture of an access: its block, INST, offset and direction. -/
def State.recordAccess (s : State) (block inst off : Nat) (write : Bool) : State :=
  (((s.wr Reg.GLB_ERRSTAT_BLOCK block).wr Reg.GLB_ERRSTAT_INST inst).wr Reg.GLB_ERRADDR_OFFSET off).setFlag Reg.GLB_ERRADDR_WRITE write

/-- While the capture is open, an error is counted and recorded, and GLB_ERROR is raised with what was recorded (R32). -/
theorem State.captureError_of_open (s : State) (block inst off : Nat) (write accessOff unmapped bad : Bool) (ho : s.captureOpen = true) :
    s.captureError block inst off write accessOff unmapped bad =
      let t := (s.countError accessOff unmapped bad).recordAccess block inst off write
      t.raise 0x0001 0 [(t.word 0x10).toNat, (t.word 0x14).toNat] := by
  simp only [State.captureError, ho, if_true]
  rfl

section
variable (s : State) (accessOff unmapped bad : Bool)

theorem State.flag_countError_accessOff : (s.countError accessOff unmapped bad).flag Reg.GLB_ERRSTAT_ACCESS_OFF =
    (s.flag Reg.GLB_ERRSTAT_ACCESS_OFF || accessOff) := by
  simp (disch := decide) only [State.countError, State.flag_count_apart, State.flag_markError_apart, State.flag_markError_same]

theorem State.flag_countError_unmapped : (s.countError accessOff unmapped bad).flag Reg.GLB_ERRSTAT_UNMAPPED =
    (s.flag Reg.GLB_ERRSTAT_UNMAPPED || unmapped) := by
  simp (disch := decide) only [State.countError, State.flag_count_apart, State.flag_markError_apart, State.flag_markError_same]

theorem State.flag_countError_bad : (s.countError accessOff unmapped bad).flag Reg.GLB_ERRSTAT_BAD_ACCESS =
    (s.flag Reg.GLB_ERRSTAT_BAD_ACCESS || bad) := by
  simp (disch := decide) only [State.countError, State.flag_count_apart, State.flag_markError_apart, State.flag_markError_same]

theorem State.rd_countError_errcnt : (s.countError accessOff unmapped bad).rd Reg.GLB_ERRCNT =
    min (s.rd Reg.GLB_ERRCNT + 1) (2 ^ 32 - 1) := by
  rw [State.countError, State.rd_count_same _ _ _ (by decide)]
  simp (disch := decide) only [State.rd_markError_apart]
  rfl
end

section
variable (s : State) (block inst off : Nat) (write : Bool)

/-- The record of an access touches no error bit and no count. -/
theorem State.rd_recordAccess_apart (g : Fld) (h : g.off = 0x10 ∧ g.lsb + g.width ≤ 8 ∨ g.off = 0x18) :
    (s.recordAccess block inst off write).rd g = s.rd g := by
  simp only [State.recordAccess]
  rw [State.rd_setFlag_off, State.rd_wr_off, State.rd_wr_apart, State.rd_wr_apart]
  all_goals simp only [Fld.Apart, Reg.GLB_ERRSTAT_BLOCK, Reg.GLB_ERRSTAT_INST, Reg.GLB_ERRADDR_OFFSET,
    Reg.GLB_ERRADDR_WRITE]; omega

theorem State.flag_recordAccess_apart (g : Fld) (h : g.off = 0x10 ∧ g.lsb + g.width ≤ 8 ∨ g.off = 0x18) :
    (s.recordAccess block inst off write).flag g = s.flag g := by
  rw [State.flag, s.rd_recordAccess_apart block inst off write g h, State.flag]

theorem State.rd_recordAccess_block (hb : block < 2 ^ 8) : (s.recordAccess block inst off write).rd Reg.GLB_ERRSTAT_BLOCK = block := by
  simp (disch := decide) only [State.recordAccess, State.rd_setFlag_apart, State.rd_wr_apart, State.rd_wr_same]
  exact Nat.mod_eq_of_lt hb

theorem State.rd_recordAccess_inst (hi : inst < 2 ^ 8) : (s.recordAccess block inst off write).rd Reg.GLB_ERRSTAT_INST = inst := by
  simp (disch := decide) only [State.recordAccess, State.rd_setFlag_apart, State.rd_wr_apart, State.rd_wr_same]
  exact Nat.mod_eq_of_lt hi

theorem State.rd_recordAccess_offset (ho : off < 2 ^ 22) : (s.recordAccess block inst off write).rd Reg.GLB_ERRADDR_OFFSET = off := by
  simp (disch := decide) only [State.recordAccess, State.rd_setFlag_apart, State.rd_wr_same]
  exact Nat.mod_eq_of_lt ho

theorem State.flag_recordAccess_write : (s.recordAccess block inst off write).flag Reg.GLB_ERRADDR_WRITE = write :=
  State.flag_setFlag_same _ _ _ (by decide) rfl
end

/-- The registers of the capture and its counter: GLB_ERRSTAT, GLB_ERRADDR and GLB_ERRCNT. -/
abbrev ErrorReg (off : Nat) : Prop := off = 0x10 ∨ off = 0x14 ∨ off = Reg.GLB_ERRCNT.off

/-- What a captured error leaves: exactly the bits that apply, one count, and the access in the capture; beside that only a notice. -/
structure Captured (block inst off : Nat) (write accessOff unmapped bad : Bool) (s t : State) : Prop where
  accessOff : t.flag Reg.GLB_ERRSTAT_ACCESS_OFF = accessOff
  unmapped : t.flag Reg.GLB_ERRSTAT_UNMAPPED = unmapped
  bad : t.flag Reg.GLB_ERRSTAT_BAD_ACCESS = bad
  block : t.rd Reg.GLB_ERRSTAT_BLOCK = block
  inst : t.rd Reg.GLB_ERRSTAT_INST = inst
  offset : t.rd Reg.GLB_ERRADDR_OFFSET = off
  write : t.flag Reg.GLB_ERRADDR_WRITE = write
  count : t.rd Reg.GLB_ERRCNT = min (s.rd Reg.GLB_ERRCNT + 1) (2 ^ 32 - 1)
  frame : RegsAndReports ErrorReg s t

/-- No report touches the capture. -/
theorem ErrorReg.not_report {off : Nat} (h : ErrorReg off) : ¬ ReportReg off := by
  rcases h with rfl | rfl | rfl <;> (unfold ReportReg; decide)

/-- A report leaves the capture as it stands. -/
theorem Captured.trans_reports {block inst off : Nat} {write accessOff unmapped bad : Bool} {s t u : State}
    (h : Captured block inst off write accessOff unmapped bad s t) (hr : OnlyReports t u) :
    Captured block inst off write accessOff unmapped bad s u where
  accessOff := (hr.flag (ErrorReg.not_report (.inl rfl))).trans h.accessOff
  unmapped := (hr.flag (ErrorReg.not_report (.inl rfl))).trans h.unmapped
  bad := (hr.flag (ErrorReg.not_report (.inl rfl))).trans h.bad
  block := (hr.rd (ErrorReg.not_report (.inl rfl))).trans h.block
  inst := (hr.rd (ErrorReg.not_report (.inl rfl))).trans h.inst
  offset := (hr.rd (ErrorReg.not_report (.inr (.inl rfl)))).trans h.offset
  write := (hr.flag (ErrorReg.not_report (.inr (.inl rfl)))).trans h.write
  count := (hr.rd (ErrorReg.not_report (.inr (.inr rfl)))).trans h.count
  frame := h.frame.trans hr.regsAndReports

theorem State.countError_only (s : State) (accessOff unmapped bad : Bool) : OnlyRegs ErrorReg s (s.countError accessOff unmapped bad) :=
  (((s.markError_only _ _ (.inl rfl)).trans (State.markError_only _ _ _ (.inl rfl))).trans (State.markError_only _ _ _ (.inl rfl))).trans
    (State.count_only _ _ _ (.inr (.inr rfl)))

theorem State.recordAccess_only (s : State) (block inst off : Nat) (write : Bool) :
    OnlyRegs ErrorReg s (s.recordAccess block inst off write) :=
  (((s.wr_only _ _ (.inl rfl)).trans (State.wr_only _ _ _ (.inl rfl))).trans (State.wr_only _ _ _ (.inr (.inl rfl)))).trans
    (State.setFlag_only _ _ _ (.inr (.inl rfl)))

/-- The open capture has no error bit set. -/
theorem State.captureOpen_iff (s : State) : s.captureOpen = true ↔
    s.flag Reg.GLB_ERRSTAT_ACCESS_OFF = false ∧ s.flag Reg.GLB_ERRSTAT_UNMAPPED = false ∧ s.flag Reg.GLB_ERRSTAT_BAD_ACCESS = false := by
  simp [State.captureOpen, and_assoc]

theorem State.captureError_captured (s : State) {block inst off : Nat} (write accessOff unmapped bad : Bool) (ho : s.captureOpen = true)
    (hb : block < 2 ^ 8) (hi : inst < 2 ^ 8) (hoff : off < 2 ^ 22) :
    Captured block inst off write accessOff unmapped bad s (s.captureError block inst off write accessOff unmapped bad) := by
  obtain ⟨h0, h1, h2⟩ := s.captureOpen_iff.1 ho
  rw [s.captureError_of_open block inst off write accessOff unmapped bad ho]
  refine Captured.trans_reports ?_ (State.raise_report ..)
  exact { accessOff := by rw [State.flag_recordAccess_apart _ _ _ _ _ _ (by decide), State.flag_countError_accessOff, h0, Bool.false_or]
          unmapped := by rw [State.flag_recordAccess_apart _ _ _ _ _ _ (by decide), State.flag_countError_unmapped, h1, Bool.false_or]
          bad := by rw [State.flag_recordAccess_apart _ _ _ _ _ _ (by decide), State.flag_countError_bad, h2, Bool.false_or]
          block := State.rd_recordAccess_block (hb := hb) ..
          inst := State.rd_recordAccess_inst (hi := hi) ..
          offset := State.rd_recordAccess_offset (ho := hoff) ..
          write := State.flag_recordAccess_write ..
          count := by rw [State.rd_recordAccess_apart _ _ _ _ _ _ (by decide), State.rd_countError_errcnt]
          frame := ((s.countError_only ..).trans (State.recordAccess_only ..)).regsAndReports }

/-! ### An access in error -/

/-- The answer to a read only leaves the part. -/
theorem State.answerRead_report (s : State) (sp : Space) (off v : Nat) : OnlyReports s (s.answerRead sp off v) := by
  cases sp <;> exact s.emit_report _

/-- An access in error while the capture is open is captured once, with every cause that applies. -/
theorem State.badAccess_captured (s : State) (off : Nat) (write bad : Bool) (ho : s.captureOpen = true) (hoff : off < 2 ^ 22)
    (herr : bad = true ∨ 0x210000 ≤ off ∨ s.offsetOff off = true) :
    Captured (blockOf off) (instOf off) off write (!decide (0x210000 ≤ off) && s.offsetOff off) (decide (0x210000 ≤ off)) bad s
      (s.badAccess .bar0 off write bad) := by
  have hc := s.captureError_captured write (!decide (0x210000 ≤ off) && s.offsetOff off) (decide (0x210000 ≤ off)) bad ho
    (blockOf_lt off) (instOf_lt off) hoff
  have hcause : (bad || decide (0x210000 ≤ off) || (!decide (0x210000 ≤ off) && s.offsetOff off)) = true := by
    rcases herr with h | h | h
    · simp [h]
    · simp [h]
    · cases hm : decide (0x210000 ≤ off) <;> simp [h]
  simp only [State.badAccess, hcause, if_true]
  exact hc.trans_reports (.ite .refl (State.answerRead_report ..))

/-- The last output after it, for a read, is its answer. -/
theorem State.badAccess_read (s : State) (off : Nat) (bad : Bool) : (s.badAccess .bar0 off false bad).out.getLast? =
    some (.readData off (if !decide (0x210000 ≤ off) && s.offsetOff off && !bad then 0x0FF00FF0 else 0)) := by
  simp [State.badAccess, State.answerRead, State.emit, Output.byPad]

theorem exec_bar0UnmappedAccess {s : State} {off : BitVec 22} (write : Bool) (ha : s.accessible .bar0 = true) (hu : 0x210000 ≤ off.toNat) :
    exec (.bar0UnmappedAccess .bar0 off write) s = .next (s.badAccess .bar0 off.toNat write false) := by
  simp [exec, execBar0UnmappedAccess, ha, hu, inWindows]

theorem exec_bar0BadAccess {s : State} (off : BitVec 22) (write : Bool) (ha : s.accessible .bar0 = true) :
    exec (.bar0BadAccess .bar0 off write) s = .next (s.badAccess .bar0 off.toNat write true) := by
  simp [exec, execBar0BadAccess, ha, inWindows]

theorem exec_accessOff {s : State} {off : BitVec 22} (write : Bool) (ha : s.accessible .bar0 = true) (hu : off.toNat < 0x210000)
    (hf : s.offsetOff off.toNat = true) : exec (.accessOff .bar0 off write) s = .next (s.badAccess .bar0 off.toNat write false) := by
  simp [exec, execAccessOff, ha, hu, hf, inWindows]

/-! ### A register write, field by field -/

/-- Two fields of a row that share no bit. -/
abbrev FieldInfo.Apart (f g : FieldInfo) : Prop := f.lsb + f.width ≤ g.lsb ∨ g.lsb + g.width ≤ f.lsb

theorem FieldInfo.Apart.bitsOf_withBits {f g : FieldInfo} (h : f.Apart g) (w v : Nat) :
    bitsOf (withBits w f.lsb f.width v) g.lsb g.width = bitsOf w g.lsb g.width :=
  h.elim (bitsOf_withBits_above _ _ _ _ _ _) (bitsOf_withBits_below _ _ _ _ _ _)

/-- The write of one field of a row into its word. -/
def FieldInfo.load (v w : Nat) (f : FieldInfo) : Nat :=
  withBits w f.lsb f.width (f.written (bitsOf w f.lsb f.width) (bitsOf v f.lsb f.width))

/-- Writes of other fields leave a field. -/
theorem bitsOf_foldl_load_apart (v : Nat) (f : FieldInfo) (l : List FieldInfo) (h : ∀ g ∈ l, g.Apart f) (w : Nat) :
    bitsOf (l.foldl (FieldInfo.load v) w) f.lsb f.width = bitsOf w f.lsb f.width := by
  induction l generalizing w with
  | nil => rfl
  | cons g l ih =>
    rw [List.foldl_cons, ih (fun k hk => h k (List.mem_cons_of_mem _ hk))]
    exact (h g List.mem_cons_self).bitsOf_withBits _ _

/-- Of fields that share no bit, each takes what its access type says (R15, R17). -/
theorem bitsOf_foldl_load (v : Nat) {f : FieldInfo} {l : List FieldInfo} (hl : l.Pairwise FieldInfo.Apart) (hf : f ∈ l) (w : Nat) :
    bitsOf (l.foldl (FieldInfo.load v) w) f.lsb f.width = f.written (bitsOf w f.lsb f.width) (bitsOf v f.lsb f.width) % 2 ^ f.width := by
  induction l generalizing w with
  | nil => cases hf
  | cons g l ih =>
    obtain ⟨hg, hl⟩ := List.pairwise_cons.1 hl
    rw [List.foldl_cons]
    rcases List.mem_cons.1 hf with rfl | hf
    · rw [bitsOf_foldl_load_apart v f l (fun k hk => (hg k hk).symm)]
      exact bitsOf_withBits ..
    · rw [ih hl hf, FieldInfo.load, (hg f hf).bitsOf_withBits]

theorem RegRow.bitsOf_written (r : RegRow) (hr : r.fields.Pairwise FieldInfo.Apart) {f : FieldInfo} (hf : f ∈ r.fields) (w v : Nat) :
    bitsOf (r.written w v) f.lsb f.width = f.written (bitsOf w f.lsb f.width) (bitsOf v f.lsb f.width) % 2 ^ f.width :=
  bitsOf_foldl_load v hr hf w

theorem bitsOf_mod_two_pow (w l n : Nat) {m : Nat} (h : l + n ≤ m) : bitsOf (w % 2 ^ m) l n = bitsOf w l n := by
  apply Nat.eq_of_testBit_eq
  intro i
  simp only [bitsOf, Nat.testBit_mod_two_pow, Nat.testBit_div_two_pow]
  by_cases hi : i < n
  · simp [hi, show l + i < m by omega, Nat.add_comm]
  · simp [hi]

theorem State.loadReg_only {P : Nat → Prop} (s : State) (off v : Nat) (h : P off) : OnlyRegs P s (s.loadReg off v) := by
  unfold State.loadReg
  cases regRow? off with
  | none => exact OnlyRegs.refl
  | some r => exact s.setWord_only _ _ h

/-- Of one bit, `old` with the ones of `v` cleared. -/
theorem clearOnes_bit : ∀ old < 2, ∀ v < 2, (Nat.xor old (Nat.land old v) % 2 == 1) = (old == 1 && !(v == 1)) := by decide

/-- The register tables give a field, in a row `r` whose fields share no bit, the description `g`. -/
structure Fld.Described (f : Fld) (r : RegRow) (g : FieldInfo) : Prop where
  row : regRow? f.off = some r
  apart : r.fields.Pairwise FieldInfo.Apart
  mem : g ∈ r.fields
  lsb : g.lsb = f.lsb
  width : g.width = f.width
  fits : f.lsb + f.width ≤ 32

section
variable (s : State) (v : Nat) {f : Fld} {r : RegRow} {g : FieldInfo}

/-- A register field after a host write of its register. -/
theorem State.rd_loadReg (h : f.Described r g) :
    (s.loadReg f.off v).rd f = g.written (s.rd f) (bitsOf v f.lsb f.width) % 2 ^ f.width := by
  have hb := r.bitsOf_written h.apart h.mem (s.word f.off).toNat v
  rw [h.lsb, h.width] at hb
  simp only [State.rd, State.loadReg, h.row, State.word_setWord_same, BitVec.toNat_ofNat, bitsOf_mod_two_pow _ _ _ h.fits, hb]

/-- A read-only field stays (R15). -/
theorem State.rd_loadReg_ro (h : f.Described r g) (ha : g.acc = .ro) : (s.loadReg f.off v).rd f = s.rd f := by
  rw [s.rd_loadReg v h, FieldInfo.written, ha]
  exact Nat.mod_eq_of_lt (s.rd_lt f)

/-- A write-1-to-clear bit keeps its value unless a 1 is written to it (R15). -/
theorem State.flag_loadReg_w1c (h : f.Described r g) (ha : g.acc = .w1c) (h1 : f.width = 1) :
    (s.loadReg f.off v).flag f = (s.flag f && !bitOf v f.lsb) := by
  have ho : s.rd f < 2 := by simpa [h1] using s.rd_lt f
  rw [State.flag, s.rd_loadReg v h, FieldInfo.written, ha, h1]
  exact clearOnes_bit _ ho _ (Nat.mod_lt _ (by decide))
end

/-! ### GLB_ERRSTAT -/

/-- The row of GLB_ERRSTAT: four write-1-to-clear bits, and the block and INST of the capture, which are read-only. -/
def glbErrstatRow : RegRow :=
  ⟨0x10, [], [⟨0, 1, .w1c, 0, .any, 0⟩, ⟨1, 1, .w1c, 0, .any, 0⟩, ⟨2, 1, .w1c, 0, .any, 0⟩, ⟨3, 1, .w1c, 0, .any, 0⟩,
    ⟨8, 8, .ro, 0, .any, 0⟩, ⟨16, 8, .ro, 0, .any, 0⟩]⟩

/-- The register tables describe the fields of GLB_ERRSTAT by this row. -/
theorem glbErrstat_described (f : Fld) (g : FieldInfo) (hoff : f.off = 0x10) (hg : g ∈ glbErrstatRow.fields) (hl : g.lsb = f.lsb)
    (hw : g.width = f.width) (hf : f.lsb + f.width ≤ 32) : f.Described glbErrstatRow g :=
  ⟨hoff ▸ by decide, by decide, hg, hl, hw, hf⟩

/-- Bits 0 to 3 of GLB_ERRSTAT are write-1-to-clear. -/
theorem glbErrstat_bit_mem : ∀ k < 4, (⟨k, 1, .w1c, 0, .any, 0⟩ : FieldInfo) ∈ glbErrstatRow.fields := by decide

/-- An error bit of GLB_ERRSTAT is cleared exactly by a 1 written to it (R32). -/
theorem State.flag_glbErrstat_cleared (s : State) (v k : Nat) (hk : k < 4) :
    (s.loadReg 0x10 v).flag ⟨0x10, k, 1⟩ = (s.flag ⟨0x10, k, 1⟩ && !bitOf v k) :=
  s.flag_loadReg_w1c v (f := ⟨0x10, k, 1⟩)
    (glbErrstat_described _ ⟨k, 1, .w1c, 0, .any, 0⟩ rfl (glbErrstat_bit_mem k hk) rfl rfl (by dsimp only; omega)) rfl rfl

/-- The captured block and INST stay under a write of GLB_ERRSTAT (R32). -/
theorem State.rd_glbErrstat_capture (s : State) (v k : Nat) (hk : k = 8 ∨ k = 16) :
    (s.loadReg 0x10 v).rd ⟨0x10, k, 8⟩ = s.rd ⟨0x10, k, 8⟩ :=
  s.rd_loadReg_ro v (f := ⟨0x10, k, 8⟩)
    (glbErrstat_described _ ⟨k, 8, .ro, 0, .any, 0⟩ rfl (by rcases hk with rfl | rfl <;> decide) rfl rfl (by dsimp only; omega)) rfl

/-- Settles O8: the three causes are one captured access in error each, and the clearing of GLB_ERRSTAT is a write by its row. -/
theorem errorsCapturedAndCleared : Obligations.ErrorsCapturedAndCleared := by
  refine ⟨⟨?_, ?_, ?_⟩, ?_⟩
  · intro off write s ha hu ho
    have h := s.badAccess_captured off.toNat write false ho off.isLt (.inr (.inl hu))
    refine ⟨_, exec_bar0UnmappedAccess write ha hu, h.unmapped.trans (decide_eq_true hu), h.block.trans (blockOf_of_unmapped hu),
      h.inst.trans (instOf_of_unmapped hu), h.offset, h.write, h.count, ?_, h.frame⟩
    rintro rfl
    simpa [hu] using s.badAccess_read off.toNat false
  · intro off write s ha ho
    have h := s.badAccess_captured off.toNat write true ho off.isLt (.inl rfl)
    refine ⟨_, exec_bar0BadAccess off write ha, h.bad, h.block, h.inst, h.offset, h.write, h.unmapped, ?_, h.frame⟩
    rintro rfl
    simpa using s.badAccess_read off.toNat true
  · intro off write s ha hu hf ho
    have h := s.badAccess_captured off.toNat write false ho off.isLt (.inr (.inr hf))
    refine ⟨_, exec_accessOff write ha hu hf, h.accessOff.trans (by simp [hf, hu]), h.block, h.inst, h.offset, h.write, ?_, h.frame⟩
    rintro rfl
    simpa [hf, Nat.not_le.2 hu] using s.badAccess_read off.toNat false
  · intro val s
    exact ⟨_, rfl, s.rd_glbErrstat_capture _ 8 (.inl rfl), s.rd_glbErrstat_capture _ 16 (.inr rfl),
      s.flag_glbErrstat_cleared _ 0 (by decide), s.flag_glbErrstat_cleared _ 1 (by decide), s.flag_glbErrstat_cleared _ 2 (by decide),
      s.loadReg_only _ _ rfl⟩

end Sys2Proof.Machine
end
